-- ==== Sys2Proof/Word.lean ====
section
/-!
DEFINITION. The words of the NZV-3216: bytes, 32-bit register words, 64-bit words (00 R5 to R8).
-/
namespace Sys2Proof

abbrev Byte := BitVec 8
abbrev W16 := BitVec 16
abbrev W32 := BitVec 32
abbrev W64 := BitVec 64

/-- A sparse map: the entries that differ from the default, by strictly rising key. The default is
an argument of the operations (`Sys2Proof.Machine.SMap.get`, `Sys2Proof.Machine.SMap.set`). -/
abbrev SMap (α : Type) := List (Nat × α)

end Sys2Proof
end

