-- ==== Sys2Proof/Syntax.lean ====
section
/-!
DEFINITION. The commands of the block: one constructor of `Instr` for each row of
spec/opcode_table.json, and the types of their operands. The table gives no operands, so these are
the model's reading of what each row's rule needs (log entry 11).
-/
namespace Sys2Proof

/-- Who issues an instruction word: a thread group (logical core, group slot) or a command
processor acting for a context (05 R159, R160; 12 R422). -/
inductive Issuer where
  | group (core slot : Nat)
  | cp (n part ctx : Nat)
  deriving DecidableEq, Repr

/-- The register blocks of 16 R560. -/
inductive Block where
  | tunBeat | tunPart | tunCtx | tunSeq | tunRgnown | tunRing | tunXlat | tunAon | cd | cl | core
  | llmRgn | llmSlice | llmCtl | hbmCtl | hbmStack | bxfCtl | bxfPort | bxfBar | bxfArrive
  | pciFn | pciCtl | pciMsix | secCtl | secKey | pwrCtl | pwrTen | clkCtl | rasCtl | rasD2d | keg
  deriving DecidableEq, Repr

/-- The four places of a register in its window (16 R536). -/
inductive Alias where
  | base | set | clear | toggle
  deriving DecidableEq, Repr

/-- A register named by block, instance, block offset and alias (16 R536, R555). -/
structure RegAddr where
  block : Block
  inst : Nat
  off : Nat
  via : Alias
  deriving DecidableEq, Repr

/-- The requester of a register access (16 R540). -/
inductive Requester where
  | fn (n : Nat)
  | mgmt (snode : Nat)
  | firmware
  | group (core slot : Nat)
  deriving DecidableEq, Repr

/-- An agent that reads or writes a tile: a transfer of a tile mover, a Tun copy engine, a thread
group (FLD, FST, TOPEN), a matrix engine, the landing of a message from the fabric, by its port, source
node and tag (03 R94, R95, R102). -/
inductive TileAgent where
  | xfer (core cmd idx : Nat)
  | copyEngine (e : Nat)
  | group (core slot : Nat)
  | engine (core me : Nat)
  | landing (port snode tag : Nat)
  | aes (e : Nat)
  deriving DecidableEq, Repr

/-- The agent whose access a home or a memory controller serves. -/
inductive Accessor where
  | group (core slot : Nat)
  | xfer (core cmd idx : Nat)
  | copyEngine (e : Nat)
  | window (fn : Nat)
  | fabric (port tag : Nat)
  | unattributed
  deriving DecidableEq, Repr

/-- What the code of a slice's data array says of the word that is read (15 R523). -/
inductive ArrayReport
  | good
  | corrected
  | uncorrectable
  deriving DecidableEq, Repr

/-- What a memory controller sees of one read burst (09 R307): the stack's severity, the word
code's verdict, metadata bits [5:1]. -/
structure BurstReport where
  odCorrected : Bool
  odUncorrected : Bool
  singleBit : Option Nat
  doubleBit : Bool
  metaBits : BitVec 5
  deriving DecidableEq, Repr

/-- The quantities the device measures over a beat (14 R498, R507; 09 R312): inputs from physics. -/
structure Measure where
  watts : Nat
  amps : Nat
  demandAmps : Nat
  dieTemps : List Nat
  stackTemps : List Nat
  slackLow : List Nat
  slackHigh : List Nat
  deriving DecidableEq, Repr

/-- A fabric message: the header of 10 R334, the head payload from byte 16, the body flits. -/
structure Msg where
  vc : Nat
  type : BitVec 6
  dnode : W16
  snode : W16
  tag : BitVec 20
  hops : BitVec 5
  skey : BitVec 12
  status : BitVec 6
  rc : Bool
  param : W32
  head : List Byte
  body : List Byte
  deriving DecidableEq, Repr

/-- The MARK head payload (10 R336). -/
structure MarkBody where
  tbSend : W64
  beatLen : W32
  master : W16
  rank : Nat
  mhops : Nat
  mepoch : W32
  deriving DecidableEq, Repr

/-- The path of an SPDM request (13 R466). -/
inductive SpdmPath where
  | doe (fn : Nat)
  | fabric (snode : Nat)
  deriving DecidableEq, Repr

/-- The four Keg commands (13 R446). -/
inductive KegCmd where
  | read (n : Nat)
  | advance (n : Nat) (v : W64)
  | reserve
  | seed
  deriving DecidableEq, Repr

/-- What a Keg command returns (13 R446). -/
inductive KegResult where
  | value (v : W64)
  | exhausted
  | refused
  | seedWrapped
  deriving DecidableEq, Repr

/-- A Keg response on the link (13 R446). -/
structure KegReply where
  nonce : BitVec 128
  cmd : KegCmd
  result : KegResult
  mac : List Byte
  deriving DecidableEq, Repr

/-- Why a core is fenced (15 R517, R530). -/
inductive FenceCause where
  | manager (v : W32)
  | snoop
  | tileOperation
  | arrayErrors
  | isolated
  deriving DecidableEq, Repr

/-- The clock sources (14, head table). -/
inductive ClockSource where
  | iosc | refclkSys | refclkPcie
  deriving DecidableEq, Repr

/-- What started the thermal safe state (17 R581). -/
inductive TripSource where
  | die (n : Nat)
  | stack (n : Nat)
  deriving DecidableEq, Repr

/-- The outcome of a core's self-test at boot: per cluster the positions that passed (01 R32). -/
structure ClusterTest where
  passed : BitVec 9
  deriving DecidableEq, Repr

/-- The first mark of boot step 7 (11 R380): the port that brought it (8 for BEAT_IN), the mark, and the
TIMEBASE at which it arrived. -/
structure FirstMark where
  port : Nat
  mark : MarkBody
  arrival : W64
  deriving DecidableEq, Repr

/-- What the hardware finds during one boot step (17 R579). Only the fields of the step in progress
are read. -/
structure BootReport where
  selfTestOk : Bool
  kegLinkOk : Bool
  pufOk : Bool
  junctions : List Nat
  slotAReadable : Bool
  slotBReadable : Bool
  clusters : List ClusterTest
  portWidths : List Nat
  failedStacks : List Nat
  pprLeft : List Nat
  repairsOk : Bool
  marginsOk : Bool
  firstMark : Option FirstMark
  deriving DecidableEq, Repr

/-- An IDE_KM message (12 R441): programs or activates the keys of one stream. -/
structure IdeMsg where
  stream : Nat
  activate : Bool
  key : BitVec 256
  deriving DecidableEq, Repr

/-- The commands, one constructor per row of the table. -/
inductive Instr where
  /-- NOP (R194). A group executes the system NOP, which does nothing. -/
  | nop (i : Issuer) (w : W64)
  /-- FENCE (R187). A group stops issuing until every requested wait (LOCAL, GLOBAL, ENGINE) has ended. -/
  | fence (i : Issuer) (w : W64)
  /-- BARG (R132). A group barrier waits until every earlier instruction of the group has completed its accesses, or faults 0x0304 on a partial mask. -/
  | barg (i : Issuer) (w : W64)
  /-- BARC (R190). A group performs the optional fences and arrives at one of its task's four core barriers. -/
  | barc (i : Issuer) (w : W64)
  /-- FSR (R191). A group reads its five-bit floating-point status into a scalar register. -/
  | fsr (i : Issuer) (w : W64)
  /-- FSC (R191). A group reads its floating-point status and then clears the flags selected by IMM32. -/
  | fsc (i : Issuer) (w : W64)
  /-- SEED (R192). A group loads a scalar into the stochastic generator of the named engine or engines. -/
  | seed (i : Issuer) (w : W64)
  /-- SREAD (R193). A group or command processor reads the special value that the selector names. -/
  | sread (i : Issuer) (w : W64)
  /-- YIELD (R194). A group stops issuing until the first beat boundary after the cycle in which YIELD issued. -/
  | yield (i : Issuer) (w : W64)
  /-- BRA (R175). A plain branch is taken on a uniform predicate, or faults 0x0309 when the predicate diverges. -/
  | bra (i : Issuer) (w : W64)
  /-- BRR (R129). A branch with reconvergence pushes a mask-stack entry and runs the taken side. -/
  | brr (i : Issuer) (w : W64)
  /-- JOIN (R129). A join at the top entry's RPC runs the pending threads or pops the entry and restores the saved mask. -/
  | join (i : Issuer) (w : W64)
  /-- BRK (R130). Active threads whose predicate holds leave the active mask and the topmost L entries. -/
  | brk (i : Issuer) (w : W64)
  /-- BRI (R176). The whole group branches to the address in sA, or faults 0x0407 when that address is misaligned. -/
  | bri (i : Issuer) (w : W64)
  /-- CALL (R175). A group writes pc + 8 to the link register and branches to the target. -/
  | call (i : Issuer) (w : W64)
  /-- EXIT (R127). Threads leave every mask, and a group whose launch mask becomes zero ends. -/
  | exit (i : Issuer) (w : W64)
  /-- SCALAR_INTEGER (R163). A group executes one OPC 0x10 scalar integer operation selected by FN. -/
  | scalarInteger (i : Issuer) (w : W64)
  /-- VECTOR_INTEGER (R165). Each participating thread executes one 32-bit or 64-bit vector integer operation. -/
  | vectorInteger (i : Issuer) (w : W64)
  /-- COMPARE_TO_PREDICATE (R166). Each participating thread writes a predicate from a typed comparison. -/
  | compareToPredicate (i : Issuer) (w : W64)
  /-- PREDICATE_LOGIC (R167). Each participating thread combines predicates under FN. -/
  | predicateLogic (i : Issuer) (w : W64)
  /-- SHFL (R168). Each participating thread reads a register of the lane that B names. -/
  | shfl (i : Issuer) (w : W64)
  /-- SHFLX (R168). Each participating thread reads a register of lane t XOR B. -/
  | shflx (i : Issuer) (w : W64)
  /-- SHFL64 (R168). A shuffle by lane index is made on 64-bit values. -/
  | shfl64 (i : Issuer) (w : W64)
  /-- SHFLX64 (R168). A shuffle by XORed lane index is made on 64-bit values. -/
  | shflx64 (i : Issuer) (w : W64)
  /-- BALLOT (R168). The mask of participating threads whose predicate is 1 is written to a scalar register. -/
  | ballot (i : Issuer) (w : W64)
  /-- RDLANE (R168). One lane's vector register is written to a scalar register. -/
  | rdlane (i : Issuer) (w : W64)
  /-- LANEID (R168). Each participating thread writes its own lane number. -/
  | laneid (i : Issuer) (w : W64)
  /-- FP32_ARITHMETIC (R170). Each participating thread executes one OPC 0x30 FP32 operation, paired forms included. -/
  | fp32Arithmetic (i : Issuer) (w : W64)
  /-- FP64_ARITHMETIC (R170). Each participating thread executes one OPC 0x31 FP64 operation. -/
  | fp64Arithmetic (i : Issuer) (w : W64)
  /-- PAIR_ARITHMETIC (R172). Each participating thread executes one pair instruction: an error-free transformation, a pair operation or a pair conversion. -/
  | pairArithmetic (i : Issuer) (w : W64)
  /-- CONVERSION (R171). Each participating thread converts its value between the formats that FN names. -/
  | conversion (i : Issuer) (w : W64)
  /-- LD (R177). Each participating thread, or the group in scalar form, loads from Local, Near or Global space. -/
  | ld (i : Issuer) (w : W64)
  /-- ST (R177). Each participating thread, or the group in scalar form, stores to Local, Near or Global space. -/
  | st (i : Issuer) (w : W64)
  /-- ATOMIC (R182). Each participating thread performs one near or far indivisible read-modify-write selected by FN. -/
  | atomic (i : Issuer) (w : W64)
  /-- FAR_ATOMIC_RESPONSE (R185). The old value of a far atomic returns and its destination registers are released. -/
  | farAtomicResponse (i : Issuer) (id : Nat)
  /-- LACQ (R139). Each participating thread attempts to acquire its lock word and receives a status. -/
  | lacq (i : Issuer) (w : W64)
  /-- LOCK_RETRY (R140). The LOCK_RETRY interval expires, or the line is regained, and a waiting thread retries its acquire. -/
  | lockRetry (i : Issuer)
  /-- LREL (R142). Each participating thread completes its group's global fence and then releases its lock word. -/
  | lrel (i : Issuer) (w : W64)
  /-- THSET (R201). A tile handle is loaded from two scalar registers after a validity check. -/
  | thset (i : Issuer) (w0 w1 : W64)
  /-- THADV (R202). A handle is copied and then advanced in payload and scale-lane offset. -/
  | thadv (i : Issuer) (w0 w1 : W64)
  /-- THGET (R202). Half of a tile handle is read into a scalar register. -/
  | thget (i : Issuer) (w0 w1 : W64)
  /-- THDR (R203). A word of a tile's header entry is read without verification. -/
  | thdr (i : Issuer) (w0 w1 : W64)
  /-- TOPEN (R205). Step 1 of the tile writer order is performed as a test-and-set, and the handle is opened. -/
  | topen (i : Issuer) (w0 w1 : W64)
  /-- TSEAL (R206). The group fences, computes the tile checksum and performs steps 3 and 4 of the writer order. -/
  | tseal (i : Issuer) (w0 w1 : W64)
  /-- FLD (R219). A verified Local tile is loaded into a register fragment. -/
  | fld (i : Issuer) (w0 w1 : W64)
  /-- FST (R220). A register fragment is written as a whole Local tile. -/
  | fst (i : Issuer) (w0 w1 : W64)
  /-- MMA (R211). A matrix multiply-accumulate is queued on a matrix engine. -/
  | mma (i : Issuer) (w0 w1 : W64)
  /-- ACCW (R217). Accumulator sets are written into a Local tile, quantised as needed. -/
  | accw (i : Issuer) (w0 w1 : W64)
  /-- TCVT (R218). A run of Local tiles is converted into a run of tiles of another format. -/
  | tcvt (i : Issuer) (w0 w1 : W64)
  /-- MATRIX_ENGINE_START (R209). A matrix engine starts a queued instruction once enough of the beat remains. -/
  | matrixEngineStart (core me : Nat)
  /-- ENGINE_ATTEMPT_ABANDON (R210). An operand read shows BUSY, a changed GEN or a counted mismatch, so the attempt is abandoned without trace. -/
  | engineAttemptAbandon (core me : Nat)
  /-- ENGINE_INSTRUCTION_COMPLETE (R215). An engine instruction completes, writes its accumulators or tile and posts its flags. -/
  | engineInstructionComplete (core me : Nat)
  /-- COPY (R224). A tile-mover command to copy n tiles between spaces, converting them when asked, is queued. -/
  | copy (i : Issuer) (w0 w1 : W64)
  /-- TRED (R230). A tile-mover command to reduce n source tiles into destination tiles is queued. -/
  | tred (i : Issuer) (w0 w1 : W64)
  /-- TATOM (R233). A tile-mover command performs one far atomic and writes the old value to Local space. -/
  | tatom (i : Issuer) (w0 w1 : W64)
  /-- RANGE_PREFETCH (R234). A range command to prefetch lines into last-level memory ways is queued. -/
  | rangePrefetch (i : Issuer) (w0 w1 : W64)
  /-- RANGE_FLUSH (R234). A range command to write back dirty lines and keep them is queued. -/
  | rangeFlush (i : Issuer) (w0 w1 : W64)
  /-- RANGE_INVALIDATE (R234). A range command to drop every cached copy on this device is queued. -/
  | rangeInvalidate (i : Issuer) (w0 w1 : W64)
  /-- RANGE_DRAFF (R234). A range command to drop lines without write-back is queued. -/
  | rangeDraff (i : Issuer) (w0 w1 : W64)
  /-- WAITGE (R235). A group waits until a completion word reaches a value, or until a beat boundary. -/
  | waitge (i : Issuer) (w0 w1 : W64)
  /-- WAITGE_REACHED (R235). The awaited word reaches the value and WAITGE writes REACHED. -/
  | waitgeReached (i : Issuer)
  /-- PHASE (R236). A group announces a heavy phase of its context to the power controller. -/
  | phase (i : Issuer) (w0 w1 : W64)
  /-- TRANSFER_START (R221). The tile mover starts the next transfer of a command once in-flight capacity allows. -/
  | transferStart (core : Nat)
  /-- TRANSFER_COMPLETE (R221). A tile-mover transfer completes or faults. -/
  | transferComplete (core cmd idx : Nat)
  /-- TILE_WRITE_BEGIN (R94). A waiting device writer finds BUSY clear and performs step 1 of the writer order. -/
  | tileWriteBegin (a : TileAgent)
  /-- TILE_WRITER_TIMEOUT (R94). BUSY stays set for one beat from the writer's first attempt, so fault 0x0105 is raised. -/
  | tileWriterTimeout (a : TileAgent)
  /-- TILE_READ_COMPLETE (R98). The reads of a tile's header, payload and checksum arrive and the tile is verified. -/
  | tileReadComplete (a : TileAgent)
  /-- TORN_TILE_WINDOW_EXPIRY (R98). The one-beat window of a reader expires and fault 0x0102 is raised. -/
  | tornTileWindowExpiry (a : TileAgent)
  /-- GROUP_WATCHDOG_EXPIRY (R144). A group's watchdog count reaches 4,096 and fault 0x0306 is raised. -/
  | groupWatchdogExpiry (i : Issuer)
  /-- BEAT_BOUNDARY (R377). TIMEBASE reaches a multiple of LEN and the device runs every boundary action in order. -/
  | beatBoundary (m : Measure)
  /-- SCRUB_READ (R314). A scheduled scrub read is issued when the controller is idle, or ahead of the queue. -/
  | scrubRead (pc : Nat) (r : BurstReport)
  /-- SWITCH_DRAIN_END (R400). Every outstanding access of a victim has completed or faulted, and its save begins. -/
  | switchDrainEnd (part ctx core : Nat)
  /-- SWITCH_DRAIN_TIMEOUT (R400). An access is still outstanding 250 µs after the boundary, so it times out and the victim is torn down. -/
  | switchDrainTimeout (part ctx core : Nat)
  /-- SWITCH_SAVE_COMPLETE (R401). A core's save slot has been written, and the restore of the incoming context begins. -/
  | switchSaveComplete (part ctx core : Nat)
  /-- SWITCH_RESTORE_COMPLETE (R400). A core's slot has been read back for the incoming context. -/
  | switchRestoreComplete (part ctx core : Nat)
  /-- TEARDOWN_DRAIN_END (R403). The in-flight transfers of a torn-down context have completed, so its cores can return. -/
  | teardownDrainEnd (part ctx : Nat)
  /-- PARTITION_CREATE (R385). Writing TUN_PART_CFG.ENABLE 1 checks the request and creates the partition. -/
  | partitionCreate (part : Nat) (v : W32)
  /-- PARTITION_DESTROY (R388). Writing ENABLE 0 starts the destruction steps of a partition. -/
  | partitionDestroy (part : Nat) (v : W32)
  /-- PARTITION_DESTROY_END (R388). The region fills of a destruction finish and the partition becomes FREE. -/
  | partitionDestroyEnd (part : Nat)
  /-- FREEZE (R405). OP FREEZE with GO takes an ACTIVE partition to FREEZING. -/
  | partFreeze (part : Nat) (v : W32)
  /-- FREEZE_COMPLETE (R405). Save, write-back, Near image and freeze record are done, and the partition is FROZEN. -/
  | partFreezeComplete (part : Nat)
  /-- THAW (R405). OP THAW returns a FROZEN partition to ACTIVE at the next boundary. -/
  | partThaw (part : Nat) (v : W32)
  /-- RESTORE (R407). OP RESTORE checks the freeze image and loads it into the partition. -/
  | partRestore (part : Nat) (v : W32)
  /-- CONTEXT_ENABLE (R404). Writing TUN_CTX.ENABLE 1 enables a context, and returns a FAULTED one to IDLE. -/
  | contextEnable (part ctx : Nat) (v : W32)
  /-- CONTEXT_DISABLE (R393). Writing TUN_CTX.ENABLE 0 tears a context down with FAULT 0. -/
  | contextDisable (part ctx : Nat) (v : W32)
  /-- REGION_OWNER_WRITE (R390). A TUN_RGNOWN write changes OWNER or LEND only under its conditions. -/
  | regionOwnerWrite (n : Nat) (v : W32)
  /-- REGION_DISABLE (R248). Writing VALID 0 sets FILLING and drains the region's cached lines. -/
  | regionDisable (n : Nat) (v : W32)
  /-- REGION_DRAIN_COMPLETE (R248). The drain ends and VALID and FILLING clear together. -/
  | regionDrainComplete (n : Nat)
  /-- REGION_ENABLE (R249). Writing VALID 1 checks capacity and re-allots the region or starts its zero-fill. -/
  | regionEnable (n : Nat) (v : W32)
  /-- REGION_ZERO_FILL_COMPLETE (R316). A region's zero-fill ends, so FILLING clears and VALID sets. -/
  | regionZeroFillComplete (n : Nat)
  /-- WAY_REASSIGN (R276). A write to LLM_SLICE_WAY changes a way's mode or owner, through BUSY for cache ways. -/
  | wayReassign (slice way : Nat) (v : W32)
  /-- WAY_REASSIGN_COMPLETE (R276). The way's write-back ends and the new MODE and OWNER take effect. -/
  | wayReassignComplete (slice way : Nat)
  /-- HOST_RANGE_FLUSH (R303). GO with FN flush starts a flush of the LLM_CTL range. -/
  | hostRangeFlush (v : W32)
  /-- HOST_RANGE_INVALIDATE (R303). GO with FN invalidate starts an invalidate of the LLM_CTL range. -/
  | hostRangeInvalidate (v : W32)
  /-- HOST_RANGE_DRAFF (R303). GO with FN draff starts a draff of the LLM_CTL range. -/
  | hostRangeDraff (v : W32)
  /-- GETS (R287). The home receives a read request for a line from an L1. -/
  | gets (core slot line : Nat) (r : ArrayReport)
  /-- GETM (R287). The home receives an ownership request for a line from an L1. -/
  | getm (core slot line : Nat)
  /-- PUTF (R287). The home receives the eviction notice of a forwarder. -/
  | putf (core line : Nat)
  /-- PUTE (R287). The home receives the eviction notice of an exclusive owner. -/
  | pute (core line : Nat)
  /-- PUTM (R287). The home receives a modified owner's eviction with its data. -/
  | putm (core line : Nat)
  /-- L1_GRANT (R286). An L1 receives data and a grant of E, F, S or M for its request. -/
  | l1Grant (core line : Nat)
  /-- INV (R286). An L1 receives an invalidate and acknowledges it. -/
  | l1Inv (core line : Nat)
  /-- FWDS (R286). An L1 receives a request to send data to a reader. -/
  | l1Fwds (core line : Nat)
  /-- FWDM (R286). An L1 receives a request to pass data and ownership to a new owner. -/
  | l1Fwdm (core line : Nat)
  /-- SNOOP (R286). An L1 sends data to a non-allocating agent without a state change. -/
  | l1Snoop (core line : Nat)
  /-- RECALL (R286). An L1 returns any dirty data and invalidates the line. -/
  | l1Recall (core line : Nat)
  /-- FLUSH_REQUEST (R286). An M owner sends its data to the home and keeps the line in E. -/
  | l1FlushRequest (core line : Nat)
  /-- L1_RESPONSE (R287). An L1's acknowledgement or data reaches the home and the pending request proceeds. -/
  | l1Response (core line : Nat)
  /-- NON_ALLOCATING_READ (R290). The home serves a read by a non-allocating agent. -/
  | nonAllocatingRead (line : Nat) (who : Accessor)
  /-- NON_ALLOCATING_WRITE (R290). The home applies a write by a non-allocating agent, merging recalled bytes. -/
  | nonAllocatingWrite (line : Nat) (who : Accessor) (mask : BitVec 128) (data : List Byte)
  /-- FAR_OPERATION (R293). A far atomic or reduction contribution arrives at the home's far-operation unit. -/
  | farOperation (slice : Nat)
  /-- FAR_OP_RESUME (R294). A far operation stalled on a reduction-busy set gets its line and proceeds. -/
  | farOpResume (slice : Nat)
  /-- SNOOP_TIMEOUT (R296). The home's wait on an L1 exceeds SNOOP_TO, so the line is poisoned and the core fenced. -/
  | snoopTimeout (line : Nat)
  /-- MEMORY_READ_COMPLETE (R307). An HBM read burst returns and is checked for severity, word code and poison. -/
  | memoryReadComplete (pc line : Nat) (who : Accessor) (r : BurstReport)
  /-- SOFT_PPR_COMPLETE (R318). The soft repair ends and the pseudo-channel stops stalling. -/
  | softPprComplete (pc : Nat)
  /-- CA_PARITY_ERROR (R310). A stack reports a command/address parity error, so the command is retried and the channel may retrain. -/
  | caParityError (stack chan : Nat) (retryPassed : Bool)
  /-- CHANNEL_RETRAIN_END (R310). A channel's retraining passes, or fails and marks the channel failed. -/
  | channelRetrainEnd (stack chan : Nat) (passed : Bool)
  /-- PSEUDO_CHANNEL_RETIRE (R321). HBM_CTL_RETIRE GO checks a retirement and places shares on substitute pseudo-channels. -/
  | pseudoChannelRetire (v : W32)
  /-- MARK (R362). A beat mark arrives and is accepted, forwarded and used to correct TIMEBASE, or is ignored. -/
  | beatMark (port : Nat) (m : Msg) (arrival : W64)
  /-- BEAT_IN_FRAME (R573). A Manchester-coded mark frame arrives on BEAT_IN and is checked by CRC. -/
  | beatInFrame (frame : List Byte) (arrival : W64)
  /-- DLYREQ (R361). A port receives a delay request and answers with DLYRSP. -/
  | dlyreq (port : Nat) (m : Msg) (t2 t3 : W64)
  /-- DLYRSP (R361). A port receives a delay response and records the one-way delay. -/
  | dlyrsp (port : Nat) (m : Msg) (t4 : W64)
  /-- BARRIVE (R357). A barrier unit receives a child's arrival for its round. -/
  | barrive (port : Nat) (m : Msg)
  /-- BRELEASE (R357). A barrier unit receives its parent's release and passes it to its children. -/
  | brelease (port : Nat) (m : Msg)
  /-- DIGEST (R366). A collector receives a DIGEST message and writes the record, or drops it. -/
  | digestMsg (port : Nat) (m : Msg)
  /-- MGMT_REGISTER_READ (R349). A management request reads a register with the rights of the physical function. -/
  | mgmtRegisterRead (port : Nat) (m : Msg)
  /-- MGMT_REGISTER_WRITE (R349). A management request writes a register with the rights of the physical function. -/
  | mgmtRegisterWrite (port : Nat) (m : Msg)
  /-- MGMT_SPDM_FRAGMENT (R468). A fragment of an SPDM message arrives over the fabric and is reassembled. -/
  | mgmtSpdmFragment (port : Nat) (m : Msg)
  /-- SPDM_FRAGMENT_TIMEOUT (R468). Not all fragments of a message arrive within 1 s, so the message is discarded. -/
  | spdmFragmentTimeout (snode msgno : Nat)
  /-- MGMTRSP (R351). A management response completes a class 2 remote access of a command processor. -/
  | mgmtrsp (port : Nat) (m : Msg)
  /-- RD (R351). The home device serves a remote line read. -/
  | rd (port : Nat) (m : Msg)
  /-- WR (R351). The home device applies a remote line write with its byte mask. -/
  | wr (port : Nat) (m : Msg)
  /-- ATOM (R351). The home device executes a remote far atomic. -/
  | atom (port : Nat) (m : Msg)
  /-- TRD (R338). The home device reads a tile in the order of R98 and returns it unjudged. -/
  | trd (port : Nat) (m : Msg)
  /-- TWR (R337). A device checks a landing tile's checksum and lands it or answers STATUS 5. -/
  | twr (port : Nat) (m : Msg)
  /-- TRED_CONTRIBUTION (R337). A device checks an arriving reduction contribution and applies it under R231. -/
  | tredContribution (port : Nat) (m : Msg)
  /-- RDRSP (R351). Line data arrives for a remote read, and the proxy keeps it when RC is 1. -/
  | rdrsp (port : Nat) (m : Msg)
  /-- WRACK (R351). A remote store's acknowledgement arrives and the store completes. -/
  | wrack (port : Nat) (m : Msg)
  /-- ATRSP (R351). A remote atomic's old value arrives. -/
  | atrsp (port : Nat) (m : Msg)
  /-- TWRACK (R351). A remote tile write or reduction is acknowledged. -/
  | twrack (port : Nat) (m : Msg)
  /-- TRDRSP (R338). Tile read data arrives and the requester verifies it. -/
  | trdrsp (port : Nat) (m : Msg)
  /-- ERR (R354). An error response ends a request with its STATUS. -/
  | errRsp (port : Nat) (m : Msg)
  /-- RESP_TIMEOUT (R354). No response arrives within RESP_TO, so the request ends with fault 0x0601. -/
  | respTimeout (tag : Nat)
  /-- STALL_TIMEOUT (R347). A port VC has no credit for STALL_TO, so its queued messages are discarded. -/
  | stallTimeout (port vc : Nat)
  /-- LANE_FAILURE (R329). An optical lane loses light or exceeds the replay limit, so a spare is assigned or the port narrows. -/
  | laneFailure (engine lane : Nat)
  /-- FLIT_CRC_ERROR (R332). A flit fails its link CRC and is resent from the replay buffer. -/
  | flitCrcError (port lane : Nat)
  /-- PORT_ENABLE (R331). Setting BXF_PORT_CTRL.ENABLE lights the lasers and starts training. -/
  | portEnable (port : Nat) (v : W32)
  /-- PORT_RETRAIN (R372). Writing RETRAIN retrains the fabric link. -/
  | portRetrain (port : Nat) (v : W32)
  /-- TRAINING_COMPLETE (R331). Port training ends: UP, UP_NARROW or, on a peer mismatch, REFUSED. -/
  | trainingComplete (port : Nat) (peer : Option W16) (peerLanes : Nat) (delay : W16)
  /-- TRAINING_RETRY (R331). Training has not completed, so it is retried every 1 s while ENABLE is 1. -/
  | trainingRetry (port : Nat)
  /-- ROUTE_DATA_WRITE (R369). A write replaces the selected route entry whole. -/
  | routeDataWrite (v : W32)
  /-- PKEY_WRITE (R370). A partition key write takes effect, or is refused on a duplicate or zero SKEY. -/
  | pkeyWrite (n : Nat) (v : W32)
  /-- SPAN_WINDOW_WRITE (R356). A span window write is checked and decoded, or refused. -/
  | spanWindowWrite (n : Nat) (wordB : Bool) (v : W32)
  /-- BXF_ARRIVE (R374). A store to a partition's arrival register counts a local barrier arrival. -/
  | bxfArrive (who : Issuer) (b : Nat) (v : W32)
  /-- BXF_BAR_ARRIVE (R357). The manager's write counts one local arrival of a barrier unit. -/
  | bxfBarArrive (b : Nat) (v : W32)
  /-- BARRIER_UNIT_ENABLE (R373). Setting ENABLE clears a unit's counts and its round count. -/
  | barrierUnitEnable (b : Nat) (v : W32)
  /-- VC0_WAIT_CLEAR (R372). Writing CLEAR sets the VC 0 wait maximum to 0. -/
  | vc0WaitClear (port : Nat) (v : W32)
  /-- TASK (R429). A ring command hands a task to its context for placement. -/
  | ringTask (part ctx : Nat)
  /-- RING_COPY (R430). A ring command copies tiles or bytes on a Tun copy engine. -/
  | ringCopy (part ctx : Nat)
  /-- COPY_ENGINE_COMPLETE (R430). A copy-engine command's writes are visible and the command completes. -/
  | copyEngineComplete (e : Nat) (host : List Byte) (hostAgain : List Byte)
  /-- WAITMEM (R429). A ring command waits until a word reaches a value at a boundary. -/
  | ringWaitmem (part ctx : Nat)
  /-- WRITE (R429). A ring command writes an 8-byte value. -/
  | ringWrite (part ctx : Nat)
  /-- RING_PHASE (R429). A ring command gives its context a phase hint. -/
  | ringPhase (part ctx : Nat)
  /-- RING_NOP (R429). A ring command that does nothing. -/
  | ringNop (part ctx : Nat)
  /-- SEALED_PACKAGE_LOAD (R474). A ring command decrypts, checks and writes the chunks of a sealed package into a cask region and its mirror. -/
  | sealedPackageLoad (part ctx : Nat) (host : List Byte)
  /-- SEALED_LOAD_COMPLETE (R474). Every tile of every chunk is written in both copies and PACKAGE_ID is set. -/
  | sealedLoadComplete (e : Nat)
  /-- COMMAND_FETCH_COMPLETE (R425). Ring entries fetched from host memory arrive and are considered. -/
  | commandFetchComplete (part ctx : Nat) (entries : List (List W64))
  /-- TASK_COMPLETE (R432). Every group of every instance has ended and its accesses completed, so the record is written. -/
  | taskComplete (part ctx n : Nat)
  /-- RING_STALL_TIMEOUT (R427). The oldest command makes no progress for 2^(STALL+8) beats, so the ring enters ERROR. -/
  | ringStallTimeout (part ctx : Nat)
  /-- RING_ENABLE (R422). Writing TUN_RING_CTRL.ENABLE 1 sets HEAD to 0 and allows polling. -/
  | ringEnable (part ctx : Nat) (v : W32)
  /-- RING_DISABLE (R434). Writing ENABLE 0 stops fetching and abandons fetched commands that have not started. -/
  | ringDisable (part ctx : Nat) (v : W32)
  /-- COPY_TIMEOUT (R514). A transfer or copy-engine command exceeds the copy timeout, raising 0x0803. -/
  | copyTimeout (a : TileAgent)
  /-- TRANSLATION_INVALIDATE (R440). TUN_XLAT_INV GO drops cached translations in its scope. -/
  | translationInvalidate (v : W32)
  /-- WINDOW_READ (R421). A host read through Base Address Region 2 is served non-allocating. -/
  | windowRead (fn : Nat) (ofs : W64) (len : Nat)
  /-- WINDOW_WRITE (R421). A host posted write through Base Address Region 2 is applied or dropped. -/
  | windowWrite (fn : Nat) (ofs : W64) (data : List Byte)
  /-- REGISTER_WRITE (R536). A write to a register with no row of its own, through the base or an alias, applies the access codes. -/
  | registerWrite (who : Requester) (a : RegAddr) (v : W32)
  /-- VF_FLR (R416). A virtual function's reset tears down its partition's contexts and resets its PCIe state. -/
  | vfFlr (n : Nat)
  /-- HOST_REQUEST_FAILURE (R414). An outbound request to host memory fails and the context is torn down with 0x0207. -/
  | hostRequestFailure (part ctx : Nat)
  /-- PCIE_ATOMICOP (R413). An inbound AtomicOp is completed with Unsupported Request. -/
  | pcieAtomicop (fn : Nat) (ofs : W64)
  /-- DOE_ABORT (R442). A DOE abort completes within 1 ms. -/
  | doeAbort (fn : Nat)
  /-- GET_VERSION (R466). The SPDM responder answers GET_VERSION. -/
  | getVersion (via : SpdmPath) (body : List Byte)
  /-- GET_CAPABILITIES (R466). The SPDM responder answers GET_CAPABILITIES. -/
  | getCapabilities (via : SpdmPath) (body : List Byte)
  /-- NEGOTIATE_ALGORITHMS (R466). The SPDM responder answers NEGOTIATE_ALGORITHMS. -/
  | negotiateAlgorithms (via : SpdmPath) (body : List Byte)
  /-- GET_DIGESTS (R466). The SPDM responder answers GET_DIGESTS. -/
  | getDigests (via : SpdmPath) (body : List Byte)
  /-- GET_CERTIFICATE (R466). The SPDM responder returns the certificate chain of slot 0. -/
  | getCertificate (via : SpdmPath) (slot ofs len : Nat)
  /-- CHALLENGE (R466). The responder signs CHALLENGE_AUTH, consuming one identity index. -/
  | spdmChallenge (via : SpdmPath) (body : List Byte)
  /-- GET_MEASUREMENTS (R467). The responder reports measurement blocks 1–8, signed on request. -/
  | getMeasurements (via : SpdmPath) (index : Nat) (signed : Bool) (body : List Byte)
  /-- KEY_EXCHANGE (R466). The responder signs KEY_EXCHANGE_RSP and opens a secure session. -/
  | keyExchange (via : SpdmPath) (body : List Byte)
  /-- FINISH (R466). The SPDM responder answers FINISH. -/
  | spdmFinish (via : SpdmPath) (body : List Byte)
  /-- HEARTBEAT (R466). The SPDM responder answers HEARTBEAT. -/
  | spdmHeartbeat (via : SpdmPath) (body : List Byte)
  /-- KEY_UPDATE (R466). The SPDM responder answers KEY_UPDATE. -/
  | keyUpdate (via : SpdmPath) (body : List Byte)
  /-- END_SESSION (R466). The SPDM responder ends a secure session. -/
  | endSession (via : SpdmPath) (body : List Byte)
  /-- CHUNK_SEND (R466). The SPDM responder receives a chunk of a large message. -/
  | chunkSend (via : SpdmPath) (body : List Byte)
  /-- CHUNK_GET (R466). The SPDM responder returns a chunk of a large response. -/
  | chunkGet (via : SpdmPath) (body : List Byte)
  /-- READ (R446). The Keg returns the value of a counter. -/
  | kegRead (n : Nat) (nonce : BitVec 128)
  /-- ADVANCE (R446). The Keg raises a counter to v when v exceeds it. -/
  | kegAdvance (n : Nat) (v : W64) (nonce : BitVec 128)
  /-- RESERVE (R446). The Keg advances counter 2 by 1,024 and returns the previous value, or reports EXHAUSTED. -/
  | kegReserve (nonce : BitVec 128)
  /-- SEED_COMMAND (R446). The Keg returns KEG_SEED once per power-up. -/
  | kegSeed (nonce : BitVec 128)
  /-- KEG_RESPONSE (R446). A Keg response arrives and the Tun checks its MAC. -/
  | kegResponse (r : KegReply)
  /-- FIRMWARE_COMMIT (R453). SEC_CTL_COMMIT.GO makes firmware advance counters 0 and 1. -/
  | firmwareCommit (v : W32)
  /-- EPOCH_ADVANCE (R464). SEC_CTL_COMMIT.EPOCH advances counter 3, makes a new ML-KEM pair and clears every circle key. -/
  | epochAdvance (v : W32)
  /-- RECORD_START (R460). REC_CTRL.START begins receiving a firmware image or a configuration area. -/
  | recordStart (v : W32)
  /-- RECORD_DATA (R460). A REC_DATA write delivers the next image word. -/
  | recordData (v : W32)
  /-- RECORD_DONE (R460). REC_CTRL.DONE ends the transfer, after which the data are judged and programmed. -/
  | recordDone (v : W32)
  /-- KEY_LOAD (R470). SEC_KEY OP LOAD unwraps a key release blob into a circle slot. -/
  | keyLoad (part : Nat) (v : W32)
  /-- KEY_LOAD_COMPLETE (R470). A key load succeeds or fails whole. -/
  | keyLoadComplete (part : Nat)
  /-- KEY_DROP (R471). SEC_KEY OP DROP clears a circle slot. -/
  | keyDrop (part : Nat) (v : W32)
  /-- CASK_WAIT_TIMEOUT (R477). A cask tile stays poisoned for CASK_WAIT beats, raising 0x0108. -/
  | caskWaitTimeout (a : TileAgent)
  /-- DOMAIN_SWITCH (R494). A write of CLK_DOMn.REF requests a switch and starts the new PLL. -/
  | domainSwitch (n : Nat) (v : W32)
  /-- PLL_LOCK (R494). The new PLL locks, or the switch is abandoned. -/
  | pllLock (n : Nat) (locked : Bool)
  /-- DOMAIN_STOP_POINT (R494). The domain reaches its stop point and its clock stops. -/
  | domainStopPoint (n : Nat)
  /-- DOMAIN_RESTART (R494). After 64 cycles of the new source the domain restarts and PEND clears. -/
  | domainRestart (n : Nat)
  /-- REFERENCE_FAILURE (R495). A domain reference stops or leaves ±1%, so the device enters the safe state. -/
  | referenceFailure (src : ClockSource)
  /-- TRIM_WINDOW (R486). A trim window ends and the trim code moves toward zero error. -/
  | trimWindow (err : W16)
  /-- UNIT_WAKE (R493). A stopped unit under AUTO gating wakes for its work or access. -/
  | unitWake (gate bit : Nat)
  /-- CURRENT_LIMIT_EVENT (R503). Current exceeds a limit, so a die's clusters drop to duty 32 within 100 ns. -/
  | currentLimitEvent (die : Nat)
  /-- DROOP_EVENT (R503). A cluster's supply droops, so its clock stretches or its issue is withheld. -/
  | droopEvent (cluster : Nat)
  /-- CORE_FENCE (R517). A core is fenced: its router port is cut and its contexts are torn down with 0x0801. -/
  | coreFence (cause : FenceCause) (phys : Nat)
  /-- CORE_UNFENCE (R520). RAS_FENCE UNFENCE returns a tested core to service, or is refused. -/
  | coreUnfence (v : W32)
  /-- TILE_OPERATION_TIMEOUT (R514). An engine instruction exceeds 4,096 core cycles, so the core is fenced. -/
  | tileOperationTimeout (core me : Nat)
  /-- CORE_ARRAY_ERROR (R519). A core array word has a corrected or uncorrectable error. -/
  | coreArrayError (core array word : Nat) (correctable : Bool)
  /-- CORE_SPARE_BRING_IN (R522). RAS_CELLAR KIND 0 tests the cluster spare and gives it the fenced core's logical number. -/
  | coreSpareBringIn (v : W32)
  /-- WAY_SPARE_BRING_IN (R523). RAS_CELLAR KIND 1 moves a logical way onto the slice's spare way. -/
  | waySpareBringIn (v : W32)
  /-- SPARE_BRING_IN_COMPLETE (R521). A bring-in ends and DONE or ERR sets. -/
  | spareBringInComplete (passed : Bool)
  /-- IN_FIELD_TEST (R524). RAS_IFT GO starts a test of a fenced core or of a way. -/
  | inFieldTest (v : W32)
  /-- IN_FIELD_TEST_COMPLETE (R524). A test ends in PASS or FAIL, and a tested way's lines are moved back or kept on the spare. -/
  | inFieldTestComplete (passed : Bool)
  /-- DIRECTORY_SAMPLE (R534). DIR_SEL GO samples one directory entry in one cycle. -/
  | directorySample (v : W32)
  /-- D2D_LANE_FAILURE (R526). A die-to-die lane fails, so a spare is assigned, the port narrows or a neighbour port leaves service. -/
  | d2dLaneFailure (port lane : Nat)
  /-- D2D_TRAINING_COMPLETE (R529). A die-to-die training attempt completes at a width. -/
  | d2dTrainingComplete (port capTun capDie : Nat)
  /-- D2D_TRAINING_TIMEOUT (R528). A training attempt exceeds 100 µs, and a third failure in 1 s makes the port FAILED. -/
  | d2dTrainingTimeout (port : Nat) (withinSecond : Bool)
  /-- D2D_RETRAIN (R535). Writing RAS_D2D RETRAIN retrains both sides. -/
  | d2dRetrain (port : Nat) (v : W32)
  /-- D2D_PARTIAL_RESET (R529). Writing RESET resets one side's port logic. -/
  | d2dPartialReset (port : Nat) (v : W32)
  /-- D2D_FATAL_ERROR (R529). A link-layer fatal error causes a partial reset of that side. -/
  | d2dFatalError (port : Nat) (dieSide : Bool)
  /-- VIN_AUX_ON (R578). VIN_AUX rises into range and AON reset runs. -/
  | vinAuxOn (millivolts : Nat)
  /-- VIN_MAIN_ON (R569). VIN_MAIN reaches 11.4 V with VIN_AUX present and the regulators start. -/
  | vinMainOn (millivolts : Nat)
  /-- BOOT_STEP_END (R579). A boot step ends: the next step begins, or the device halts or enters RECOVERY. -/
  | bootStepEnd (r : BootReport)
  /-- THERMAL_TRIP (R581). A junction reaches 105 °C or a stack reaches TRIP, so the thermal safe state starts. -/
  | thermalTrip (what : TripSource)
  /-- THERMAL_RECHECK (R582). Every 100 ms step 1 rereads the junction sensors and releases THERMTRIP_N once all are below 95 °C. -/
  | thermalRecheck (tj : List Nat)
  /-- RESTORE_COMPLETE (R407). The Near image, context words and sequence slots have been loaded, and a RESTORING partition returns to ACTIVE. -/
  | partRestoreComplete (part : Nat)
  /-- CURRENT_LIMIT_RELEASE (R503). The current falls below 95% of the limit, and the die's clusters leave duty 32. -/
  | currentLimitRelease (die : Nat)
  /-- PLL_LOSS_OF_LOCK (R497). Under Kuori compatibility, a PLL loses lock and stops its output at once. -/
  | pllLossOfLock (n : Nat)
  /-- FABRIC_RETRAIN_FAILURE (R332). A fabric link retrain fails, and the third failure within one second makes the port FAILED and discards its replay buffer. -/
  | fabricRetrainFailure (port : Nat) (withinSecond : Bool)
  /-- IDE_KM (R441). An IDE_KM message over an SPDM secure session programs or activates IDE stream keys. -/
  | ideKm (m : IdeMsg)
  /-- IDE_INTEGRITY_FAILURE (R441). A received TLP fails its IDE integrity check, and the failure is handled as the specification gives and logged through AER. -/
  | ideIntegrityFailure (stream : Nat)
  /-- DOE_DISCOVERY (R442). A DOE mailbox answers a DOE Discovery request with the protocols it supports. -/
  | doeDiscovery (fn : Nat)
  /-- PCIE_LINK_UP (R572). Training of the PCIe link ends and the link is up at its negotiated width and rate. -/
  | pcieLinkUp (lanes rate : Nat)
  /-- DIGEST_COMPUTED (R366). The digest is written to BXF_CTL_DIGEST and sent to the collectors. -/
  | digestComputed
  /-- HOST_RANGE_DONE (R302). A range operation meets its completion condition and DONE sets. -/
  | hostRangeDone
  /-- RETIREMENT_MOVE_COMPLETE (R323). The last share has been moved and every agent switches to the new map. -/
  | retirementMoveComplete
  /-- INVALIDATION_DONE (R440). Every access translated with a dropped entry has performed, and DONE sets. -/
  | invalidationDone
  /-- AON_WRITE_APPLY (R547). At an AON edge the latched writes are applied and the copies refreshed. -/
  | aonWriteApply
  /-- PF_FLR (R417). The physical function's reset tears down every context and clears VF Enable. -/
  | pfFlr
  /-- VF_ENABLE_SET (R435). Setting VF Enable takes each virtual function's MSI-X count. -/
  | vfEnableSet
  /-- VF_ENABLE_CLEAR (R416). Clearing VF Enable acts as a reset of every virtual function. -/
  | vfEnableClear
  /-- PCIE_LINK_DOWN (R414). The PCIe link goes down and outstanding outbound requests fail. -/
  | pcieLinkDown
  /-- RECORD_PROGRAM_COMPLETE (R454). Programming and judging of a sent image or area ends, with success or ERR. -/
  | recordProgramComplete
  /-- DEBUG_ACCESS (R465). JTAG is used beyond boundary scan, or in-field test reaches the Tun, so the key vault is cleared. -/
  | debugAccess
  /-- SOURCE_RECOVERY (R495). The failed source runs within ±1% for 1 ms, so the PLLs relock and retraining starts. -/
  | sourceRecovery
  /-- SAFE_STATE_EXIT (R495). Retraining ends, issue resumes and FAULT_N is released. -/
  | safeStateExit
  /-- KUORI_SOURCE_FAILURE (R497). Two monitor windows find a reference out of range, so its domains restart on IOSC. -/
  | kuoriSourceFailure
  /-- VIN_AUX_LOSS (R570). VIN_AUX falls below 3.0 V, so every regulator switches off. -/
  | vinAuxLoss
  /-- VIN_MAIN_LOSS (R570). VIN_MAIN leaves its range while VIN_AUX stays. -/
  | vinMainLoss
  /-- REGULATORS_IN_REGULATION (R578). Every regulator is in regulation, so cold reset ends, PWRGOOD is released and boot begins. -/
  | regulatorsInRegulation
  /-- LINK_RESET (R578). PERST_N is asserted and the PCIe link and function state reset. -/
  | linkReset
  /-- PERST_DEASSERT (R572). PERST_N is deasserted and the endpoint trains the link. -/
  | perstDeassert
  /-- TAP_RESET (R578). TRST_N low or five TCK edges with TMS high reset the JTAG TAP. -/
  | tapReset
  /-- BOOT_STEP (R574). A management read of command 0x00 returns the boot step. -/
  | bootStep
  /-- BOOT_RESULT (R574). A management read of command 0x01 returns the boot result. -/
  | bootResult
  /-- HALT_CODE (R574). A management read of command 0x02 returns the halt code. -/
  | haltCode
  /-- MGMT_STATUS_READ (R574). A management read of command 0x03 returns SR, DEGRADED, SAFE, THERMTRIP and FAULT_N. -/
  | mgmtStatusRead
  /-- MGMT_TEMPERATURE_READ (R574). A management read of command 0x04 returns the hottest junction. -/
  | mgmtTemperatureRead
  /-- MGMT_POWER_READ (R574). A management read of command 0x05 returns PWR_CTL_MS.WATTS. -/
  | mgmtPowerRead
  /-- ALERT_RESPONSE (R574). The device answers the SMBus Alert Response Address. -/
  | alertResponse
  deriving DecidableEq, Repr

end Sys2Proof
end

