-- ==== Sys2Proof/Decode.lean ====
section
/-!
DEFINITION. spec/opcode_table.json gives bits to no row: its rows are operations and events of the
block, and no word spells one. (The instruction words of 05 and 06 are operands of the rows that
issue them; `Sys2Proof.Machine.classOf` reads them.)
-/
namespace Sys2Proof

/-- The command a word spells by the table's bits: none, since the table gives no row any. -/
def decodeTableWord (_nbits _w : Nat) : Option Instr := none

end Sys2Proof
end

