-- ==== Sys2Proof/Machine/Float.lean ====
section
/-!
DEFINITION. Number formats and arithmetic (02 R40 to R76): exact values, rounding, flags, the
stochastic generator, comparisons, conversions and pairs. Every operation is computed on exact
dyadic values and rounded once.
-/
namespace Sys2Proof.Machine

/-- The nine element formats of 02 R40 (E8M0 is a scale and is handled apart). -/
inductive Fmt where
  | f64 | f32 | bf16 | f16 | e4m3 | e5m2 | e3m2 | e2m3 | e2m1
  deriving DecidableEq, Repr

/-- Stored significand bits (02 R40). -/
def Fmt.mbits : Fmt → Nat
  | .f64 => 52 | .f32 => 23 | .bf16 => 7 | .f16 => 10 | .e4m3 => 3 | .e5m2 => 2
  | .e3m2 => 2 | .e2m3 => 3 | .e2m1 => 1

/-- Exponent bits (02 R40). -/
def Fmt.ebits : Fmt → Nat
  | .f64 => 11 | .f32 => 8 | .bf16 => 8 | .f16 => 5 | .e4m3 => 4 | .e5m2 => 5
  | .e3m2 => 3 | .e2m3 => 2 | .e2m1 => 2

/-- Exponent bias (02 R40). -/
def Fmt.bias : Fmt → Nat
  | .f64 => 1023 | .f32 => 127 | .bf16 => 127 | .f16 => 15 | .e4m3 => 7 | .e5m2 => 15
  | .e3m2 => 3 | .e2m3 => 1 | .e2m1 => 1

/-- Whether the format has infinities (02 R40). -/
def Fmt.hasInf : Fmt → Bool
  | .f64 | .f32 | .bf16 | .f16 | .e5m2 => true
  | .e4m3 | .e3m2 | .e2m3 | .e2m1 => false

/-- The whole width of a code. -/
def Fmt.width (f : Fmt) : Nat := 1 + f.ebits + f.mbits

/-- The exponent field of the largest finite value. -/
def Fmt.topField (f : Fmt) : Nat := if f.hasInf then 2 ^ f.ebits - 2 else 2 ^ f.ebits - 1

/-- The significand field of the largest finite value: 0x7E in E4M3 (02 R40). -/
def Fmt.topMant (f : Fmt) : Nat :=
  match f with
  | .e4m3 => 6
  | f => 2 ^ f.mbits - 1

/-- The code of the largest finite value, positive. -/
def Fmt.maxCode (f : Fmt) : Nat := f.topField * 2 ^ f.mbits + f.topMant

/-- The sign bit as a number. -/
def Fmt.signBit (f : Fmt) (neg : Bool) : Nat := if neg then 2 ^ (f.ebits + f.mbits) else 0

/-- The code of an infinity; only read of formats that have one. -/
def Fmt.infCode (f : Fmt) (neg : Bool) : Nat :=
  f.signBit neg + (2 ^ f.ebits - 1) * 2 ^ f.mbits

/-- The canonical NaN of 02 R45. The formats without NaN take code 0: their NaN is the block's
scale 0xFF (02 R52). -/
def Fmt.nanCode : Fmt → Nat
  | .f64 => 0x7FF8000000000000
  | .f32 => 0x7FC00000
  | .bf16 => 0x7FC0
  | .f16 => 0x7E00
  | .e4m3 => 0x7F
  | .e5m2 => 0x7E
  | .e3m2 | .e2m3 | .e2m1 => 0

/-- The largest normal exponent of an MX element format (02 R67). -/
def Fmt.emax : Fmt → Int
  | .e4m3 => 8 | .e5m2 => 15 | .e3m2 => 4 | .e2m3 => 2 | .e2m1 => 2
  | .f64 => 1023 | .f32 => 127 | .bf16 => 127 | .f16 => 15

/-- The exponent of the smallest normal value. -/
def Fmt.emin (f : Fmt) : Int := 1 - (f.bias : Int)

/-- A value: NaN (signalling or quiet), an infinity, or plus or minus m times 2^e exactly. -/
inductive FVal where
  | nan (signalling : Bool)
  | inf (neg : Bool)
  | fin (neg : Bool) (m : Nat) (e : Int)
  deriving DecidableEq, Repr

/-- Rounding modes (02 R54). -/
inductive Rm where
  | rne | rtz | rdn | rup | sr
  deriving DecidableEq, Repr

/-- The three-bit rounding field (02 R54). -/
def Rm.ofCode : Nat → Option Rm
  | 0 => some .rne
  | 1 => some .rtz
  | 2 => some .rdn
  | 3 => some .rup
  | 4 => some .sr
  | _ => none

/-- Floating-point status bits (02 R60) in the places of 05 R191: I 4, Z 3, O 2, U 1, X 0. -/
abbrev FFlags := BitVec 5

def flI : FFlags := 0x10
def flZ : FFlags := 0x08
def flO : FFlags := 0x04
def flU : FFlags := 0x02
def flX : FFlags := 0x01

/-- A code of the destination format with the flags its making sets. -/
structure Rounded where
  code : Nat
  flags : FFlags
  deriving DecidableEq, Repr

/-- The value of a code (02 R40, R46). -/
def Fmt.decode (f : Fmt) (x : Nat) : FVal :=
  let mant := x % 2 ^ f.mbits
  let field := x / 2 ^ f.mbits % 2 ^ f.ebits
  let neg := x / 2 ^ (f.ebits + f.mbits) % 2 == 1
  if f.hasInf && field == 2 ^ f.ebits - 1 then
    if mant == 0 then .inf neg
    else .nan (f != .e5m2 && mant < 2 ^ (f.mbits - 1))
  else if f == .e4m3 && field == 15 && mant == 7 then .nan false
  else if field == 0 then .fin neg mant (f.emin - f.mbits)
  else .fin neg (mant + 2 ^ f.mbits) ((field : Int) - f.bias - f.mbits)

def FVal.isNan : FVal → Bool
  | .nan _ => true
  | _ => false

def FVal.isSnan : FVal → Bool
  | .nan s => s
  | _ => false

def FVal.isInf : FVal → Bool
  | .inf _ => true
  | _ => false

def FVal.isFin : FVal → Bool
  | .fin _ _ _ => true
  | _ => false

def FVal.isZero : FVal → Bool
  | .fin _ m _ => m == 0
  | _ => false

/-- The sign; a NaN counts as positive. -/
def FVal.isNeg : FVal → Bool
  | .nan _ => false
  | .inf n => n
  | .fin n _ _ => n

def FVal.negate : FVal → FVal
  | .nan s => .nan s
  | .inf n => .inf (!n)
  | .fin n m e => .fin (!n) m e

/-- The floor of log2 of the magnitude of a finite nonzero value. -/
def FVal.top : FVal → Int
  | .fin _ m e => e + (Nat.log2 m : Int)
  | _ => 0

/-- I when an operand is a signalling NaN (02 R46). -/
def snanFlag (vs : List FVal) : FFlags := if vs.any FVal.isSnan then flI else 0

/-- Whether the magnitude is rounded up, given the dropped part `rem` of a unit (02 R54, R56). -/
def roundUp (rm : Rm) (neg odd : Bool) (rem unit draw : Nat) : Bool :=
  match rm with
  | .rne => unit < 2 * rem || (2 * rem == unit && odd)
  | .rtz => false
  | .rdn => neg && rem != 0
  | .rup => !neg && rem != 0
  | .sr => 65536 ≤ rem * 65536 / unit + draw % 65536

/-- m times 2^e as a multiple of 2^q, with whether anything was dropped. -/
def roundAt (rm : Rm) (neg : Bool) (draw m : Nat) (e q : Int) : Nat × Bool :=
  if q ≤ e then (m * 2 ^ (e - q).toNat, false)
  else
    let unit := 2 ^ (q - e).toNat
    let n := m / unit
    let rem := m % unit
    (if roundUp rm neg (n % 2 == 1) rem unit draw then n + 1 else n, rem != 0)

/-- What an overflow delivers: infinity or the largest finite value (02 R51, R52, R53). -/
def Fmt.overflowCode (f : Fmt) (rm : Rm) (sat neg : Bool) : Nat :=
  let toInf := !sat && f.hasInf &&
    match rm with
    | .rne | .sr => true
    | .rtz => false
    | .rdn => neg
    | .rup => !neg
  if toInf then f.infCode neg else f.signBit neg + f.maxCode

/-- Whether m times 2^e is tiny (02 R60): below the smallest normal after rounding to the format's precision
with an unbounded exponent, as IEEE 754 gives it. -/
def Fmt.tinyAt (f : Fmt) (rm : Rm) (draw : Nat) (neg : Bool) (m : Nat) (e : Int) : Bool :=
  let top := e + (Nat.log2 m : Int)
  m != 0 && top < f.emin &&
    !(top == f.emin - 1 &&
      (roundAt rm neg draw m e (top - (f.mbits : Int))).1 == 2 ^ (f.mbits + 1))

/-- One rounding of an exact finite value into a format (02 R51 to R56, R60). -/
def Fmt.encodeFin (f : Fmt) (rm : Rm) (sat : Bool) (draw : Nat) (neg : Bool) (m : Nat) (e : Int) :
    Rounded :=
  if m == 0 then ⟨f.signBit neg, 0⟩
  else
    let top := e + (Nat.log2 m : Int)
    let q := max top f.emin - (f.mbits : Int)
    let (n0, inexact) := roundAt rm neg draw m e q
    let carry := n0 == 2 ^ (f.mbits + 1)
    let n := if carry then 2 ^ f.mbits else n0
    let q := if carry then q + 1 else q
    let normal := 2 ^ f.mbits ≤ n
    let field : Nat := if normal then (q + f.mbits + f.bias).toNat else 0
    let mant := if normal then n - 2 ^ f.mbits else n
    if f.topField < field || (field == f.topField && f.topMant < mant) then
      ⟨f.overflowCode rm sat neg, flO ||| flX⟩
    else
      let flags := (if inexact then flX else 0) ||| (if inexact && f.tinyAt rm draw neg m e then flU else 0)
      ⟨f.signBit neg + field * 2 ^ f.mbits + mant, flags⟩

/-- One rounding of any exact value into a format (02 R45, R46, R51 to R53). -/
def Fmt.encode (f : Fmt) (rm : Rm) (sat : Bool) (draw : Nat) (v : FVal) : Rounded :=
  match v with
  | .nan s => ⟨f.nanCode, if s then flI else 0⟩
  | .inf n =>
    if f.hasInf && !sat then ⟨f.infCode n, 0⟩ else ⟨f.signBit n + f.maxCode, flO ||| flX⟩
  | .fin n m e => f.encodeFin rm sat draw n m e

/-- A signed multiple of 2^e0. -/
def FVal.scaled (e0 : Int) : FVal → Int
  | .fin n m e => let x : Int := ((m * 2 ^ (e - e0).toNat : Nat) : Int); if n then -x else x
  | _ => 0

/-- The least exponent among the finite nonzero terms. -/
def leastExp? : List FVal → Option Int
  | [] => none
  | .fin _ m e :: vs =>
    if m == 0 then leastExp? vs
    else match leastExp? vs with
      | none => some e
      | some x => some (min e x)
  | _ :: vs => leastExp? vs

/-- The least exponent among the finite nonzero terms, 0 when there are none. -/
def leastExp (vs : List FVal) : Int := (leastExp? vs).getD 0

/-- The value z times 2^e, a zero taking the given sign. -/
def FVal.ofInt (z : Int) (e : Int) (zeroNeg : Bool) : FVal :=
  if z == 0 then .fin zeroNeg 0 0 else .fin (decide (z < 0)) z.natAbs e

/-- The sign of an exact zero sum (02 R43). -/
def zeroSumNeg (rm : Rm) (vs : List FVal) : Bool :=
  if vs.all FVal.isZero && vs.all FVal.isNeg && !vs.isEmpty then true
  else if vs.all FVal.isZero && vs.all (fun v => !v.isNeg) then false
  else rm == .rdn

/-- The exact sum of the terms, special values as IEEE 754 gives them (02 R43, R46, R64). Infinite terms of opposite
signs set I beside a NaN term too. -/
def exactSum (rm : Rm) (vs : List FVal) : FVal × FFlags :=
  let pos := vs.any (fun v => v.isInf && !v.isNeg)
  let neg := vs.any (fun v => v.isInf && v.isNeg)
  if vs.any FVal.isNan then (.nan false, snanFlag vs ||| (if pos && neg then flI else 0))
  else
    if pos && neg then (.nan false, flI)
    else if pos then (.inf false, 0)
    else if neg then (.inf true, 0)
    else
      let e0 := leastExp vs
      (FVal.ofInt ((vs.map (FVal.scaled e0)).foldl (· + ·) 0) e0 (zeroSumNeg rm vs), 0)

/-- The exact product (02 R43, R46, R60). -/
def exactMul (a b : FVal) : FVal × FFlags :=
  match a, b with
  | .fin n m e, .fin n' m' e' => (.fin (n != n') (m * m') (e + e'), 0)
  | .inf n, .inf n' => (.inf (n != n'), 0)
  | .inf n, .fin n' m _ => if m == 0 then (.nan false, flI) else (.inf (n != n'), 0)
  | .fin n m _, .inf n' => if m == 0 then (.nan false, flI) else (.inf (n != n'), 0)
  | a, b => (.nan false, snanFlag [a, b])

/-- The quotient to 160 bits beyond the point with a sticky bit below them: enough for one correct
rounding in every mode (02 R76). -/
def stickyDiv (a b : FVal) : FVal × FFlags :=
  match a, b with
  | .nan s, w => (.nan false, snanFlag [.nan s, w])
  | v, .nan s => (.nan false, snanFlag [v, .nan s])
  | .inf _, .inf _ => (.nan false, flI)
  | .inf n, .fin n' _ _ => (.inf (n != n'), 0)
  | .fin n _ _, .inf n' => (.fin (n != n') 0 0, 0)
  | .fin n m e, .fin n' m' e' =>
    if m' == 0 then (if m == 0 then (.nan false, flI) else (.inf (n != n'), flZ))
    else if m == 0 then (.fin (n != n') 0 0, 0)
    else
      let k : Nat := 160
      let num := m * 2 ^ k
      let q := num / m'
      let sticky := if num % m' == 0 then 0 else 1
      (.fin (n != n') (2 * q + sticky) (e - e' - k - 1), 0)

/-- The integer square root, bit by bit from bit k. -/
def isqrtBits (n : Nat) : Nat → Nat → Nat
  | 0, r => if (r + 1) * (r + 1) ≤ n then r + 1 else r
  | k + 1, r =>
    let r' := r + 2 ^ (k + 1)
    isqrtBits n k (if r' * r' ≤ n then r' else r)

/-- The square root to more than 100 bits, with a sticky bit below them (02 R76). -/
def stickySqrt (a : FVal) : FVal × FFlags :=
  match a with
  | .nan s => (.nan false, if s then flI else 0)
  | .inf n => if n then (.nan false, flI) else (.inf false, 0)
  | .fin n m e =>
    if m == 0 then (.fin n 0 0, 0)
    else if n then (.nan false, flI)
    else
      let odd := e % 2 != 0
      let m1 := if odd then 2 * m else m
      let e1 := if odd then e - 1 else e
      let big := m1 * 2 ^ 200
      let r := isqrtBits big ((Nat.log2 big) / 2 + 1) 0
      let sticky := if r * r == big then 0 else 1
      (.fin false (2 * r + sticky) (e1 / 2 - 100 - 1), 0)

/-- Rounds a value that came with flags. -/
def Fmt.finish (f : Fmt) (rm : Rm) (sat : Bool) (draw : Nat) (r : FVal × FFlags) : Rounded :=
  let x := f.encode rm sat draw r.1
  ⟨x.code, x.flags ||| r.2⟩

def Fmt.add (f : Fmt) (rm : Rm) (sat : Bool) (draw a b : Nat) : Rounded :=
  f.finish rm sat draw (exactSum rm [f.decode a, f.decode b])

def Fmt.sub (f : Fmt) (rm : Rm) (sat : Bool) (draw a b : Nat) : Rounded :=
  f.finish rm sat draw (exactSum rm [f.decode a, (f.decode b).negate])

def Fmt.mul (f : Fmt) (rm : Rm) (sat : Bool) (draw a b : Nat) : Rounded :=
  f.finish rm sat draw (exactMul (f.decode a) (f.decode b))

/-- Fused multiply-add with one rounding; `na` negates the product, `nc` the addend (05 R170). -/
def Fmt.fma (f : Fmt) (rm : Rm) (sat : Bool) (draw : Nat) (na nc : Bool) (a b c : Nat) : Rounded :=
  let p := exactMul (f.decode a) (f.decode b)
  let pv := if na then p.1.negate else p.1
  let cv := if nc then (f.decode c).negate else f.decode c
  let s := exactSum rm [pv, cv]
  f.finish rm sat draw (s.1, s.2 ||| p.2)

def Fmt.div (f : Fmt) (rm : Rm) (sat : Bool) (draw a b : Nat) : Rounded :=
  f.finish rm sat draw (stickyDiv (f.decode a) (f.decode b))

def Fmt.sqrt (f : Fmt) (rm : Rm) (sat : Bool) (draw a : Nat) : Rounded :=
  f.finish rm sat draw (stickySqrt (f.decode a))

/-- Orders two values that are no NaN, −0 equal to +0 (02 R44): less, equal. -/
def FVal.cmp (a b : FVal) : Ordering :=
  match a, b with
  | .inf n, .inf n' => if n == n' then .eq else if n then .lt else .gt
  | .inf n, _ => if n then .lt else .gt
  | _, .inf n => if n then .gt else .lt
  | a, b => let e0 := leastExp [a, b]; compare (a.scaled e0) (b.scaled e0)

/-- The conditions of 05 R166 on floating-point operands, with the flag of R46. -/
def fcompare (f : Fmt) (cond : Nat) (a b : Nat) : Bool × FFlags :=
  let x := f.decode a
  let y := f.decode b
  let fl := snanFlag [x, y]
  if x.isNan || y.isNan then (cond == 1 || cond == 6, fl)
  else
    let o := x.cmp y
    let r := match cond with
      | 0 => o == .eq
      | 1 => o != .eq
      | 2 => o == .lt
      | 3 => o != .gt
      | 4 => o == .gt
      | 5 => o != .lt
      | 7 => true
      | _ => false
    (r, fl)

/-- The four minimum and maximum forms (02 R44): `largest` picks the maximum, `number` the form
that returns the number. −0 orders below +0. DEDUCED (log entry 126): the number form with one signalling NaN returns
the number, as R44 says, and sets I, as R46 says. -/
def Fmt.minmax (f : Fmt) (largest number : Bool) (a b : Nat) : Rounded :=
  let x := f.decode a
  let y := f.decode b
  let fl := snanFlag [x, y]
  if x.isNan && y.isNan then ⟨f.nanCode, fl⟩
  else if x.isNan then ⟨if number then b else f.nanCode, fl⟩
  else if y.isNan then ⟨if number then a else f.nanCode, fl⟩
  else
    let aLess := match x.cmp y with
      | .lt => true
      | .gt => false
      | .eq => x.isNeg
    ⟨if aLess == largest then b else a, fl⟩

/-- A converted float (02 R66, R51 to R53). -/
def fconvert (src dst : Fmt) (rm : Rm) (sat : Bool) (draw x : Nat) : Rounded :=
  dst.encode rm sat draw (src.decode x)

/-- An integer as a value. -/
def intVal (z : Int) : FVal := FVal.ofInt z 0 false

/-- Rounds a finite value to an integer; the Boolean says it was inexact. -/
def roundInt (rm : Rm) (n : Bool) (m : Nat) (e : Int) : Int × Bool :=
  let (k, inexact) := roundAt rm n 0 m e 0
  (if n then -(k : Int) else (k : Int), inexact)

/-- Float to integer between two limits (05 R171). -/
def floatToInt (rm : Rm) (lo hi : Int) (v : FVal) : Int × FFlags :=
  match v with
  | .nan _ => (0, flI)
  | .inf n => (if n then lo else hi, flI)
  | .fin n m e =>
    let (z, inexact) := roundInt rm n m e
    if z < lo then (lo, flI)
    else if hi < z then (hi, flI)
    else (z, if inexact then flX else 0)

/-! ### The stochastic generator (02 R56 to R59) -/

/-- The reset state of a generator (02 R59). -/
def genReset : W64 := 0x9E3779B97F4A7C15

/-- One step (02 R57). -/
def genStep (s : W64) : W64 :=
  let a := s ^^^ (s <<< 13)
  let b := a ^^^ (a >>> 7)
  b ^^^ (b <<< 17)

/-- The state a seed value loads (02 R59). -/
def genSeed (v : W64) : W64 := if v == 0 then genReset else v

/-- A generator with how many of the four values of its last step an instruction has used. -/
structure Gen where
  s : W64
  used : Nat
  deriving DecidableEq, Repr

/-- The fresh step with which an instruction begins (02 R58). -/
def Gen.start (s : W64) : Gen := ⟨genStep s, 0⟩

/-- One draw, taking a new step when all four values are used (02 R57, R58). -/
def Gen.draw (g : Gen) : Nat × Gen :=
  let g := if g.used == 4 then ⟨genStep g.s, 0⟩ else g
  ((g.s.toNat / 2 ^ (16 * g.used)) % 65536, ⟨g.s, g.used + 1⟩)

/-- A draw taken only under SR (02 R58). -/
def Gen.drawIf (rm : Rm) (g : Gen) : Nat × Gen :=
  match rm with
  | .sr => g.draw
  | _ => (0, g)

/-! ### Pairs and error-free transformations (02 R68 to R74, 05 R173, R174) -/

/-- Two codes with the flags of their making. -/
structure Rounded2 where
  fst : Nat
  snd : Nat
  flags : FFlags
  deriving DecidableEq, Repr

/-- A zero code with sign +; any other code unchanged. -/
def plusZero (f : Fmt) (r : Rounded) : Nat :=
  if (f.decode r.code).isZero && (r.flags &&& flX) == 0 then 0 else r.code

/-- two-sum, fast-two-sum (05 R173). DEDUCED (log entry 127): what the test for a finite s reads is the delivered s, so an
s that overflowed under SAT has its e from the steps. -/
def twoSum (f : Fmt) (fast sat : Bool) (a b : Nat) : Rounded2 :=
  let s := f.add .rne sat 0 a b
  if !(f.decode s.code).isFin then ⟨s.code, 0, s.flags⟩
  else if fast then
    let d := f.sub .rne sat 0 s.code a
    ⟨s.code, plusZero f (f.sub .rne sat 0 b d.code), s.flags⟩
  else
    let bv := f.sub .rne sat 0 s.code a
    let av := f.sub .rne sat 0 s.code bv.code
    let da := f.sub .rne sat 0 a av.code
    let db := f.sub .rne sat 0 b bv.code
    ⟨s.code, plusZero f (f.add .rne sat 0 da.code db.code), s.flags⟩

/-- two-product (05 R173): also sets U and X when e is inexact. The delivered p is tested as in `twoSum`
(log entry 127). -/
def twoProd (f : Fmt) (sat : Bool) (a b : Nat) : Rounded2 :=
  let p := f.mul .rne sat 0 a b
  if !(f.decode p.code).isFin then ⟨p.code, 0, p.flags⟩
  else
    let e := f.fma .rne sat 0 false true a b p.code
    ⟨p.code, plusZero f e, p.flags ||| (if (e.flags &&& flX) == 0 then 0 else flU ||| flX)⟩

/-- The rounding to nearest pair (02 R69, R70) with the flags of 05 R174 and 02 R73. -/
def pairRound (sat : Bool) (v : FVal × FFlags) : Rounded2 :=
  match v.1 with
  | .fin n m e =>
    let hi := Fmt.f32.encodeFin .rne sat 0 n m e
    if (hi.flags &&& flO) != 0 then ⟨hi.code, 0, v.2 ||| (hi.flags &&& (flO ||| flX))⟩
    else
      let hv := Fmt.f32.decode hi.code
      let rest := (exactSum .rne [.fin n m e, hv.negate]).1
      let lo := Fmt.f32.encode .rne sat 0 rest
      let lost := (exactSum .rne [rest, (Fmt.f32.decode lo.code).negate]).1
      let fl := (lo.flags &&& flU) ||| (if lost.isZero then 0 else flX)
      let loCode := if hv.isZero then 0 else lo.code
      ⟨hi.code, loCode, v.2 ||| fl⟩
  | w =>
    let hi := Fmt.f32.encode .rne sat 0 w
    ⟨hi.code, 0, v.2 ||| hi.flags⟩

/-- The value of a pair (02 R70). DEDUCED (log entry 128): hi = −0 with lo = +0 sums to +0, as R43 has it. -/
def pairVal (rm : Rm) (hi lo : Nat) : FVal × FFlags :=
  exactSum rm [Fmt.f32.decode hi, Fmt.f32.decode lo]

/-- The sum of two exact parts with the zero sign taken from the hi components (02 R70). -/
def pairSum (hiTerms terms : List FVal) : FVal × FFlags :=
  let r := exactSum .rne terms
  match r.1 with
  | .fin _ 0 _ => (.fin (zeroSumNeg .rne hiTerms) 0 0, r.2)
  | v => (v, r.2)

/-- Whether every component is finite. -/
def allFin (vs : List FVal) : Bool := vs.all FVal.isFin

/-- PADD (05 R174, 02 R71). -/
def pairAdd (sat : Bool) (xh xl yh yl : Nat) : Rounded2 :=
  let d := Fmt.f32.decode
  if allFin [d xh, d xl, d yh, d yl] then
    pairRound sat (pairSum [d xh, d yh] [d xh, d xl, d yh, d yl])
  else
    let x := pairVal .rne xh xl
    let y := pairVal .rne yh yl
    let r := exactSum .rne [x.1, y.1]
    pairRound sat (r.1, r.2 ||| x.2 ||| y.2)

/-- The three partial products of a pair product (02 R71): hi·hi, hi·lo, lo·hi. -/
def pairProducts (neg : Bool) (xh xl yh yl : FVal) : List FVal :=
  let p := [(exactMul xh yh).1, (exactMul xh yl).1, (exactMul xl yh).1]
  if neg then p.map FVal.negate else p

/-- PMUL (05 R174, 02 R71). -/
def pairMul (sat : Bool) (xh xl yh yl : Nat) : Rounded2 :=
  let d := Fmt.f32.decode
  if allFin [d xh, d xl, d yh, d yl] then
    let ps := pairProducts false (d xh) (d xl) (d yh) (d yl)
    pairRound sat (pairSum (ps.take 1) ps)
  else
    let x := pairVal .rne xh xl
    let y := pairVal .rne yh yl
    let r := exactMul x.1 y.1
    pairRound sat (r.1, r.2 ||| x.2 ||| y.2)

/-- PMAC (05 R174, 02 R71). -/
def pairMac (sat neg : Bool) (xh xl yh yl ch cl : Nat) : Rounded2 :=
  let d := Fmt.f32.decode
  if allFin [d xh, d xl, d yh, d yl, d ch, d cl] then
    let ps := pairProducts neg (d xh) (d xl) (d yh) (d yl)
    pairRound sat (pairSum (ps.take 1 ++ [d ch]) (ps ++ [d ch, d cl]))
  else
    let x := pairVal .rne xh xl
    let y := pairVal .rne yh yl
    let c := pairVal .rne ch cl
    let p := exactMul x.1 y.1
    let pv := if neg then p.1.negate else p.1
    let r := exactSum .rne [pv, c.1]
    pairRound sat (r.1, r.2 ||| p.2 ||| x.2 ||| y.2 ||| c.2)

/-- D2P (02 R73). -/
def doubleToPair (sat : Bool) (x : Nat) : Rounded2 :=
  let v := Fmt.f64.decode x
  match v with
  | .nan s => pairRound sat (.nan false, if s then flI else 0)
  | v => pairRound sat (v, 0)

/-- P2D and P2F (02 R74): one rounding of the exact hi + lo; −0 and +0 give +0 (log entry 128). -/
def pairTo (f : Fmt) (rm : Rm) (sat : Bool) (draw hi lo : Nat) : Rounded :=
  f.finish rm sat draw (pairVal rm hi lo)

end Sys2Proof.Machine
end

