-- ==== Sys2Proof/Machine/Operands.lean ====
section
/-!
DEFINITION. Instruction words (05 R157 to R199, 06 R197, R198): their fields, the reserved-encoding
rule of 05 R158 and 06 R199 for every class, the register operands each one names, and the scalar and
vector integer operations.
-/
namespace Sys2Proof.Machine

/-- Bits [lo + n − 1 : lo] of a word, as a number. -/
def fld (w : W64) (lo n : Nat) : Nat := w.toNat / 2 ^ lo % 2 ^ n

/-- One bit of a word. -/
def bitOf (w : W64) (i : Nat) : Bool := w.getLsbD i

/-- The low `n` bits of a number, sign-extended to 64 bits. -/
def sext64 (n x : Nat) : W64 := (BitVec.ofNat n x).signExtend 64

def opcOf (w : W64) : Nat := fld w 0 8
def fnOf (w : W64) : Nat := fld w 8 8

/-- The rows of the table that name instruction words (05 R159, 06 R198). -/
inductive WordClass where
  | nop | fence | barg | barc | fsr | fsc | seed | sread | yield
  | bra | brr | join | brk | bri | call | exit
  | scalarInteger | vectorInteger | compare | predLogic
  | shfl | shflx | shfl64 | shflx64 | ballot | rdlane | laneid
  | fp32 | fp64 | pair | conversion | ld | st | atomic | lacq | lrel
  | thset | thadv | thget | thdr | topen | tseal | fld | fst
  | mma | accw | tcvt | copy | tred | tatom
  | prefetch | flush | invalidate | draff | waitge | phase
  deriving DecidableEq, Repr

/-- The class that OPC and FN name, none where they are reserved (05 R159 to R193, 06 R198). A class
whose FN is judged with the other fields (0x10, 0x20 to 0x23, 0x30 to 0x33, 0x41) is named by OPC. -/
def classOf (w : W64) : Option WordClass :=
  match opcOf w, fnOf w with
  | 0x01, 0 => some .nop
  | 0x01, 1 => some .fence
  | 0x01, 2 => some .barg
  | 0x01, 3 => some .barc
  | 0x01, 4 => some .fsr
  | 0x01, 5 => some .fsc
  | 0x01, 6 => some .seed
  | 0x01, 7 => some .sread
  | 0x01, 8 => some .yield
  | 0x02, 0 => some .bra
  | 0x02, 1 => some .brr
  | 0x02, 2 => some .join
  | 0x02, 3 => some .brk
  | 0x02, 4 => some .bri
  | 0x02, 5 => some .call
  | 0x02, 6 => some .exit
  | 0x10, _ => some .scalarInteger
  | 0x20, _ => some .vectorInteger
  | 0x21, _ => some .vectorInteger
  | 0x22, _ => some .compare
  | 0x23, _ => some .predLogic
  | 0x24, 0 => some .shfl
  | 0x24, 1 => some .shflx
  | 0x24, 2 => some .shfl64
  | 0x24, 3 => some .shflx64
  | 0x24, 4 => some .ballot
  | 0x24, 5 => some .rdlane
  | 0x24, 6 => some .laneid
  | 0x30, _ => some .fp32
  | 0x31, _ => some .fp64
  | 0x32, _ => some .pair
  | 0x33, _ => some .conversion
  | 0x40, 0 => some .ld
  | 0x40, 1 => some .st
  | 0x41, _ => some .atomic
  | 0x42, 0 => some .lacq
  | 0x42, 1 => some .lrel
  | 0xC0, 0 => some .thset
  | 0xC0, 1 => some .thadv
  | 0xC0, 2 => some .thget
  | 0xC0, 3 => some .thdr
  | 0xC0, 4 => some .topen
  | 0xC0, 5 => some .tseal
  | 0xC8, 0 => some .fld
  | 0xC8, 1 => some .fst
  | 0xD0, n => if n ≤ 4 then some .mma else none
  | 0xD1, 0 => some .accw
  | 0xD1, 1 => some .tcvt
  | 0xE0, 0 => some .copy
  | 0xE1, n => if n ≤ 4 then some .tred else none
  | 0xE2, n => if n ≤ 14 then some .tatom else none
  | 0xE3, 0 => some .prefetch
  | 0xE3, 1 => some .flush
  | 0xE3, 2 => some .invalidate
  | 0xE3, 3 => some .draff
  | 0xE8, 0 => some .waitge
  | 0xF0, 0 => some .phase
  | _, _ => none

/-! ### Fields -/

/-- The guard of formats V, B, M and A (05 R157). -/
structure Guard where
  ps : Nat
  pe : Bool
  pn : Bool
  deriving DecidableEq, Repr

def guardOf (w : W64) : Guard := ⟨fld w 16 3, bitOf w 19, bitOf w 20⟩

/-- PS and PN are unused when PE is 0 (05 R158, R161). -/
def Guard.ok (g : Guard) : Bool := g.pe || (g.ps == 0 && !g.pn)

/-- A guard with every field zero. -/
def Guard.none (g : Guard) : Bool := !g.pe && g.ps == 0 && !g.pn

/-- Format V (05 R157). -/
structure VForm where
  g : Guard
  rm : Nat
  ov : Bool
  bs : Bool
  na : Bool
  nc : Bool
  vd : Nat
  va : Nat
  vb : Nat
  vc : Nat
  rsv : Nat
  deriving DecidableEq, Repr

def vForm (w : W64) : VForm :=
  ⟨guardOf w, fld w 21 3, bitOf w 24, bitOf w 25, bitOf w 26, bitOf w 27,
    fld w 28 8, fld w 36 8, fld w 44 8, fld w 52 8, fld w 60 4⟩

/-- Format M (05 R157). -/
structure MForm where
  g : Guard
  sp : Nat
  sz : Nat
  sx : Bool
  dr : Bool
  sc : Bool
  vd : Nat
  va : Nat
  ofs : W64
  deriving DecidableEq, Repr

def mForm (w : W64) : MForm :=
  ⟨guardOf w, fld w 21 2, fld w 23 3, bitOf w 26, bitOf w 27, bitOf w 28, fld w 29 8, fld w 37 8,
    sext64 19 (fld w 45 19)⟩

/-- Format A (05 R157). -/
structure AForm where
  g : Guard
  sp : Nat
  w64 : Bool
  far : Bool
  ov : Bool
  rsv1 : Nat
  vd : Nat
  va : Nat
  vb : Nat
  vc : Nat
  rsv2 : Nat
  deriving DecidableEq, Repr

def aForm (w : W64) : AForm :=
  ⟨guardOf w, fld w 21 2, bitOf w 23, bitOf w 24, bitOf w 25, fld w 26 2, fld w 28 8, fld w 36 8,
    fld w 44 8, fld w 52 8, fld w 60 4⟩

/-- The target of a branch at `pc` (05 R175). -/
def branchTarget (w pc : W64) : W64 := pc + 8 * sext64 18 (fld w 29 18)

/-- The reconvergence address of a branch at `pc` (05 R175). -/
def reconvTarget (w pc : W64) : W64 := pc + 8 * sext64 17 (fld w 47 17)

/-- The two words of chapter 06 (R197). -/
structure TForm where
  td : Nat
  ta : Nat
  tb : Nat
  as : Nat
  ar : Bool
  vr : Nat
  rm : Nat
  ov : Bool
  kt : Nat
  eng : Nat
  za : Bool
  sa : Nat
  sb : Nat
  sc : Nat
  sd : Nat
  opt : Nat
  imm : Nat
  deriving DecidableEq, Repr

def tForm (w0 w1 : W64) : TForm :=
  ⟨fld w0 16 4, fld w0 20 4, fld w0 24 4, fld w0 32 3, bitOf w0 35, fld w0 36 8, fld w0 44 3,
    bitOf w0 47, fld w0 48 4, fld w0 52 3, bitOf w0 55, fld w1 0 6, fld w1 6 6, fld w1 12 6,
    fld w1 18 6, fld w1 24 8, fld w1 32 32⟩

/-! ### The reserved-encoding rule (05 R158, 06 R199) -/

/-- FN values of OPC 0x10 (05 R163). -/
def scalarFn (fn : Nat) : Bool :=
  fn ≤ 0x0E || (0x10 ≤ fn && fn ≤ 0x12) || (0x14 ≤ fn && fn ≤ 0x17) || fn == 0x18 || fn == 0x19 ||
    (0x1C ≤ fn && fn ≤ 0x1E)

/-- FN values of OPC 0x20 and 0x21 (05 R165). -/
def vectorFn (fn : Nat) : Bool := scalarFn fn && fn != 0x19

def legalSystem (w : W64) : Bool :=
  let arg := fld w 16 4
  let sd := fld w 20 6
  let sa := fld w 26 6
  let imm := fld w 32 32
  match fnOf w with
  | 1 => 1 ≤ arg && arg ≤ 7 && sd == 0 && sa == 0 && imm == 0
  | 3 => arg / 4 != 3 && sd == 0 && sa == 0 && imm == 0
  | 4 => arg == 0 && sa == 0 && imm == 0
  | 5 => arg == 0 && sa == 0 && imm < 32
  | 6 => arg ≤ 7 && sd == 0 && imm == 0
  | 7 => arg == 0 && sa == 0 && imm ≤ 0x0B
  | _ => arg == 0 && sd == 0 && sa == 0 && imm == 0

def legalBranch (w : W64) : Bool :=
  let g := guardOf w
  let sx := fld w 23 6
  let tofs := fld w 29 18
  let rofs := fld w 47 17
  fld w 21 2 == 0 && g.ok &&
    match fnOf w with
    | 0 => sx == 0 && rofs == 0
    | 1 => sx == 0
    | 2 => g.none && sx == 0 && tofs == 0 && rofs == 0
    | 3 => sx < 32 && tofs == 0 && rofs == 0
    | 4 => g.none && tofs == 0 && rofs == 0
    | 5 => g.none && rofs == 0
    | _ => sx == 0 && tofs == 0 && rofs == 0

def legalScalar (w : W64) : Bool :=
  let fn := fnOf w
  let im := bitOf w 16
  let sa := fld w 23 6
  scalarFn fn && (im || fld w 35 29 == 0) &&
    match fn with
    | 0x18 => im && sa == 0
    | 0x19 => im && sa == 0 && fld w 61 3 == 0
    | 0x1C | 0x1D | 0x1E => !im && fld w 29 6 == 0
    | _ => true

/-- What every format V word must have: the guard rule, reserved bits zero, and a scalar operand B
named by VB[5:0] (05 R157, R158). -/
def VForm.base (v : VForm) : Bool := v.g.ok && v.rsv == 0 && (!v.bs || v.vb < 64)

/-- No rounding, overflow, negation or third operand. -/
def VForm.plain (v : VForm) : Bool := v.rm == 0 && !v.ov && !v.na && !v.nc && v.vc == 0

/-- No operand B. -/
def VForm.noB (v : VForm) : Bool := !v.bs && v.vb == 0

def legalVectorInt (w : W64) : Bool :=
  let v := vForm w
  let fn := fnOf w
  vectorFn fn && v.base && v.plain &&
    match fn with
    | 0x18 => v.va == 0
    | 0x1C | 0x1D | 0x1E => v.noB
    | _ => true

def legalCompare (w : W64) : Bool :=
  let v := vForm w
  let fn := fnOf w
  fn / 16 ≤ 5 && fn % 16 ≤ 7 && (4 ≤ fn / 16 || fn % 16 ≤ 5) && v.base && v.plain && v.vd < 8

def legalPredLogic (w : W64) : Bool :=
  let v := vForm w
  let fn := fnOf w
  fn ≤ 7 && v.base && v.plain && !v.bs && v.vd < 8 && v.va < 8 && v.vb < 8 &&
    (fn ≤ 3 || v.vb == 0) && (fn != 5 && fn != 6 || v.va == 0)

def legalLane (w : W64) : Bool :=
  let v := vForm w
  v.base && v.plain &&
    match fnOf w with
    | 4 => v.noB && v.va < 8 && v.vd < 64
    | 5 => !v.bs && v.vb < 32 && v.vd < 64
    | 6 => v.noB && v.va == 0
    | _ => true

def legalFloat (w : W64) (single : Bool) : Bool :=
  let v := vForm w
  let fn := fnOf w
  let rounds := fn ≤ 5 || 0x0D ≤ fn
  let fma := fn == 3 || fn == 0x0F
  (fn ≤ 0x0C || (single && fn ≤ 0x0F)) && v.base &&
    (if rounds then v.rm ≤ 4 else v.rm == 0 && !v.ov) &&
    (fma || (!v.na && !v.nc && v.vc == 0)) &&
    (fn != 5 && fn != 0x0A && fn != 0x0B || v.noB)

/-- The two destinations of an error-free transformation (05 R172). -/
def eftApart (wide : Bool) (vd vc : Nat) : Bool :=
  if wide then vd + 2 ≤ vc || vc + 2 ≤ vd else vd != vc

def legalPair (w : W64) : Bool :=
  let v := vForm w
  let fn := fnOf w
  let eft := fn ≤ 5
  let arith := fn == 8 || fn == 9 || fn == 0x0A
  let out := fn == 0x0C || fn == 0x0E
  (eft || arith || out || fn == 0x0D) && v.base && !v.nc && (fn == 0x0A || !v.na) &&
    (if out then v.rm ≤ 4 else v.rm == 0) &&
    (eft || !v.bs) && (eft || arith || v.vb == 0) && (eft || fn == 0x0A || v.vc == 0) &&
    (!eft || eftApart (fn % 2 == 1) v.vd v.vc)

def legalConversion (w : W64) : Bool :=
  let v := vForm w
  let src := fnOf w / 16
  let dst := fnOf w % 16
  src ≤ 9 && dst ≤ 9 && src != dst && !(6 ≤ src && 6 ≤ dst) && v.base && v.noB &&
    !v.na && !v.nc && v.vc == 0 && v.rm ≤ 4 && !(6 ≤ dst && v.rm == 4)

def legalMem (w : W64) : Bool :=
  let m := mForm w
  let load := fnOf w == 0
  m.g.ok && m.sp ≤ 2 && m.sz ≤ 4 &&
    (!m.sx || (load && m.sz ≤ 1)) && (!m.dr || (load && m.sp != 0)) &&
    (!m.sc || (m.g.none && m.sz ≤ 3 && m.vd < 64 && m.va < 64))

def legalAtomic (w : W64) : Bool :=
  let a := aForm w
  let fn := fnOf w
  fn ≤ 0x0E && a.g.ok && a.sp ≤ 2 && a.rsv1 == 0 && a.rsv2 == 0 &&
    (fn == 9 || a.vc == 0) && (fn == 0x0A || !a.ov) && !(a.sp == 0 && a.far)

def legalLock (w : W64) : Bool :=
  let a := aForm w
  a.g.ok && a.sp ≤ 2 && a.rsv1 == 0 && a.rsv2 == 0 && a.w64 && !a.far && !a.ov &&
    a.vb == 0 && a.vc == 0 && (fnOf w != 1 || a.vd == 0)

/-- Matrix and copy conversion rounding codes (02 R54). -/
def matrixRm (rm : Nat) : Bool := rm == 0 || rm == 1 || rm == 4

/-- Fields of a two-word instruction that its row of 06 R198 does not list must be zero. -/
structure TUses where
  td : Bool := false
  ta : Bool := false
  tb : Bool := false
  as : Bool := false
  ar : Bool := false
  vr : Bool := false
  rm : Bool := false
  ov : Bool := false
  kt : Bool := false
  eng : Bool := false
  za : Bool := false
  sa : Bool := false
  sb : Bool := false
  sc : Bool := false
  sd : Bool := false
  opt : Nat := 0
  imm : Bool := false
  deriving DecidableEq, Repr

/-- Every unlisted field, undefined OPT bit and reserved bit is zero (06 R199). -/
def TUses.ok (u : TUses) (w0 : W64) (t : TForm) : Bool :=
  fld w0 28 4 == 0 && fld w0 56 8 == 0 &&
    (u.td || t.td == 0) && (u.ta || t.ta == 0) && (u.tb || t.tb == 0) && (u.as || t.as == 0) &&
    (u.ar || !t.ar) && (u.vr || t.vr == 0) && (u.rm || t.rm == 0) && (u.ov || !t.ov) &&
    (u.kt || t.kt == 0) && (u.eng || t.eng == 0) && (u.za || !t.za) &&
    (u.sa || t.sa == 0) && (u.sb || t.sb == 0) && (u.sc || t.sc == 0) && (u.sd || t.sd == 0) &&
    t.opt < 2 ^ u.opt && (u.imm || t.imm == 0)

/-- The field rules of MMA (06 R198, R212). -/
def legalMma (fn : Nat) (t : TForm) : Bool :=
  let span := if fn == 4 then 64 else 32
  t.eng ≤ 4 && matrixRm t.rm &&
    (fn != 4 || (t.rm == 0 && t.tb != 15 && (t.ar || t.ta != 15))) &&
    (!t.ar || (t.kt == 0 && fn != 3 &&
      (t.vr + span ≤ 32 * t.as || 32 * t.as + span ≤ t.vr)))

/-- A completion word's fields (06 R222): SD and OPT[1] only with OPT[0]. -/
def legalPost (t : TForm) : Bool := t.opt % 2 == 1 || (t.sd == 0 && t.opt / 2 % 2 == 0)

/-- PHASE's immediate (06 R236). -/
def legalPhase (imm : Nat) : Bool :=
  imm % 1024 != 0 && imm / 1024 % 1024 != 0 && imm / 2 ^ 20 % 16 ≤ 4

/-- The legality of a two-word instruction (06 R198, R199). -/
def legalTwo (w0 w1 : W64) : Bool :=
  let t := tForm w0 w1
  match classOf w0 with
  | some .thset => (TUses.ok { td := true, sa := true, sb := true } w0 t)
  | some .thadv => (TUses.ok { td := true, ta := true, imm := true } w0 t)
  | some .thget => (TUses.ok { ta := true, sd := true, opt := 1 } w0 t)
  | some .thdr => (TUses.ok { ta := true, sd := true, opt := 1 } w0 t)
  | some .topen => (TUses.ok { td := true } w0 t)
  | some .tseal => (TUses.ok { td := true } w0 t)
  | some .fld => (TUses.ok { ta := true, vr := true, opt := 1 } w0 t)
  | some .fst => (TUses.ok { td := true, vr := true } w0 t)
  | some .mma =>
    (TUses.ok { ta := !t.ar, vr := t.ar, ar := true, tb := true, as := true, rm := true, ov := true,
                kt := true, eng := true, za := true } w0 t) && legalMma (fnOf w0) t
  | some .accw =>
    (TUses.ok { td := true, as := true, rm := true, ov := true, kt := true, eng := true, opt := 3 }
      w0 t) && t.eng ≤ 4 && matrixRm t.rm
  | some .tcvt =>
    (TUses.ok { td := true, ta := true, rm := true, ov := true, kt := true, eng := true } w0 t) &&
      t.eng ≤ 4 && matrixRm t.rm
  | some .copy =>
    (TUses.ok { td := true, ta := true, rm := true, ov := true, sa := true, sb := true, sc := true,
                sd := true, opt := 5 } w0 t) && legalPost t &&
      (if t.opt / 16 % 2 == 1 then matrixRm t.rm else t.rm == 0 && !t.ov)
  | some .tred =>
    (TUses.ok { td := true, ta := true, ov := true, sa := true, sb := true, sd := true, opt := 4 }
      w0 t) && legalPost t && t.opt / 4 % 2 == 0
  | some .tatom =>
    (TUses.ok { sa := true, sb := true, sc := true, sd := true, opt := 4 } w0 t) &&
      t.opt / 4 % 2 == 0
  | some .prefetch | some .flush | some .invalidate | some .draff =>
    (TUses.ok { sa := true, sb := true, sd := true, opt := 4 } w0 t) && legalPost t
  | some .waitge => (TUses.ok { sa := true, sb := true, sd := true, opt := 1 } w0 t)
  | some .phase => (TUses.ok { imm := true } w0 t) && legalPhase t.imm
  | _ => false

/-- The legality of a one-word instruction (05 R158). -/
def legalOne (w : W64) : Bool :=
  match classOf w with
  | none => false
  | some _ =>
    match opcOf w with
    | 0x01 => legalSystem w
    | 0x02 => legalBranch w
    | 0x10 => legalScalar w
    | 0x20 | 0x21 => legalVectorInt w
    | 0x22 => legalCompare w
    | 0x23 => legalPredLogic w
    | 0x24 => legalLane w
    | 0x30 => legalFloat w true
    | 0x31 => legalFloat w false
    | 0x32 => legalPair w
    | 0x33 => legalConversion w
    | 0x40 => legalMem w
    | 0x41 => legalAtomic w
    | 0x42 => legalLock w
    | _ => false

/-- The command-processor subset (05 R159, R160). -/
def cpSubset (w : W64) : Bool :=
  match opcOf w with
  | 0x01 => fnOf w == 0 || (fnOf w == 1 && fld w 16 4 == 2) || fnOf w == 7 || fnOf w == 8
  | 0x02 => (fnOf w == 0 && !bitOf w 19) || fnOf w == 4 || fnOf w == 5
  | 0x10 => true
  | 0x40 => bitOf w 28
  | _ => false

/-! ### Register operands (04 R114, R118; 05 R155) -/

/-- A vector-register operand: its first register, how many it covers, its alignment. -/
structure VOperand where
  reg : Nat
  count : Nat
  align : Nat
  deriving DecidableEq, Repr

/-- The first operand that reaches rpt: fault 0x0402 with the first register at or above it. -/
def beyondRpt (rpt : Nat) : List VOperand → Option Nat
  | [] => none
  | o :: os => if rpt < o.reg + o.count then some (max o.reg rpt) else beyondRpt rpt os

/-- The first misaligned operand. -/
def misalignedReg : List VOperand → Option Nat
  | [] => none
  | o :: os => if o.reg % o.align != 0 then some o.reg else misalignedReg os

/-- An operand of `n` registers aligned to `n`. -/
def vop (reg n : Nat) : VOperand := ⟨reg, n, n⟩

/-- Registers of a conversion operand (05 R155, R171). -/
def convRegs (code : Nat) : Nat := if code == 1 || code == 8 || code == 9 then 2 else 1

/-- The vector registers a one-word instruction names, in field order VD, VA, VB, VC. DESIGN CHOICE (log entry 136):
operand B of SHFL64 and SHFLX64, a lane number, is one 32-bit register of any number (05 R168). -/
def wordOperands (w : W64) : List VOperand :=
  let v := vForm w
  let fn := fnOf w
  let b (n : Nat) : List VOperand := if v.bs then [] else [vop v.vb n]
  match opcOf w with
  | 0x20 | 0x21 =>
    let n := if opcOf w == 0x21 then 2 else 1
    match fn with
    | 0x18 => vop v.vd n :: b n
    | 0x1C | 0x1D | 0x1E => [vop v.vd n, vop v.va n]
    | _ => [vop v.vd n, vop v.va n] ++ b n
  | 0x22 =>
    let n := if fn / 16 == 2 || fn / 16 == 3 || fn / 16 == 5 then 2 else 1
    vop v.va n :: b n
  | 0x24 =>
    match fn with
    | 0 | 1 => [vop v.vd 1, vop v.va 1] ++ b 1
    | 2 | 3 => [vop v.vd 2, vop v.va 2] ++ b 1
    | 5 => [vop v.va 1]
    | 6 => [vop v.vd 1]
    | _ => []
  | 0x30 | 0x31 =>
    let n := if opcOf w == 0x31 || 0x0D ≤ fn then 2 else 1
    match fn with
    | 3 | 0x0F => [vop v.vd n, vop v.va n] ++ b n ++ [vop v.vc n]
    | 5 | 0x0A | 0x0B => [vop v.vd n, vop v.va n]
    | _ => [vop v.vd n, vop v.va n] ++ b n
  | 0x32 =>
    match fn with
    | 0 | 2 | 4 => [vop v.vd 1, vop v.va 1] ++ b 1 ++ [vop v.vc 1]
    | 1 | 3 | 5 => [vop v.vd 2, vop v.va 2] ++ b 2 ++ [vop v.vc 2]
    | 8 | 9 => [vop v.vd 2, vop v.va 2, vop v.vb 2]
    | 0x0A => [vop v.vd 2, vop v.va 2, vop v.vb 2, vop v.vc 2]
    | 0x0E => [vop v.vd 1, vop v.va 2]
    | _ => [vop v.vd 2, vop v.va 2]
  | 0x33 => [vop v.vd (convRegs (fn % 16)), vop v.va (convRegs (fn / 16))]
  | 0x40 =>
    let m := mForm w
    if m.sc then [] else
      [vop m.vd (if m.sz == 4 then 4 else if m.sz == 3 then 2 else 1), vop m.va 2]
  | 0x41 =>
    let a := aForm w
    let n := if a.w64 then 2 else 1
    [vop a.vd n, vop a.va 2, vop a.vb n] ++ (if fn == 9 then [vop a.vc n] else [])
  | 0x42 =>
    let a := aForm w
    if fn == 0 then [vop a.vd 1, vop a.va 2] else [vop a.va 2]
  | _ => []

/-! ### Integer operations (05 R163 to R165) -/

/-- The operations of 05 R163 at width `n`, with the division rules of R164. Shift
amounts are B[5:0] at both widths: at 32 bits an amount of 32 or more shifts everything out (DEDUCED,
log entry 13). -/
def intOp (n : Nat) (fn : Nat) (a b : BitVec n) : BitVec n :=
  let sh := b.toNat % 64
  match fn with
  | 0x00 => a + b
  | 0x01 => a - b
  | 0x02 => a &&& b
  | 0x03 => a ||| b
  | 0x04 => a ^^^ b
  | 0x05 => a <<< sh
  | 0x06 => a >>> sh
  | 0x07 => a.sshiftRight sh
  | 0x08 => a * b
  | 0x09 => BitVec.ofNat n (a.toNat * b.toNat / 2 ^ n)
  | 0x0A => BitVec.ofInt n (a.toInt * b.toInt / (2 ^ n : Nat))
  | 0x0B => if b == 0 then BitVec.allOnes n else a / b
  | 0x0C => if b == 0 then BitVec.allOnes n else BitVec.ofInt n (Int.tdiv a.toInt b.toInt)
  | 0x0D => if b == 0 then a else a % b
  | 0x0E => if b == 0 then a else BitVec.ofInt n (Int.tmod a.toInt b.toInt)
  | 0x10 => if a == b then 1 else 0
  | 0x11 => if a.slt b then 1 else 0
  | 0x12 => if a.ult b then 1 else 0
  | 0x14 => if b.slt a then b else a
  | 0x15 => if a.slt b then b else a
  | 0x16 => if b.ult a then b else a
  | 0x17 => if a.ult b then b else a
  | 0x18 => b
  | 0x1C => BitVec.ofNat n ((List.range n).foldl (fun k i => if a.getLsbD i then k + 1 else k) 0)
  | 0x1D => BitVec.ofNat n (if a == 0 then n else n - 1 - Nat.log2 a.toNat)
  | 0x1E => BitVec.ofNat n
      (if a == 0 then n else Nat.log2 (a &&& (0 - a)).toNat)
  | _ => 0

end Sys2Proof.Machine
end

