-- ==== Sys2Proof/Config.lean ====
section
/-!
DEFINITION. What an implementation or a published standard fixes and the spec does not give: opaque
constants without a body, so that no proof can rest on a value (log entries 4 and 14).
-/
namespace Sys2Proof.Config

/-- A value the spec leaves open, drawn by the counter `State.free` (log entry 4). -/
opaque freeValue : Nat → W64

/-- The set of an L1 that a line falls into, 0 to 127: 08 R284 gives the shape and no index. -/
opaque l1Set : Nat → Nat

/-- The row of a channel line address in its pseudo-channel: 09 R318 names rows and gives no map. -/
opaque rowOf : Nat → Nat

/-- SHAKE256, `n` bytes of output (FIPS 202). -/
opaque shake256 : (n : Nat) → List Byte → List Byte

/-- KMAC256 under a key (SP 800-185). -/
opaque kmac256 : List Byte → List Byte → List Byte

/-- Verification of an XMSS signature: public key, message, signature (RFC 8391). -/
opaque xmssVerify : List Byte → List Byte → List Byte → Bool

/-- An XMSS^MT signature with the identity key at an index (RFC 8391). -/
opaque xmssSign : Nat → List Byte → List Byte

/-- Halday's public key: 4-byte identifier, root, SEED (13 R450). -/
opaque haldayKey : List Byte

/-- The public part of the identity key of this part (13 R461). -/
opaque identityKey : List Byte

/-- The ML-KEM encapsulation key of an epoch (13 R464, FIPS 203). -/
opaque mlkemKey : Nat → List Byte

/-- ML-KEM decapsulation with the key pair of an epoch (FIPS 203). -/
opaque mlkemDecaps : Nat → List Byte → List Byte

/-- The version word of a ROM: 0 the Tun's, 1 the Keg's (13 R451). -/
opaque romVersion : Nat → W64

/-- The digest of a ROM: 0 the Tun's, 1 the Keg's (13 R467). -/
opaque romDigest : Nat → List Byte

/-- The bytes of a command of the Keg and of its result, under the MAC of a response (13 R446). -/
opaque kegBytes : KegCmd → KegResult → List Byte

/-- AES-256 key unwrap (RFC 3394): the key, or none when the integrity check fails. -/
opaque aesUnwrap : List Byte → List Byte → Option (List Byte)

/-- AES-256-GCM opening: key, nonce, associated data, ciphertext, tag; none when the tag fails. -/
opaque gcmOpen : BitVec 256 → List Byte → List Byte → List Byte → List Byte → Option (List Byte)

/-- The body of an SPDM response to a request (DSP0274), by request code. -/
opaque spdmBody : Nat → List Byte → List Byte

/-- The body of a DOE discovery response (PCIe Base Specification). -/
opaque doeDiscovery : Nat → List Byte

/-- The pairing key of the Keg link (13 R445). -/
opaque pairingKey : List Byte

/-- BASE of a block's page 0 in Base Address Region 0 (16 R555): the table (0 the physical function's, else the
partition), the block's type code, the instance. -/
opaque blockBase : Nat → Nat → Nat → Nat

/-- The unloaded round trip in network cycles from a die to a set of pseudo-channels, given the states of the
die-to-die ports (16 R556 DIST). -/
opaque distance : Nat → List Nat → List Nat → Nat

end Sys2Proof.Config
end

