-- ==== Sys2Proof/Machine/State.lean ====
section
/-!
DEFINITION. The state of the block (INVENTORY.md, State): every register, queue, memory, mode and pin
the spec gives the NZV-3216, as plain data, the outcomes of a step, and the state at reset.
-/
namespace Sys2Proof.Machine

/-- The stops of the model. -/
inductive Fault where
  /-- Raised by VIN_AUX_ON and VIN_MAIN_ON at a supply beyond the absolute maximum (17 R568): the
  spec says the device may be damaged and gives no effect. Safe: the hardware's state after it is
  not given. -/
  | absoluteMaximum (millivolts : Nat)
  deriving DecidableEq, Repr

/-- The refusals of the model. -/
inductive Refusal where
  /-- Raised by the arms of exec whose command has no meaning yet. Safe. -/
  | notModelled (mnemonic : String)
  deriving DecidableEq, Repr

/-! ### Thread groups and cores (04, 05, 06) -/

/-- One entry of the mask stack (04 R128). -/
structure MaskEntry where
  rpc : W64
  saved : W32
  pend : W32
  ppc : W64
  deriving DecidableEq, Repr

/-- A lane of a lock-acquire: its word's address, its status so far, and the word that its last attempt at another
node found (04 R139 to R141). -/
structure LockLane where
  lane : Nat
  addr : W64
  status : Option Nat
  seen : Option W64
  deriving DecidableEq, Repr

/-- What a tile reader or writer keeps between attempts (03 R94, R98, R99): whether its one-beat
window is open and since which beat, and a first counted mismatch as operand × 2^16 + generation. -/
structure TileWait where
  opened : Option Nat
  mismatch : Option Nat
  deriving DecidableEq, Repr

/-- What a group waits for. `fence`, `operand` and `tile` are judged again when the instruction is
commanded again; the others end by their own command. -/
inductive Wait where
  | none
  | operand
  | fence (arg : Nat)
  | barrier (b : Nat)
  | lock (space vd : Nat) (lanes : List LockLane) (w : W64)
  | beat
  | waitge (space : Nat) (addr bound : W64) (sd : Nat)
  | tile (t : TileWait) (w0 w1 : W64)
  | halted
  deriving DecidableEq, Repr

/-- A resident thread group (04 R112, R116, R127, R138, R146), with the register granules it holds in ascending
order of its registers (R112). Registers not listed hold zero. -/
structure Group where
  part : Nat
  ctx : Nat
  task : Nat
  inst : Nat
  node : W16
  gtag : Nat
  rpt : Nat
  granules : List Nat
  pc : W64
  launch : W32
  active : W32
  stack : List MaskEntry
  sregs : SMap W64
  vregs : SMap W32
  preds : SMap W32
  handles : SMap (BitVec 128)
  fp : BitVec 5
  wdog : Nat
  wait : Wait
  deriving DecidableEq, Repr

/-- The result that a matrix engine holds once step 1 of its destinations has come before the rest (03 R93,
R95): the words that step 1 wrote, the tiles, the flags and the partition. -/
structure MatHeld where
  hdrs : List W64
  tiles : List (List Byte × List Byte)
  flags : BitVec 5
  part : Nat
  deriving DecidableEq, Repr

/-- An instruction in a matrix engine's queue (04 R124, 06 R209, R210). -/
structure MatCmd where
  slot : Nat
  gtag : Nat
  pc : W64
  w0 : W64
  w1 : W64
  td : BitVec 128
  td2 : BitVec 128
  ta : BitVec 128
  ta2 : BitVec 128
  tb : BitVec 128
  tb2 : BitVec 128
  seed : Option W64
  started : Bool
  wait : TileWait
  held : Option MatHeld
  deriving DecidableEq, Repr

/-- Where a tile-mover transfer stands (06 R221, 03 R93 to R98). -/
inductive XferStage where
  | reading
  | awaiting
  | gathering (got : SMap (List Byte))
  | read (word0 : W64) (payload scale : List Byte)
  | writing (word0 : W64) (payload scale : List Byte)
  | atHome (id : Nat)
  | cask (beats : Nat)
  | condemned
  | landed
  deriving DecidableEq, Repr

/-- A transfer in flight. -/
structure Xfer where
  idx : Nat
  stage : XferStage
  wait : TileWait
  draws : W64
  used : Nat
  resent : Bool
  deriving DecidableEq, Repr

/-- A tile-mover command (06 R221, R229) with the register and handle values it took at issue; one that has
`faulted`, itself or with its context, posts nothing (R223). -/
structure TmCmd where
  id : Nat
  slot : Nat
  gtag : Nat
  part : Nat
  ctx : Nat
  task : Nat
  inst : Nat
  pc : W64
  w0 : W64
  w1 : W64
  td : BitVec 128
  ta : BitVec 128
  sa : W64
  sb : W64
  sc : W64
  sd : W64
  total : Nat
  cursor : Nat
  begun : Bool
  faulted : Bool
  draws : W64
  used : Nat
  xfers : List Xfer
  deriving DecidableEq, Repr

/-- One core (04): its generators ME0 to ME3, VE0, VE1, TM, its matrix queues oldest first, its tile
mover's commands oldest first, its affinity record (11 R396) and its physical identifier (01 R32). -/
structure CoreSt where
  gens : List W64
  me0 : List MatCmd
  me1 : List MatCmd
  me2 : List MatCmd
  me3 : List MatCmd
  tm : List TmCmd
  arrivals : SMap Nat
  affinity : Option (Nat × Nat × Nat)
  phys : Option Nat
  deriving DecidableEq, Repr

/-- An access of a group that has not completed (04 R126, 05 R185, R187): far atomics, and the loads,
stores and atomics that travel to another node. `regs` are the vector registers it keeps busy, `fn`
the atomic's FN (16 for a load, 17 for a store, 18 and 19 for a lock-acquire and a lock-release, 20 for a
load with the draff hint),
`places` the line and byte of each word, in the order of `lanes`, `got` what has come back. -/
structure Access where
  who : Issuer
  gtag : Nat
  part : Nat
  ctx : Nat
  pc : W64
  isStore : Bool
  fp : Bool
  lanes : List Nat
  scalar : Bool
  vd : Nat
  regs : List Nat
  size : Nat
  signed : Bool
  fn : Nat
  places : List (Nat × Nat)
  got : List (Option (List Byte))
  deriving DecidableEq, Repr

/-- The tag-array entry of a Local granule (03 R86). -/
structure LocalTag where
  word0 : W64
  word1 : W64
  part : Nat
  deriving DecidableEq, Repr

/-! ### Memory and coherence (07, 08, 09) -/

/-- L1 line states other than I (08 R284). -/
inductive L1State where
  | s | f | e | m
  deriving DecidableEq, Repr

/-- Directory states (08 R285). -/
inductive DirState where
  | u | sh | ex | p
  deriving DecidableEq, Repr

/-- A directory entry (08 R285) with the slice, set and way that hold it. -/
structure DirEntry where
  sharers : BitVec 288
  state : DirState
  fwd : Nat
  transient : Bool
  slice : Nat
  set : Nat
  way : Nat
  deriving DecidableEq, Repr

/-- A line that a cache-mode way holds (08 R273 to R275, R294); `data` when dirty. -/
structure CacheLine where
  line : Nat
  tag : Nat
  used : Bool
  busy : Nat
  data : Option (List Byte)
  deriving DecidableEq, Repr

/-- The partition tag and draff state of a scratch line (08 R277, R283). -/
structure ScratchTag where
  tag : Nat
  draffed : Bool
  deriving DecidableEq, Repr

/-- Home messages to an L1 (08 R286). -/
inductive HomeMsg where
  | inv | fwds | fwdm | snoop | recall | flush
  deriving DecidableEq, Repr

/-- A request at a home (08 R287), or the eviction of a directory entry (R289). -/
inductive HomeReq where
  | evict
  | gets (core slot : Nat)
  | getm (core slot : Nat)
  | naRead (who : Accessor)
  | naWrite (who : Accessor) (mask : BitVec 128) (data : List Byte)
  deriving DecidableEq, Repr

/-- A request in progress at a home, the messages it has sent and not had answered, the cores whose
answer is under way, and the requests queued behind it (08 R285, R287); `room`: it waits for a directory entry to
be freed (R289). -/
structure HomeTxn where
  req : HomeReq
  sent : List (Nat × HomeMsg)
  answering : List Nat
  noData : Bool
  queue : List HomeReq
  room : Bool
  deriving DecidableEq, Repr

/-- A far operation: an atomic of a group, a TATOM, a reduction contribution, or one that arrived over
the fabric (08 R293, 06 R231). -/
inductive FarKind where
  | atomic (fn : Nat) (w64 sat : Bool) (addr operand cmp : W64)
  | reduce (op : Nat) (sat : Bool) (handle : BitVec 128) (addr scl : W64)
      (word0 : W64) (payload scale : List Byte)
  deriving DecidableEq, Repr

/-- Who waits for a far operation: an access of a group (and the index of its word), a transfer, or a
remote requester. -/
inductive FarOwner where
  | access (id idx : Nat)
  | xfer (core cmd idx : Nat)
  | remote (port tag : Nat) (snode : W16)
  deriving DecidableEq, Repr

/-- An entry of a slice's far-operation queue (08 R269, R294). -/
structure FarOp where
  id : Nat
  slice : Nat
  line : Nat
  part : Nat
  kind : FarKind
  owner : FarOwner
  stalled : Bool
  wait : TileWait
  deriving DecidableEq, Repr

/-- A region's allotment: the layout with which it was last valid, and for each pseudo-channel of its set
in ascending order the one that holds its share and the base there (07 R249, 08 R272, 09 R322). -/
structure Allot where
  inter : Nat
  hash : Bool
  place : Nat
  spots : List (Nat × Nat)
  deriving DecidableEq, Repr

/-- A share that a retirement moves: region × 512 + position, the lines of the shares moved before it, its own lines,
and its new pseudo-channel and base (09 R322, R323). -/
structure MoveShare where
  share : Nat
  first : Nat
  lines : Nat
  pc : Nat
  base : Nat
  deriving DecidableEq, Repr

/-- A retirement in progress: its shares in order, and how many lines have been copied (09 R323). -/
structure RetireMove where
  pc : Nat
  shares : List MoveShare
  cursor : Nat
  deriving DecidableEq, Repr

/-- A range operation of LLM_CTL in progress: FN, SPACE, partition, address, length (08 R302, R303). -/
structure RangeOp where
  fn : Nat
  space : Nat
  part : Nat
  addr : W64
  len : Nat
  deriving DecidableEq, Repr

/-! ### Fabric (10) -/

/-- What a request to another node is for (10 R351): an access of a group and the index of its word,
a transfer, or a class 2 access of a command processor. -/
inductive ReqOwner where
  | load (id idx : Nat)
  | store (id idx : Nat)
  | atomic (id idx : Nat)
  | xfer (core cmd idx : Nat)
  | mgmt (id : Nat)
  | record (key : Nat)
  | ringWrite (key idx : Nat)
  | engine (e idx : Nat)
  | posted
  deriving DecidableEq, Repr

/-- An outstanding fabric request (10 R350, R354). `keep`: no write of this device to the line has followed, so
that the line data may be kept (07 R263). -/
structure FabReq where
  owner : ReqOwner
  part : Nat
  ctx : Nat
  port : Nat
  msg : Msg
  resends : Nat
  line : Nat
  keep : Bool
  deriving DecidableEq, Repr

/-- A tile that arrived whole and waits to begin its write (10 R337, 03 R94, R95). -/
structure Landing where
  msg : Msg
  part : Nat
  wait : TileWait
  deriving DecidableEq, Repr

/-- A message in a port's transmit queue and how many of its flits have left (10 R334, R339). -/
structure Queued where
  msg : Msg
  sent : Nat
  deriving DecidableEq, Repr

/-- The state of a port that its registers do not hold (10 R329 to R332, R339 to R341): failed spare lanes, replays
of the present flit, the times of the replays attributed to each lane, retrains that failed, whether the link
retrains, the peer's lanes, the transmit queue, the credits spent by channel, the flit times that a channel has
waited, the partition whose turn it is on a channel and how many messages it has left, the flit times since a
paced flit, the replay buffer (for each flit not yet acknowledged its message), the receive buffer, and T1 of the
delay request under way. -/
structure PortSt where
  failed : List Nat
  replay : Nat
  laneReplays : SMap (List Nat)
  retrainFails : Nat
  training : Bool
  peerLanes : Nat
  queued : List Queued
  spent : SMap Nat
  waited : SMap Nat
  turns : SMap (Nat × Nat)
  paced : Nat
  unacked : List Msg
  rx : List Msg
  t1 : Option W64
  deriving DecidableEq, Repr

/-- The last mark that a port (8 for BEAT_IN) delivered: its beat, rank and hops, and how many of an
unbroken run have come (10 R362). -/
structure MarkOffer where
  beat : Nat
  rank : Nat
  mhops : Nat
  run : Nat
  deriving DecidableEq, Repr

/-- Beat-mark following (10 R360 to R364, 11 R379 to R381): the parent port, boundaries since its last
accepted mark, since the last accepted one of a lower rank than a candidate's own, beats that the
current master has been followed, the highest epoch seen, consecutive small offsets, whether a mark
was accepted in this beat and ever, what each port offers, a forward step to take, and whether
the beat is held. -/
structure MarkSt where
  parent : Option Nat
  misses : Nat
  lower : Nat
  followed : Nat
  highEpoch : W32
  locks : Nat
  seen : Bool
  ever : Bool
  offers : SMap MarkOffer
  step : Nat
  hold : Bool
  slew : Int
  deriving DecidableEq, Repr

/-- SPDM fragments being put together (13 R468). -/
structure Fragments where
  snode : Nat
  msgno : Nat
  total : Nat
  tag : Nat
  parts : List (Nat × List Byte)
  deriving DecidableEq, Repr

/-! ### Contexts, rings, engines (11, 12) -/

/-- A task instance that waits for placement or runs (11 R394, R395, R399; 12 R429, R431): the command that
asked for it, its sequence slot (511 for none), the words of its slot table, the cores with their
affinity keys, and the tags of its groups. -/
structure Task where
  n : Nat
  inst : Nat
  entry : W64
  arg : W64
  k : Nat
  g : Nat
  rpt : Nat
  slots : List W64
  placed : Bool
  live : List (Nat × Nat)
  tags : List Nat
  deriving DecidableEq, Repr

/-- A ring command that has been fetched (12 R425, R426), with the beat from which it is considered, whether it has
started, and the status of one that has ended while its record is still to be written (12 R433). -/
structure RingCmd where
  idx : Nat
  beat : Nat
  words : List W64
  started : Bool
  ended : Option Nat
  deriving DecidableEq, Repr

/-- Stages of a switch (11 R400, R401). -/
inductive SwitchStage where
  | none | draining | saving | restoring
  deriving DecidableEq, Repr

/-- What a context switched out has left of one core beside its Local space (11 R401): the core's
position in its partition, its groups by slot, tile-mover commands, barrier counts, generators and
affinity record. -/
structure SavedCore where
  core : Nat
  groups : List (Nat × Group)
  tms : List TmCmd
  arrivals : List (Nat × Nat)
  gens : List W64
  affinity : Option (Nat × Nat × Nat)
  deriving DecidableEq, Repr

/-- The scheduling state of a context (11 R392 to R404): its tasks in ring order, the beats it has run
since it last resumed, the cores in a switch, what is saved, the cores it holds, and after a teardown
whether transfers still drain and the cores that return then. -/
structure CtxSt where
  tasks : List Task
  ran : Nat
  switching : List (Nat × SwitchStage)
  saved : List SavedCore
  resident : List Nat
  draining : Bool
  returning : List Nat
  deriving DecidableEq, Repr

/-- The state of a ring that its registers do not hold (12 R422 to R428). A command is known by `base`
plus its number, `base` growing by 2^64 at each enable; `fetched` counts the entries requested,
`stalled` the boundaries without progress, and every command below `quiet` was complete at the last
boundary. -/
structure RingSt where
  base : Nat
  fetched : Nat
  cmds : List RingCmd
  stalled : Nat
  quiet : Nat
  deriving DecidableEq, Repr

/-- Where an engine of the Tun stands in its next tile or piece (12 R430). -/
inductive EngineStage where
  | next
  | asked
  | held (word0 : W64) (payload scale : List Byte)
  | begun (word0 : W64) (payload scale : List Byte)
  | sent
  | cask (beats : Nat)
  | condemned
  deriving DecidableEq, Repr

/-- A sealed load that has passed its first checks: its region, tiles in a chunk, package key, header bytes and number
of chunks (13 R472 to R474). -/
structure Seal where
  region : Nat
  tiles : Nat
  key : BitVec 256
  header : List Byte
  chunks : Nat
  deriving DecidableEq, Repr

/-- What a Tun copy engine or AES engine is doing (12 R430, 13 R474): its command, the format and role
it has learnt, the tiles or bytes done, the bytes from outside that came with it, and what a sealed load has
established. -/
structure EngineCmd where
  part : Nat
  ctx : Nat
  idx : Nat
  words : List W64
  fmt : Option (Nat × Nat)
  cursor : Nat
  stage : EngineStage
  wait : TileWait
  resent : Bool
  host : List Byte
  sealing : Option Seal
  deriving DecidableEq, Repr

/-- A cached translation (12 R437, R440). -/
structure XlatEntry where
  part : Nat
  index : Nat
  entry : W64
  deriving DecidableEq, Repr

/-- An MSI-X table entry (12 R435). -/
structure MsixEntry where
  addr : W64
  data : W32
  masked : Bool
  deriving DecidableEq, Repr

/-- The state of a PCIe function that its registers do not hold (12 R415 to R418, R435, R442). -/
structure FnSt where
  msixCount : Nat
  pendingBits : List Nat
  doeError : Bool
  deriving DecidableEq, Repr

/-- An IDE stream (12 R441). -/
structure IdeStream where
  stream : Nat
  key : BitVec 256
  secure : Bool
  deriving DecidableEq, Repr

/-! ### Trust, clocks, service, pins (13, 14, 15, 17) -/

/-- A Keg counter's two MRAM slots: value and whether the CRC holds (13 R447). -/
structure KegSlot where
  a : W64
  aOk : Bool
  b : W64
  bOk : Bool
  deriving DecidableEq, Repr

/-- A circle slot of the key vault (13 R470, R471). -/
structure CircleSlot where
  part : Nat
  circle : BitVec 128
  key : BitVec 256
  deriving DecidableEq, Repr

/-- One half of the configuration area of the boot flash (13 R455, 17 R580): its sequence number, whether
its CRC holds, its records. -/
structure FlashHalf where
  seq : Nat
  ok : Bool
  data : List Byte
  deriving DecidableEq, Repr

/-- A firmware slot of the boot flash (13 R449 to R452). -/
structure FwSlot where
  readable : Bool
  image : List Byte
  deriving DecidableEq, Repr

/-- A clock domain's switch (14 R494). -/
inductive DomStage where
  | running | locking | stopping | held | stopped | lost
  deriving DecidableEq, Repr

/-- A phase hint (14 R504, 06 R236). -/
structure Hint where
  part : Nat
  ctx : Nat
  starts : Nat
  ends : Nat
  kind : Nat
  level : Nat
  deriving DecidableEq, Repr

/-- What the device has sent, newest first (log entry 10). -/
inductive Out where
  | msix (fn vector : Nat)
  | fabric (port : Nat) (m : Msg)
  | host (addr : W64) (data : List Byte) (relaxed : Bool)
  | beatOut (frame : List Byte)
  | readData (fn : Nat) (data : List Byte)
  | poisoned (fn : Nat)
  | unsupported (fn : Nat)
  | abort (fn : Nat)
  | mgmt (value : Nat)
  | alert
  | spdm (via : SpdmPath) (code : Nat) (body : List Byte)
  | doe (fn : Nat) (body : List Byte)
  | keg (cmd : KegCmd) (result : KegResult) (mac : List Byte)
  | aer (stream : Nat)
  | linkTraining
  deriving DecidableEq, Repr

/-- A register write latched for the always-on domain (16 R546, R547). -/
structure AonWrite where
  key : Nat
  value : W32
  mask : W32
  deriving DecidableEq, Repr

/-! ### The whole -/

/-- Cores, groups and their accesses. `groups` is keyed by core × 64 + slot, the command processors
by (256 + n) × 64; a key without an entry is a vacant slot. -/
structure CoresState where
  cores : SMap CoreSt
  groups : SMap Group
  accesses : SMap Access
  nextAccess : Nat
  nextCmd : Nat
  gtag : Nat
  deriving DecidableEq, Repr

/-- What partitions see of event counters (04 R151, 16 R559): `work` counts what each has done, by partition × 8192 +
counter, `shown` is that count as the last boundary latched it, and `stamps` says for a counter of cycles in which beat
its value was last drawn (log entry 50). Counter j of core c is number c × 8 + j, counter n of slice k number 2048 +
k × 7 + n. -/
structure ViewState where
  work : SMap Nat
  shown : SMap Nat
  stamps : SMap Nat
  deriving DecidableEq, Repr

/-- Memories and coherence. `hbm` is keyed by the Global offset of this device, `scratch` by the byte
of a scratch way's line, `loc` by core × 2^22 + address. -/
structure MemState where
  hbm : List Host.Cell
  scratch : List Host.Cell
  loc : List Host.Cell
  tags : SMap LocalTag
  l1 : SMap L1State
  l1data : SMap (List Byte)
  dir : SMap DirEntry
  txns : SMap HomeTxn
  grants : SMap L1State
  cache : SMap CacheLine
  scratchTags : SMap ScratchTag
  remote : SMap (List Byte)
  poison : List Nat
  draffed : SMap (List Nat)
  farOps : List FarOp
  reassign : SMap W32
  deriving DecidableEq, Repr

/-- Regions and the HBM subsystem (07 R249, 09). -/
structure HbmState where
  allot : SMap Allot
  drains : List Nat
  fills : List Nat
  destroying : List (Nat × Nat)
  wiping : List Nat
  rangeOp : Option RangeOp
  scrubLine : SMap Nat
  scrubBeat : SMap Nat
  scrubDue : List (Nat × Nat)
  ceWindow : SMap (List Nat)
  pprLeft : SMap Nat
  rowHits : SMap Nat
  pprStall : List (Nat × Nat)
  training : List Nat
  deferred : List Nat
  move : Option RetireMove
  deriving DecidableEq, Repr

/-- The Baxus fabric (10). -/
structure FabState where
  reqs : SMap FabReq
  nextTag : Nat
  ports : SMap PortSt
  mark : MarkSt
  held : List Nat
  masks : SMap (List Nat)
  rested : SMap Nat
  digest : Option (List Byte × W64)
  frags : List Fragments
  landings : SMap Landing
  early : SMap Nat
  deriving DecidableEq, Repr

/-- Beats, contexts, rings and the engines of the Tun (11, 12). Contexts and rings are keyed by
16 × partition + context. `inval`: the partition of the last invalidation, and the number that the first operation
after it took (12 R440). -/
structure TunState where
  tb : W64
  latch : W64
  num : W64
  ctxs : SMap CtxSt
  rings : SMap RingSt
  copies : SMap EngineCmd
  aes : SMap EngineCmd
  served : SMap Nat
  freezing : SMap Nat
  xlat : List XlatEntry
  inval : Nat × Nat
  hints : List Hint
  deriving DecidableEq, Repr

/-- The PCIe side (12). -/
structure HostState where
  linkUp : Bool
  lanes : Nat
  rate : Nat
  vfEnable : Bool
  windowLog : SMap Nat
  fns : SMap FnSt
  msix : SMap MsixEntry
  ide : List IdeStream
  pfCount : Nat
  deriving DecidableEq, Repr

/-- Trust (13). -/
structure SecState where
  keg : SMap KegSlot
  seedServed : Bool
  kegBusy : Option (KegCmd × BitVec 128)
  kegWrote : List Nat
  vault : Bool
  idxNext : Nat
  idxEnd : Nat
  lastSig : Option Nat
  circles : SMap CircleSlot
  keyBusy : SMap W64
  packageId : SMap (BitVec 128)
  fwSlots : SMap FwSlot
  conf : SMap FlashHalf
  inForce : List (List Byte)
  repairs : List W32
  retired : List Nat
  margins : SMap Nat
  recWords : List W32
  recActive : Bool
  recJudging : Bool
  committing : Option Bool
  commitNext : Nat
  sessions : List SpdmPath
  epochKey : Nat
  deriving DecidableEq, Repr

/-- Clocks and power (14). -/
structure ClkState where
  dom : SMap DomStage
  failed : List ClockSource
  recovering : Bool
  awake : SMap W32
  limiter : List Nat
  limited : List Nat
  drooped : List Nat
  hot : List Nat
  lastAmps : Nat
  overTicks : Nat
  budget : Nat
  sparge : Bool
  highRun : SMap Nat
  margin : SMap Nat
  sumMs : Nat
  cntMs : Nat
  hotMs : Nat
  sumSec : Nat
  cntSec : Nat
  hotSec : Nat
  thrSec : SMap Nat
  deriving DecidableEq, Repr

/-- Service and the Ploro tables (15, 16). -/
structure RasState where
  logSeq : Nat
  tested : List Nat
  testing : Option (Nat × Nat × Nat)
  cellar : Option (Nat × Nat × Nat)
  spareWay : SMap Nat
  wayCe : SMap (List Nat)
  ueBeats : SMap (List Nat)
  lastUe : Option Nat
  d2dFailed : SMap (List Nat)
  d2dTries : SMap Nat
  d2dRes : SMap Nat
  isolated : List Nat
  gens : SMap W64
  tables : List Nat
  deriving DecidableEq, Repr

/-- Boot, pins and rails (17), the strap bumps of the dies among them (17 R575). -/
structure BootState where
  aux : Bool
  main : Bool
  regulators : Bool
  perst : Bool
  pwrgoodLow : Bool
  faultN : Bool
  thermtripN : Bool
  thermal : Bool
  alertN : Bool
  step : Nat
  result : Nat
  haltCode : Nat
  halted : Bool
  recovery : Bool
  tapReset : Bool
  lost : Bool
  passed : SMap Nat
  maxTemp : Nat
  straps : List Nat
  badRepairs : Bool
  badMargins : Bool
  deriving DecidableEq, Repr

/-- The state of the block. Registers are in `regs`, keyed by register number × 2^24 + index, listing
only words that differ from the reset word; `lows` holds the low halves of 64-bit pairs written and
not yet followed by their high half (16 R545); `aon` the writes latched for the always-on domain and
`aonCopy` the copies of its registers as the last edge left them (16 R546, R547); `out` what has been sent; `free` counts the free
values drawn (log entry 4); `pending` is the queue of commands. -/
structure State where
  regs : SMap W32
  lows : SMap W32
  aon : List AonWrite
  aonCopy : SMap W32
  co : CoresState
  views : ViewState
  mem : MemState
  hbm : HbmState
  fab : FabState
  tun : TunState
  host : HostState
  sec : SecState
  clk : ClkState
  ras : RasState
  boot : BootState
  out : List Out
  free : Nat
  pending : List Instr
  deriving DecidableEq, Repr

/-! ### Reset -/

def CoresState.reset : CoresState :=
  { cores := [], groups := [], accesses := [], nextAccess := 0, nextCmd := 0, gtag := 0 }

def MemState.reset : MemState :=
  { hbm := [], scratch := [], loc := [], tags := [], l1 := [], l1data := [], dir := [], txns := [],
    grants := [], cache := [], scratchTags := [], remote := [], poison := [], draffed := [],
    farOps := [], reassign := [] }

def HbmState.reset : HbmState :=
  { allot := [], drains := [], fills := [], destroying := [], wiping := [], rangeOp := none, scrubLine := [],
    scrubBeat := [], scrubDue := [], ceWindow := [], pprLeft := [], rowHits := [], pprStall := [], training := [],
    deferred := [], move := none }

def ViewState.reset : ViewState := { work := [], shown := [], stamps := [] }

def MarkSt.reset : MarkSt :=
  { parent := none, misses := 0, lower := 0, followed := 0, highEpoch := 0, locks := 0, seen := false,
    ever := false, offers := [], step := 0, hold := false, slew := 0 }

def FabState.reset : FabState :=
  { reqs := [], nextTag := 0, ports := [], mark := MarkSt.reset, held := [], masks := [], rested := [], digest := none,
    frags := [], landings := [], early := [] }

def TunState.reset : TunState :=
  { tb := 0, latch := 0, num := 0, ctxs := [], rings := [], copies := [], aes := [], served := [],
    freezing := [], xlat := [], inval := (0, 0), hints := [] }

def HostState.reset : HostState :=
  { linkUp := false, lanes := 0, rate := 0, vfEnable := false, windowLog := [], fns := [], msix := [],
    ide := [], pfCount := 1985 }

def SecState.reset : SecState :=
  { keg := [], seedServed := false, kegBusy := none, kegWrote := [], vault := false, idxNext := 0, idxEnd := 0,
    lastSig := none, circles := [], keyBusy := [], packageId := [], fwSlots := [], conf := [],
    inForce := [], repairs := [], retired := [], margins := [], recWords := [], recActive := false,
    recJudging := false, committing := none, commitNext := 0, sessions := [], epochKey := 0 }

def ClkState.reset : ClkState :=
  { dom := [], failed := [], recovering := false, awake := [], limiter := [], limited := [],
    drooped := [], hot := [], lastAmps := 0, overTicks := 0, budget := 7800, sparge := false, highRun := [], margin := [], sumMs := 0,
    cntMs := 0, hotMs := 0, sumSec := 0, cntSec := 0, hotSec := 0, thrSec := [] }

def RasState.reset : RasState :=
  { logSeq := 0, tested := [], testing := none, cellar := none, spareWay := [], wayCe := [], ueBeats := [],
    lastUe := none, d2dFailed := [], d2dTries := [], d2dRes := [], isolated := [], gens := [],
    tables := [] }

/-- The straps of a die as the substrate ties them: its number, and odd parity over the four (17 R575). -/
def strapOf (d : Nat) : Nat := d + (if (d + d / 2 + d / 4) % 2 == 0 then 8 else 0)

/-- No rail is up: PERST_N and the outputs rest as 17 R572 has them without power (log entry 2). -/
def BootState.reset : BootState :=
  { aux := false, main := false, regulators := false, perst := true, pwrgoodLow := false, lost := false,
    faultN := false, thermtripN := false, thermal := false, alertN := false, step := 0, result := 0,
    haltCode := 0, halted := false, recovery := false, tapReset := true, passed := [], maxTemp := 0
    straps := (List.range 8).map strapOf, badRepairs := false, badMargins := false }

/-- The block right after reset: every register at its reset word, every queue empty. -/
def State.reset : State :=
  { regs := [], lows := [], aon := [], aonCopy := [], co := CoresState.reset, views := ViewState.reset, mem := MemState.reset,
    hbm := HbmState.reset, fab := FabState.reset, tun := TunState.reset, host := HostState.reset,
    sec := SecState.reset, clk := ClkState.reset, ras := RasState.reset, boot := BootState.reset,
    out := [], free := 0, pending := [] }

end Sys2Proof.Machine
end

