-- ==== Sys2Proof/Machine/Sparse.lean ====
section
/-!
DEFINITION. Sparse maps in canonical form (keys strictly rising, no entry equal to the default) and
byte memory over them.
-/
namespace Sys2Proof.Machine

/-- The entry at a key. -/
def SMap.find {α : Type} : SMap α → Nat → Option α
  | [], _ => none
  | (k, v) :: m, i => if i = k then some v else SMap.find m i

/-- The map with an entry put at a key. -/
def SMap.put {α : Type} : SMap α → Nat → α → SMap α
  | [], i, x => [(i, x)]
  | (k, v) :: m, i, x =>
    if i < k then (i, x) :: (k, v) :: m
    else if i = k then (i, x) :: m
    else (k, v) :: SMap.put m i x

/-- The map without a key. -/
def SMap.drop {α : Type} : SMap α → Nat → SMap α
  | [], _ => []
  | (k, v) :: m, i => if i = k then SMap.drop m i else (k, v) :: SMap.drop m i

/-- The value at a key, `d` where the map lists none. -/
def SMap.get {α : Type} (d : α) (m : SMap α) (i : Nat) : α := (SMap.find m i).getD d

/-- The map with a value set at a key; the default takes the entry away. -/
def SMap.set {α : Type} [DecidableEq α] (d : α) (m : SMap α) (i : Nat) (x : α) : SMap α :=
  if x = d then SMap.drop m i else SMap.put m i x

/-- The entries whose key and value satisfy a test. -/
def SMap.keep {α : Type} (p : Nat → α → Bool) (m : SMap α) : SMap α :=
  m.filter (fun e => p e.1 e.2)

/-- The map with every value changed, keys as they are. -/
def SMap.mapVals {α β : Type} (f : Nat → α → β) (m : SMap α) : SMap β :=
  m.map (fun e => (e.1, f e.1 e.2))

/-- The keys rise strictly. -/
abbrev SMap.Rising {α : Type} (m : SMap α) : Prop := m.Pairwise (fun a b => a.1 < b.1)

/-! ### Byte memory -/

/-- A byte memory; an address that is not listed reads as 0 (log entry 5). -/
abbrev Memory := List Host.Cell

/-- The canonical form: addresses strictly rising, no listed byte 0. -/
abbrev Memory.wf (m : Memory) : Prop := SMap.Rising m ∧ ∀ c ∈ m, c.2 ≠ 0

/-- One byte. -/
def Memory.read (m : Memory) (a : Nat) : Byte := SMap.get 0 m a

/-- One byte written. -/
def Memory.write (m : Memory) (a : Nat) (b : Byte) : Memory := SMap.set 0 m a b

/-- `n` bytes from an address up. -/
def Memory.readN (m : Memory) (a : Nat) : Nat → List Byte
  | 0 => []
  | n + 1 => m.read a :: Memory.readN m (a + 1) n

/-- Bytes written from an address up. -/
def Memory.writeN (m : Memory) (a : Nat) : List Byte → Memory
  | [] => m
  | b :: bs => Memory.writeN (m.write a b) (a + 1) bs

/-- The memory with every byte of a range zero. -/
def Memory.clear (m : Memory) (lo n : Nat) : Memory :=
  SMap.keep (fun a _ => a < lo || lo + n ≤ a) m

end Sys2Proof.Machine
end

