-- ==== Sys2Proof/Machine/Regs.lean ====
section
/-!
DEFINITION. The registers (04 R148, R150; 07 R246; 08 R299 to R302; 09 R325, R326; 10 R368 to R374;
11 R410 to R412; 12 R444; 13 R482 to R484; 14 R509; 15 R534, R535; 16 R548, R561, R562): one
constructor of `Reg` for each register or array of registers, its place in its block, its fields with
their access codes and reset values, and the reads and writes of fields. CFG, BOOT and STRAP fields
read 0 until boot fills them (log entry 3), but for CD_STATUS, whose straps give the die.
-/
namespace Sys2Proof.Machine

/-- Access codes (00 R13). -/
inductive Acc where
  | ro | rw | rwd | w1c | wo
  deriving DecidableEq, Repr

/-- A field: its lowest bit, its width, its access code, its reset value. -/
structure RField where
  lo : Nat
  n : Nat
  acc : Acc
  reset : Nat
  deriving DecidableEq, Repr

/-- A register of a block: block, first offset, stride and count of an array, fields. -/
structure RegInfo where
  blk : Block
  off : Nat
  stride : Nat
  count : Nat
  fields : List RField
  deriving DecidableEq, Repr

/-- The registers. -/
inductive Reg where
  /-- CORE_CTRL (04 R148) -/
  | coreCtrl
  /-- CORE_CFG (04 R148) -/
  | coreCfg
  /-- CORE_STATUS (04 R148) -/
  | coreStatus
  /-- CORE_FLAGS (04 R148) -/
  | coreFlags
  /-- CORE_FAULT_STATUS (04 R148) -/
  | coreFaultStatus
  /-- CORE_FAULT_PC_LO (04 R148) -/
  | coreFaultPcLo
  /-- CORE_FAULT_PC_HI (04 R148) -/
  | coreFaultPcHi
  /-- CORE_FAULT_INFO (04 R148) -/
  | coreFaultInfo
  /-- CORE_GROUP_SEL (04 R148) -/
  | coreGroupSel
  /-- CORE_GROUP_STATE (04 R148) -/
  | coreGroupState
  /-- CORE_GROUP_ACTIVE (04 R148) -/
  | coreGroupActive
  /-- CORE_GROUP_LAUNCH (04 R148) -/
  | coreGroupLaunch
  /-- CORE_EVT counters, low words (04 R150) -/
  | coreEvtLo
  /-- CORE_EVT counters, high words (04 R150) -/
  | coreEvtHi
  /-- LLM_RGN_DESC (07 R246) -/
  | llmRgnDesc
  /-- LLM_SLICE_CTRL (08 R299) -/
  | sliceCtrl
  /-- LLM_SLICE_FLAGS (08 R299) -/
  | sliceFlags
  /-- LLM_SLICE_STATUS (08 R299) -/
  | sliceStatus
  /-- LLM_SLICE_POISON_LO (08 R299) -/
  | slicePoisonLo
  /-- LLM_SLICE_POISON_HI (08 R299) -/
  | slicePoisonHi
  /-- LLM_SLICE_POISON_INFO (08 R299) -/
  | slicePoisonInfo
  /-- LLM_SLICE_WAY (08 R300) -/
  | sliceWay
  /-- LLM_EVT counters, low words (04 R150) -/
  | sliceEvtLo
  /-- LLM_EVT counters, high words (04 R150) -/
  | sliceEvtHi
  /-- LLM_CTL_CTRL (08 R302) -/
  | llmCtlCtrl
  /-- LLM_CTL_CFG (08 R302) -/
  | llmCtlCfg
  /-- LLM_CTL_FLAGS (08 R302) -/
  | llmCtlFlags
  /-- LLM_CTL_RANGE_ADDR_LO (08 R302) -/
  | llmCtlRangeAddrLo
  /-- LLM_CTL_RANGE_ADDR_HI (08 R302) -/
  | llmCtlRangeAddrHi
  /-- LLM_CTL_RANGE_LEN_LO (08 R302) -/
  | llmCtlRangeLenLo
  /-- LLM_CTL_RANGE_LEN_HI (08 R302) -/
  | llmCtlRangeLenHi
  /-- LLM_CTL_RANGE_OP (08 R302) -/
  | llmCtlRangeOp
  /-- LLM_CTL_RANGE_STATUS (08 R302) -/
  | llmCtlRangeStatus
  /-- HBM_CTL_CTRL (09 R325) -/
  | hbmCtlCtrl
  /-- HBM_CTL_CFG (09 R325) -/
  | hbmCtlCfg
  /-- HBM_CTL_FLAGS (09 R325) -/
  | hbmCtlFlags
  /-- HBM_CTL_RETIRE (09 R325) -/
  | hbmCtlRetire
  /-- HBM_CTL_RETIRE_MOVED (09 R325) -/
  | hbmCtlRetireMoved
  /-- HBM_CTL_RETIRE_TOTAL (09 R325) -/
  | hbmCtlRetireTotal
  /-- HBM_CTL_STATUS (09 R325) -/
  | hbmCtlStatus
  /-- HBM_CTL_RETIRED (09 R325) -/
  | hbmCtlRetired
  /-- HBM_STACK_CTRL (09 R326) -/
  | stackCtrl
  /-- HBM_STACK_FLAGS (09 R326) -/
  | stackFlags
  /-- HBM_STACK_STATUS (09 R326) -/
  | stackStatus
  /-- HBM_STACK_TEMP_CFG (09 R326) -/
  | stackTempCfg
  /-- HBM_STACK_ERR_INFO (09 R326) -/
  | stackErrInfo
  /-- HBM_STACK_ERR_LINE (09 R326) -/
  | stackErrLine
  /-- HBM_STACK_PC_STATUS (09 R326) -/
  | stackPcStatus
  /-- HBM_EVT counters, low words (04 R150) -/
  | stackEvtLo
  /-- HBM_EVT counters, high words (04 R150) -/
  | stackEvtHi
  /-- BXF_CTL_CTRL (10 R368) -/
  | bxfCtlCtrl
  /-- BXF_CTL_CFG (10 R368) -/
  | bxfCtlCfg
  /-- BXF_CTL_TIMEOUT (10 R368) -/
  | bxfCtlTimeout
  /-- BXF_CTL_FLAGS (10 R368) -/
  | bxfCtlFlags
  /-- BXF_CTL_BEAT_CFG (10 R368) -/
  | bxfCtlBeatCfg
  /-- BXF_CTL_BEAT_STATUS (10 R368) -/
  | bxfCtlBeatStatus
  /-- BXF_CTL_BEAT_EPOCH (10 R368) -/
  | bxfCtlBeatEpoch
  /-- BXF_CTL_BEAT_OFFSET (10 R368) -/
  | bxfCtlBeatOffset
  /-- BXF_CTL_BMASTER (10 R368) -/
  | bxfCtlBmaster
  /-- BXF_CTL_ROUTE_SEL (10 R369) -/
  | bxfCtlRouteSel
  /-- BXF_CTL_ROUTE_DATA (entry n of the route table) (10 R369) -/
  | bxfCtlRouteData
  /-- BXF_CTL_COLL (10 R368) -/
  | bxfCtlColl
  /-- BXF_CTL_DIGEST_BASE_LO (10 R369) -/
  | bxfCtlDigestBaseLo
  /-- BXF_CTL_DIGEST_BASE_HI (10 R369) -/
  | bxfCtlDigestBaseHi
  /-- BXF_CTL_DIGEST (10 R369) -/
  | bxfCtlDigest
  /-- BXF_CTL_DIGEST_BEAT_LO/_HI (10 R369) -/
  | bxfCtlDigestBeat
  /-- BXF_CTL_PKEY (10 R370) -/
  | bxfCtlPkey
  /-- BXF_CTL_SPANWIN word A (10 R370) -/
  | bxfCtlSpanwinA
  /-- BXF_CTL_SPANWIN word B (10 R370) -/
  | bxfCtlSpanwinB
  /-- BXF_CTL_EVT counters, low words (04 R150) -/
  | bxfCtlEvtLo
  /-- BXF_CTL_EVT counters, high words (04 R150) -/
  | bxfCtlEvtHi
  /-- BXF_PORT_CTRL (10 R372) -/
  | portCtrl
  /-- BXF_PORT_CFG (10 R372) -/
  | portCfg
  /-- BXF_PORT_FLAGS (10 R372) -/
  | portFlags
  /-- BXF_PORT_STATUS (10 R372) -/
  | portStatus
  /-- BXF_PORT_LANES (10 R372) -/
  | portLanes
  /-- BXF_PORT_DELAY (10 R372) -/
  | portDelay
  /-- BXF_PORT_VC0_WAIT (10 R372) -/
  | portVc0Wait
  /-- BXF_PORT_EVT counters, low words (04 R150) -/
  | portEvtLo
  /-- BXF_PORT_EVT counters, high words (04 R150) -/
  | portEvtHi
  /-- BXF_BAR_CFG (10 R373) -/
  | barCfg
  /-- BXF_BAR_OWNER (10 R373) -/
  | barOwner
  /-- BXF_BAR_RWORD_LO (10 R373) -/
  | barRwordLo
  /-- BXF_BAR_RWORD_HI (10 R373) -/
  | barRwordHi
  /-- BXF_BAR_ARRIVE (10 R373) -/
  | barArrive
  /-- BXF_BAR_STATUS (10 R373) -/
  | barStatus
  /-- BXF_BAR_ROUND_LO (10 R373) -/
  | barRoundLo
  /-- BXF_BAR_ROUND_HI (10 R373) -/
  | barRoundHi
  /-- BXF_BAR_CHILD (unit b, pair k as index 4b + k) (10 R373) -/
  | barChild
  /-- BXF_ARRIVE (10 R374) -/
  | bxfArrive
  /-- TUN_BEAT_CTRL (11 R410) -/
  | beatCtrl
  /-- TUN_BEAT_CFG (11 R410) -/
  | beatCfg
  /-- TUN_BEAT_FLAGS (11 R410) -/
  | beatFlags
  /-- TUN_BEAT_STATUS (11 R410) -/
  | beatStatus
  /-- TUN_BEAT_TB_LO (11 R410) -/
  | beatTbLo
  /-- TUN_BEAT_TB_HI (11 R410) -/
  | beatTbHi
  /-- TUN_BEAT_LATCH_LO (11 R410) -/
  | beatLatchLo
  /-- TUN_BEAT_LATCH_HI (11 R410) -/
  | beatLatchHi
  /-- TUN_BEAT_NUM_LO (11 R410) -/
  | beatNumLo
  /-- TUN_BEAT_NUM_HI (11 R410) -/
  | beatNumHi
  /-- TUN_BEAT_IN_DELAY (11 R410) -/
  | beatInDelay
  /-- TUN_PART_CFG (11 R411) -/
  | partCfg
  /-- TUN_PART_CMD (11 R411) -/
  | partCmd
  /-- TUN_PART_CORES (descriptor n, word j as index 8n + j) (11 R411) -/
  | partCores
  /-- TUN_PART_SEQ (11 R411) -/
  | partSeq
  /-- TUN_PART_SAVE (11 R411) -/
  | partSave
  /-- TUN_PART_CTXMASK (11 R411) -/
  | partCtxmask
  /-- TUN_CTX (11 R412) -/
  | tunCtx
  /-- TUN_SEQ +0x0 (11 R412) -/
  | seqCtl
  /-- TUN_SEQ +0x4 (11 R412) -/
  | seqPos
  /-- TUN_SEQ +0x8 (11 R412) -/
  | seqLimit
  /-- TUN_RGNOWN (11 R412) -/
  | rgnown
  /-- PCI_FN_WIN_BASE_LO (12 R444) -/
  | fnWinBaseLo
  /-- PCI_FN_WIN_BASE_HI (12 R444) -/
  | fnWinBaseHi
  /-- PCI_FN_ERR (12 R444) -/
  | fnErr
  /-- PCI_FN_ERR_ADDR_LO (12 R444) -/
  | fnErrAddrLo
  /-- PCI_FN_ERR_ADDR_HI (12 R444) -/
  | fnErrAddrHi
  /-- PCI_CTL_CTRL (12 R444) -/
  | pciCtlCtrl
  /-- PCI_CTL_MSIX_PF (12 R444) -/
  | pciCtlMsixPf
  /-- PCI_CTL_FLAGS (12 R444) -/
  | pciCtlFlags
  /-- PCI_CTL_MSIX_VF (12 R444) -/
  | pciCtlMsixVf
  /-- TUN_RING_CTRL (12 R444) -/
  | ringCtrl
  /-- TUN_RING_STATUS (12 R444) -/
  | ringStatus
  /-- TUN_RING_BASE_LO (12 R444) -/
  | ringBaseLo
  /-- TUN_RING_BASE_HI (12 R444) -/
  | ringBaseHi
  /-- TUN_RING_TAIL_LO (12 R444) -/
  | ringTailLo
  /-- TUN_RING_TAIL_HI (12 R444) -/
  | ringTailHi
  /-- TUN_RING_CPL_LO (12 R444) -/
  | ringCplLo
  /-- TUN_RING_CPL_HI (12 R444) -/
  | ringCplHi
  /-- TUN_RING_HEAD_LO (12 R444) -/
  | ringHeadLo
  /-- TUN_RING_HEAD_HI (12 R444) -/
  | ringHeadHi
  /-- TUN_XLAT_ROOT_LO (12 R444) -/
  | xlatRootLo
  /-- TUN_XLAT_ROOT_HI (12 R444) -/
  | xlatRootHi
  /-- TUN_XLAT_CFG (12 R444) -/
  | xlatCfg
  /-- TUN_XLAT_INV (12 R444) -/
  | xlatInv
  /-- TUN_XLAT_INV_STATUS (12 R444) -/
  | xlatInvStatus
  /-- SEC_CTL_STATUS (13 R482) -/
  | secStatus
  /-- SEC_CTL_CFG (13 R482) -/
  | secCfg
  /-- SEC_CTL_FLAGS (13 R482) -/
  | secFlags
  /-- SEC_CTL_COMMIT (13 R482) -/
  | secCommit
  /-- SEC_CTL_IDX_LO (13 R482) -/
  | secIdxLo
  /-- SEC_CTL_IDX_HI (13 R482) -/
  | secIdxHi
  /-- SEC_CTL_CASK_INFO (13 R482) -/
  | secCaskInfo
  /-- SEC_CTL_CASK_OFS (13 R482) -/
  | secCaskOfs
  /-- SEC_CTL_REC_CTRL (13 R482) -/
  | secRecCtrl
  /-- SEC_CTL_REC_DATA (13 R482) -/
  | secRecData
  /-- SEC_CTL_VER_TUN, _KEG, _FW; LO and HI (13 R482) -/
  | secVer
  /-- SEC_EVT counters, low words (04 R150) -/
  | secEvtLo
  /-- SEC_EVT counters, high words (04 R150) -/
  | secEvtHi
  /-- SEC_KEY_ADDR_LO (13 R483) -/
  | keyAddrLo
  /-- SEC_KEY_ADDR_HI (13 R483) -/
  | keyAddrHi
  /-- SEC_KEY_CMD (13 R483) -/
  | keyCmd
  /-- SEC_KEY_STATUS (13 R483) -/
  | keyStatus
  /-- SEC_KEY_HELD (13 R483) -/
  | keyHeld
  /-- KEG_STATUS (13 R484) -/
  | kegStatus
  /-- KEG_CNTn_LO/_HI (index 2n, 2n + 1) (13 R484) -/
  | kegCnt
  /-- CLK_CTL_CFG (14 R509) -/
  | clkCfg
  /-- CLK_CTL_STATUS (14 R509) -/
  | clkStatus
  /-- CLK_CTL_FLAGS (14 R509) -/
  | clkFlags
  /-- CLK_CTL_TRIM (14 R509) -/
  | clkTrim
  /-- CLK_CTL_GATE (14 R509) -/
  | clkGate
  /-- CLK_DOM (14 R509) -/
  | clkDom
  /-- CLK_EVT counters, low words (04 R150) -/
  | clkEvtLo
  /-- CLK_EVT counters, high words (04 R150) -/
  | clkEvtHi
  /-- PWR_CTL_CTRL (14 R509) -/
  | pwrCtrl
  /-- PWR_CTL_CFG (14 R509) -/
  | pwrCfg
  /-- PWR_CTL_LIMIT (14 R509) -/
  | pwrLimit
  /-- PWR_CTL_TJ (14 R509) -/
  | pwrTj
  /-- PWR_CTL_FLAGS (14 R509) -/
  | pwrFlags
  /-- PWR_CTL_STATUS (14 R509) -/
  | pwrStatus
  /-- PWR_CTL_BEAT (14 R509) -/
  | pwrBeat
  /-- PWR_CTL_MS (14 R509) -/
  | pwrMs
  /-- PWR_CTL_SEC (14 R509) -/
  | pwrSec
  /-- PWR_CTL_TEMP (14 R509) -/
  | pwrTemp
  /-- PWR_CTL_CL (14 R509) -/
  | pwrCl
  /-- PWR_EVT counters, low words (04 R150) -/
  | pwrEvtLo
  /-- PWR_EVT counters, high words (04 R150) -/
  | pwrEvtHi
  /-- PWR_TEN_MEAN (14 R509) -/
  | tenMean
  /-- PWR_TEN_THR (14 R509) -/
  | tenThr
  /-- RAS_CTL_CTRL (15 R534) -/
  | rasCtrl
  /-- RAS_CFG (15 R534) -/
  | rasCfg
  /-- RAS_FLAGS (15 R534) -/
  | rasFlags
  /-- RAS_CONTEND_INFO (15 R534) -/
  | rasContendInfo
  /-- RAS_SVC_CAUSE (15 R534) -/
  | rasSvcCause
  /-- RAS_SVC_MASK (15 R534) -/
  | rasSvcMask
  /-- RAS_SVC_STATUS (15 R534) -/
  | rasSvcStatus
  /-- RAS_FENCE (15 R534) -/
  | rasFence
  /-- RAS_CELLAR (15 R534) -/
  | rasCellar
  /-- RAS_CELLAR_WAYS (15 R534) -/
  | rasCellarWays
  /-- RAS_IFT_CMD (15 R534) -/
  | rasIftCmd
  /-- RAS_IFT_STATUS (15 R534) -/
  | rasIftStatus
  /-- RAS_FENCED (15 R534) -/
  | rasFenced
  /-- RAS_WAY_ADVISE (15 R534) -/
  | rasWayAdvise
  /-- RAS_DIR_SEL (15 R534) -/
  | rasDirSel
  /-- RAS_DIR_DATA (15 R534) -/
  | rasDirData
  /-- RAS_FLOG_STATUS (15 R534) -/
  | rasFlogStatus
  /-- RAS_FLOG (entry i, word j as index 8i + j) (15 R534) -/
  | rasFlog
  /-- RAS_EVT counters, low words (04 R150) -/
  | rasEvtLo
  /-- RAS_EVT counters, high words (04 R150) -/
  | rasEvtHi
  /-- RAS_D2D_STATUS (15 R535) -/
  | d2dStatus
  /-- RAS_D2D_CTRL (15 R535) -/
  | d2dCtrl
  /-- RAS_D2D_EVT_RETRAIN_LO (04 R150) -/
  | d2dEvtLo
  /-- RAS_D2D_EVT_RETRAIN_HI (04 R150) -/
  | d2dEvtHi
  /-- TUN_AON_PEND (16 R548) -/
  | aonPend
  /-- TUN_AON_EVENT (16 R548) -/
  | aonEvent
  /-- TUN_AON_SCRATCH (16 R548) -/
  | aonScratch
  /-- CD_STATUS (16 R561) -/
  | cdStatus
  /-- CL_STATUS (16 R562) -/
  | clStatus
  /-- CL_FMAX (16 R562) -/
  | clFmax
  deriving DecidableEq, Repr

/-- The table of the registers, in the order of `Reg`. -/
def Reg.info : Reg → RegInfo
  | .coreCtrl => ⟨.core, 0, 0, 1, [⟨0, 1, .rw, 0⟩, ⟨1, 1, .rw, 0⟩]⟩
  | .coreCfg => ⟨.core, 4, 0, 1, [⟨0, 2, .rwd, 0⟩, ⟨4, 3, .rwd, 3⟩]⟩
  | .coreStatus => ⟨.core, 8, 0, 1,
      [⟨0, 7, .ro, 0⟩, ⟨8, 9, .ro, 256⟩, ⟨17, 1, .ro, 1⟩, ⟨18, 4, .ro, 0⟩, ⟨22, 2, .ro, 0⟩, ⟨24, 1, .ro, 0⟩]⟩
  | .coreFlags => ⟨.core, 12, 0, 1, [⟨0, 1, .w1c, 0⟩]⟩
  | .coreFaultStatus => ⟨.core, 16, 0, 1,
      [⟨0, 16, .ro, 0⟩, ⟨16, 6, .ro, 0⟩, ⟨22, 8, .ro, 0⟩, ⟨30, 1, .w1c, 0⟩, ⟨31, 1, .w1c, 0⟩]⟩
  | .coreFaultPcLo => ⟨.core, 20, 0, 1, [⟨0, 32, .ro, 0⟩]⟩
  | .coreFaultPcHi => ⟨.core, 24, 0, 1, [⟨0, 32, .ro, 0⟩]⟩
  | .coreFaultInfo => ⟨.core, 28, 0, 1, [⟨0, 32, .ro, 0⟩]⟩
  | .coreGroupSel => ⟨.core, 32, 0, 1, [⟨0, 6, .rw, 0⟩]⟩
  | .coreGroupState => ⟨.core, 36, 0, 1,
      [⟨0, 1, .ro, 0⟩, ⟨1, 1, .ro, 0⟩, ⟨2, 1, .ro, 0⟩, ⟨3, 1, .ro, 0⟩, ⟨4, 1, .ro, 0⟩, ⟨5, 6, .ro, 0⟩, ⟨11, 13, .ro, 0⟩, ⟨24, 6, .ro, 0⟩]⟩
  | .coreGroupActive => ⟨.core, 40, 0, 1, [⟨0, 32, .ro, 0⟩]⟩
  | .coreGroupLaunch => ⟨.core, 44, 0, 1, [⟨0, 32, .ro, 0⟩]⟩
  | .coreEvtLo => ⟨.core, 256, 8, 8, [⟨0, 32, .ro, 0⟩]⟩
  | .coreEvtHi => ⟨.core, 260, 8, 8, [⟨0, 16, .ro, 0⟩, ⟨16, 1, .w1c, 0⟩]⟩
  | .llmRgnDesc => ⟨.llmRgn, 0, 4, 1024,
      [⟨0, 1, .rw, 0⟩, ⟨1, 2, .rwd, 0⟩, ⟨3, 1, .rwd, 0⟩, ⟨4, 2, .rwd, 0⟩, ⟨6, 1, .rwd, 0⟩, ⟨8, 4, .rwd, 0⟩, ⟨12, 10, .rwd, 0⟩, ⟨22, 1, .ro, 0⟩, ⟨23, 1, .w1c, 0⟩, ⟨31, 1, .w1c, 0⟩]⟩
  | .sliceCtrl => ⟨.llmSlice, 0, 0, 1, [⟨0, 1, .rw, 0⟩]⟩
  | .sliceFlags => ⟨.llmSlice, 4, 0, 1, [⟨0, 1, .w1c, 0⟩]⟩
  | .sliceStatus => ⟨.llmSlice, 8, 0, 1, [⟨0, 7, .ro, 0⟩, ⟨7, 13, .ro, 0⟩, ⟨20, 9, .ro, 0⟩]⟩
  | .slicePoisonLo => ⟨.llmSlice, 16, 0, 1, [⟨0, 32, .ro, 0⟩]⟩
  | .slicePoisonHi => ⟨.llmSlice, 20, 0, 1, [⟨0, 32, .ro, 0⟩]⟩
  | .slicePoisonInfo => ⟨.llmSlice, 24, 0, 1,
      [⟨0, 2, .ro, 0⟩, ⟨2, 9, .ro, 0⟩, ⟨30, 1, .w1c, 0⟩, ⟨31, 1, .w1c, 0⟩]⟩
  | .sliceWay => ⟨.llmSlice, 64, 4, 16,
      [⟨0, 2, .rw, 0⟩, ⟨2, 6, .rw, 0⟩, ⟨8, 13, .rw, 0⟩, ⟨30, 1, .ro, 0⟩, ⟨31, 1, .w1c, 0⟩]⟩
  | .sliceEvtLo => ⟨.llmSlice, 256, 8, 7, [⟨0, 32, .ro, 0⟩]⟩
  | .sliceEvtHi => ⟨.llmSlice, 260, 8, 7, [⟨0, 16, .ro, 0⟩, ⟨16, 1, .w1c, 0⟩]⟩
  | .llmCtlCtrl => ⟨.llmCtl, 0, 0, 1, [⟨0, 1, .rw, 0⟩]⟩
  | .llmCtlCfg => ⟨.llmCtl, 4, 0, 1, [⟨0, 10, .rwd, 64⟩]⟩
  | .llmCtlFlags => ⟨.llmCtl, 8, 0, 1, [⟨0, 1, .w1c, 0⟩]⟩
  | .llmCtlRangeAddrLo => ⟨.llmCtl, 16, 0, 1, [⟨0, 32, .rw, 0⟩]⟩
  | .llmCtlRangeAddrHi => ⟨.llmCtl, 20, 0, 1, [⟨0, 32, .rw, 0⟩]⟩
  | .llmCtlRangeLenLo => ⟨.llmCtl, 24, 0, 1, [⟨0, 32, .rw, 0⟩]⟩
  | .llmCtlRangeLenHi => ⟨.llmCtl, 28, 0, 1, [⟨0, 32, .rw, 0⟩]⟩
  | .llmCtlRangeOp => ⟨.llmCtl, 32, 0, 1,
      [⟨0, 2, .rw, 0⟩, ⟨2, 2, .rw, 0⟩, ⟨4, 6, .rw, 0⟩, ⟨30, 1, .wo, 0⟩]⟩
  | .llmCtlRangeStatus => ⟨.llmCtl, 36, 0, 1,
      [⟨0, 1, .ro, 0⟩, ⟨1, 1, .w1c, 0⟩, ⟨2, 1, .w1c, 0⟩, ⟨16, 16, .ro, 0⟩]⟩
  | .hbmCtlCtrl => ⟨.hbmCtl, 0, 0, 1, [⟨0, 1, .rw, 0⟩]⟩
  | .hbmCtlCfg => ⟨.hbmCtl, 4, 0, 1,
      [⟨0, 10, .rwd, 64⟩, ⟨10, 4, .rwd, 8⟩, ⟨14, 10, .rwd, 256⟩, ⟨24, 2, .ro, 0⟩]⟩
  | .hbmCtlFlags => ⟨.hbmCtl, 8, 0, 1, [⟨0, 1, .w1c, 0⟩]⟩
  | .hbmCtlRetire => ⟨.hbmCtl, 16, 0, 1,
      [⟨0, 9, .rw, 0⟩, ⟨9, 1, .wo, 0⟩, ⟨10, 2, .ro, 0⟩, ⟨12, 4, .ro, 0⟩]⟩
  | .hbmCtlRetireMoved => ⟨.hbmCtl, 20, 0, 1, [⟨0, 25, .ro, 0⟩]⟩
  | .hbmCtlRetireTotal => ⟨.hbmCtl, 24, 0, 1, [⟨0, 25, .ro, 0⟩]⟩
  | .hbmCtlStatus => ⟨.hbmCtl, 28, 0, 1, [⟨0, 10, .ro, 0⟩]⟩
  | .hbmCtlRetired => ⟨.hbmCtl, 64, 4, 16, [⟨0, 32, .ro, 0⟩]⟩
  | .stackCtrl => ⟨.hbmStack, 0, 0, 1, [⟨0, 1, .rw, 0⟩]⟩
  | .stackFlags => ⟨.hbmStack, 4, 0, 1, [⟨0, 1, .w1c, 0⟩]⟩
  | .stackStatus => ⟨.hbmStack, 8, 0, 1,
      [⟨0, 1, .ro, 0⟩, ⟨1, 1, .ro, 0⟩, ⟨2, 1, .ro, 0⟩, ⟨3, 1, .ro, 0⟩, ⟨4, 1, .ro, 0⟩, ⟨8, 8, .ro, 0⟩, ⟨16, 16, .ro, 0⟩]⟩
  | .stackTempCfg => ⟨.hbmStack, 12, 0, 1, [⟨0, 8, .rwd, 85⟩, ⟨8, 8, .rwd, 95⟩, ⟨16, 8, .rwd, 100⟩]⟩
  | .stackErrInfo => ⟨.hbmStack, 16, 0, 1,
      [⟨0, 5, .ro, 0⟩, ⟨5, 2, .ro, 0⟩, ⟨7, 1, .ro, 0⟩, ⟨30, 1, .w1c, 0⟩, ⟨31, 1, .w1c, 0⟩]⟩
  | .stackErrLine => ⟨.hbmStack, 20, 0, 1, [⟨0, 24, .ro, 0⟩]⟩
  | .stackPcStatus => ⟨.hbmStack, 128, 4, 32,
      [⟨0, 1, .ro, 0⟩, ⟨1, 1, .w1c, 0⟩, ⟨2, 4, .ro, 0⟩, ⟨6, 1, .ro, 0⟩]⟩
  | .stackEvtLo => ⟨.hbmStack, 256, 8, 6, [⟨0, 32, .ro, 0⟩]⟩
  | .stackEvtHi => ⟨.hbmStack, 260, 8, 6, [⟨0, 16, .ro, 0⟩, ⟨16, 1, .w1c, 0⟩]⟩
  | .bxfCtlCtrl => ⟨.bxfCtl, 0, 0, 1, [⟨0, 1, .rw, 0⟩]⟩
  | .bxfCtlCfg => ⟨.bxfCtl, 4, 0, 1, [⟨0, 16, .rwd, 0⟩, ⟨16, 1, .rwd, 0⟩, ⟨17, 5, .rwd, 16⟩]⟩
  | .bxfCtlTimeout => ⟨.bxfCtl, 8, 0, 1, [⟨0, 16, .rwd, 500⟩, ⟨16, 12, .rwd, 64⟩]⟩
  | .bxfCtlFlags => ⟨.bxfCtl, 12, 0, 1,
      [⟨0, 1, .w1c, 0⟩, ⟨1, 1, .w1c, 0⟩, ⟨2, 1, .w1c, 0⟩, ⟨3, 1, .w1c, 0⟩]⟩
  | .bxfCtlBeatCfg => ⟨.bxfCtl, 16, 0, 1, [⟨0, 4, .rwd, 4⟩, ⟨4, 6, .rwd, 32⟩, ⟨10, 1, .rwd, 1⟩]⟩
  | .bxfCtlBeatStatus => ⟨.bxfCtl, 20, 0, 1,
      [⟨0, 3, .ro, 0⟩, ⟨3, 4, .ro, 15⟩, ⟨7, 3, .ro, 0⟩, ⟨10, 1, .w1c, 0⟩, ⟨12, 16, .ro, 0⟩]⟩
  | .bxfCtlBeatEpoch => ⟨.bxfCtl, 24, 0, 1, [⟨0, 32, .ro, 0⟩]⟩
  | .bxfCtlBeatOffset => ⟨.bxfCtl, 28, 0, 1, [⟨0, 16, .ro, 0⟩, ⟨16, 8, .ro, 0⟩]⟩
  | .bxfCtlBmaster => ⟨.bxfCtl, 32, 4, 8, [⟨0, 16, .rwd, 0⟩, ⟨16, 1, .rwd, 0⟩]⟩
  | .bxfCtlRouteSel => ⟨.bxfCtl, 64, 0, 1, [⟨0, 16, .rw, 0⟩]⟩
  | .bxfCtlRouteData => ⟨.bxfCtl, 68, 0, 65536, [⟨0, 8, .rw, 0⟩, ⟨8, 5, .rw, 0⟩, ⟨13, 1, .rw, 0⟩]⟩
  | .bxfCtlColl => ⟨.bxfCtl, 72, 4, 2, [⟨0, 16, .rw, 0⟩, ⟨16, 1, .rw, 0⟩]⟩
  | .bxfCtlDigestBaseLo => ⟨.bxfCtl, 80, 0, 1, [⟨0, 1, .rw, 0⟩, ⟨22, 10, .rw, 0⟩]⟩
  | .bxfCtlDigestBaseHi => ⟨.bxfCtl, 84, 0, 1, [⟨0, 32, .rw, 0⟩]⟩
  | .bxfCtlDigest => ⟨.bxfCtl, 96, 4, 8, [⟨0, 32, .ro, 0⟩]⟩
  | .bxfCtlDigestBeat => ⟨.bxfCtl, 128, 4, 2, [⟨0, 32, .ro, 0⟩]⟩
  | .bxfCtlPkey => ⟨.bxfCtl, 256, 4, 64, [⟨0, 12, .rw, 0⟩, ⟨12, 1, .rw, 0⟩, ⟨16, 4, .rw, 1⟩]⟩
  | .bxfCtlSpanwinA => ⟨.bxfCtl, 512, 8, 16, [⟨0, 16, .rw, 0⟩, ⟨16, 16, .rw, 0⟩]⟩
  | .bxfCtlSpanwinB => ⟨.bxfCtl, 516, 8, 16, [⟨0, 4, .rw, 0⟩, ⟨4, 5, .rw, 0⟩, ⟨31, 1, .rw, 0⟩]⟩
  | .bxfCtlEvtLo => ⟨.bxfCtl, 768, 8, 8, [⟨0, 32, .ro, 0⟩]⟩
  | .bxfCtlEvtHi => ⟨.bxfCtl, 772, 8, 8, [⟨0, 16, .ro, 0⟩, ⟨16, 1, .w1c, 0⟩]⟩
  | .portCtrl => ⟨.bxfPort, 0, 0, 1, [⟨0, 1, .rw, 0⟩, ⟨1, 1, .wo, 0⟩]⟩
  | .portCfg => ⟨.bxfPort, 4, 0, 1,
      [⟨0, 16, .rwd, 0⟩, ⟨16, 1, .rwd, 0⟩, ⟨17, 1, .rwd, 1⟩, ⟨18, 1, .rwd, 1⟩]⟩
  | .portFlags => ⟨.bxfPort, 8, 0, 1,
      [⟨0, 1, .w1c, 0⟩, ⟨1, 1, .w1c, 0⟩, ⟨2, 1, .w1c, 0⟩, ⟨3, 1, .w1c, 0⟩]⟩
  | .portStatus => ⟨.bxfPort, 12, 0, 1,
      [⟨0, 3, .ro, 0⟩, ⟨3, 2, .ro, 0⟩, ⟨8, 16, .ro, 0⟩, ⟨24, 1, .ro, 0⟩]⟩
  | .portLanes => ⟨.bxfPort, 16, 0, 1, [⟨0, 16, .ro, 0⟩, ⟨16, 5, .ro, 31⟩, ⟨21, 5, .ro, 31⟩]⟩
  | .portDelay => ⟨.bxfPort, 20, 0, 1, [⟨0, 16, .ro, 0⟩]⟩
  | .portVc0Wait => ⟨.bxfPort, 24, 0, 1, [⟨0, 16, .ro, 0⟩, ⟨31, 1, .wo, 0⟩]⟩
  | .portEvtLo => ⟨.bxfPort, 256, 8, 6, [⟨0, 32, .ro, 0⟩]⟩
  | .portEvtHi => ⟨.bxfPort, 260, 8, 6, [⟨0, 16, .ro, 0⟩, ⟨16, 1, .w1c, 0⟩]⟩
  | .barCfg => ⟨.bxfBar, 0, 64, 64,
      [⟨0, 16, .rw, 0⟩, ⟨16, 1, .rw, 0⟩, ⟨17, 4, .rw, 0⟩, ⟨21, 10, .rw, 0⟩, ⟨31, 1, .rw, 0⟩]⟩
  | .barOwner => ⟨.bxfBar, 4, 64, 64, [⟨0, 6, .rw, 0⟩]⟩
  | .barRwordLo => ⟨.bxfBar, 8, 64, 64, [⟨0, 32, .rw, 0⟩]⟩
  | .barRwordHi => ⟨.bxfBar, 12, 64, 64, [⟨0, 32, .rw, 0⟩]⟩
  | .barArrive => ⟨.bxfBar, 16, 64, 64, [⟨0, 32, .wo, 0⟩]⟩
  | .barStatus => ⟨.bxfBar, 20, 64, 64,
      [⟨0, 10, .ro, 0⟩, ⟨10, 4, .ro, 0⟩, ⟨14, 1, .ro, 0⟩, ⟨15, 1, .w1c, 0⟩, ⟨16, 16, .ro, 0⟩]⟩
  | .barRoundLo => ⟨.bxfBar, 24, 64, 64, [⟨0, 32, .ro, 0⟩]⟩
  | .barRoundHi => ⟨.bxfBar, 28, 64, 64, [⟨0, 32, .ro, 0⟩]⟩
  | .barChild => ⟨.bxfBar, 32, 4, 256, [⟨0, 16, .rw, 0⟩, ⟨16, 16, .rw, 0⟩]⟩
  | .bxfArrive => ⟨.bxfArrive, 0, 4, 64, [⟨0, 32, .wo, 0⟩]⟩
  | .beatCtrl => ⟨.tunBeat, 0, 0, 1, [⟨0, 1, .rw, 0⟩, ⟨1, 1, .rwd, 0⟩]⟩
  | .beatCfg => ⟨.tunBeat, 4, 0, 1, [⟨0, 17, .rwd, 0⟩]⟩
  | .beatFlags => ⟨.tunBeat, 8, 0, 1, [⟨0, 1, .w1c, 0⟩, ⟨1, 1, .w1c, 0⟩, ⟨2, 1, .w1c, 0⟩]⟩
  | .beatStatus => ⟨.tunBeat, 12, 0, 1, [⟨0, 1, .ro, 0⟩, ⟨8, 8, .ro, 0⟩]⟩
  | .beatTbLo => ⟨.tunBeat, 16, 0, 1, [⟨0, 32, .ro, 0⟩]⟩
  | .beatTbHi => ⟨.tunBeat, 20, 0, 1, [⟨0, 32, .ro, 0⟩]⟩
  | .beatLatchLo => ⟨.tunBeat, 24, 0, 1, [⟨0, 32, .ro, 0⟩]⟩
  | .beatLatchHi => ⟨.tunBeat, 28, 0, 1, [⟨0, 32, .ro, 0⟩]⟩
  | .beatNumLo => ⟨.tunBeat, 32, 0, 1, [⟨0, 32, .ro, 0⟩]⟩
  | .beatNumHi => ⟨.tunBeat, 36, 0, 1, [⟨0, 32, .ro, 0⟩]⟩
  | .beatInDelay => ⟨.tunBeat, 40, 0, 1, [⟨0, 16, .rwd, 0⟩]⟩
  | .partCfg => ⟨.tunPart, 0, 64, 64,
      [⟨0, 1, .rw, 0⟩, ⟨1, 6, .rwd, 0⟩, ⟨8, 8, .rwd, 0⟩, ⟨16, 8, .rwd, 0⟩]⟩
  | .partCmd => ⟨.tunPart, 4, 64, 64,
      [⟨0, 2, .rw, 0⟩, ⟨2, 1, .wo, 0⟩, ⟨3, 3, .ro, 0⟩, ⟨6, 4, .ro, 0⟩, ⟨30, 1, .w1c, 0⟩, ⟨31, 1, .w1c, 0⟩]⟩
  | .partCores => ⟨.tunPart, 8, 4, 512, [⟨0, 32, .rwd, 0⟩]⟩
  | .partSeq => ⟨.tunPart, 40, 64, 64, [⟨0, 8, .rwd, 0⟩, ⟨8, 9, .rwd, 0⟩]⟩
  | .partSave => ⟨.tunPart, 44, 64, 64, [⟨0, 10, .rwd, 0⟩, ⟨10, 10, .rwd, 0⟩]⟩
  | .partCtxmask => ⟨.tunPart, 48, 64, 64, [⟨0, 16, .ro, 0⟩, ⟨16, 16, .w1c, 0⟩]⟩
  | .tunCtx => ⟨.tunCtx, 0, 4, 1024,
      [⟨0, 1, .rw, 0⟩, ⟨1, 2, .rw, 0⟩, ⟨3, 3, .ro, 0⟩, ⟨16, 16, .ro, 0⟩]⟩
  | .seqCtl => ⟨.tunSeq, 0, 16, 256, [⟨0, 1, .rw, 0⟩, ⟨1, 4, .rw, 0⟩, ⟨16, 16, .rw, 0⟩]⟩
  | .seqPos => ⟨.tunSeq, 4, 16, 256, [⟨0, 32, .rw, 0⟩]⟩
  | .seqLimit => ⟨.tunSeq, 8, 16, 256, [⟨0, 32, .rw, 0⟩]⟩
  | .rgnown => ⟨.tunRgnown, 0, 4, 1024, [⟨0, 6, .rw, 0⟩, ⟨6, 1, .rw, 0⟩, ⟨31, 1, .w1c, 0⟩]⟩
  | .fnWinBaseLo => ⟨.pciFn, 0, 0, 1, [⟨0, 32, .rw, 0⟩]⟩
  | .fnWinBaseHi => ⟨.pciFn, 4, 0, 1, [⟨0, 32, .rw, 0⟩]⟩
  | .fnErr => ⟨.pciFn, 8, 0, 1,
      [⟨0, 16, .ro, 0⟩, ⟨16, 1, .ro, 0⟩, ⟨30, 1, .w1c, 0⟩, ⟨31, 1, .w1c, 0⟩]⟩
  | .fnErrAddrLo => ⟨.pciFn, 12, 0, 1, [⟨0, 32, .ro, 0⟩]⟩
  | .fnErrAddrHi => ⟨.pciFn, 16, 0, 1, [⟨0, 32, .ro, 0⟩]⟩
  | .pciCtlCtrl => ⟨.pciCtl, 0, 0, 1, [⟨0, 1, .rw, 0⟩]⟩
  | .pciCtlMsixPf => ⟨.pciCtl, 4, 0, 1, [⟨0, 12, .rwd, 1985⟩]⟩
  | .pciCtlFlags => ⟨.pciCtl, 8, 0, 1, [⟨0, 1, .w1c, 0⟩]⟩
  | .pciCtlMsixVf => ⟨.pciCtl, 256, 4, 64, [⟨0, 12, .rwd, 1⟩]⟩
  | .ringCtrl => ⟨.tunRing, 0, 64, 1024,
      [⟨0, 1, .rw, 0⟩, ⟨1, 1, .rwd, 0⟩, ⟨2, 1, .rwd, 0⟩, ⟨3, 5, .rwd, 8⟩, ⟨8, 11, .rwd, 1⟩, ⟨19, 5, .rwd, 12⟩]⟩
  | .ringStatus => ⟨.tunRing, 4, 64, 1024, [⟨0, 2, .ro, 0⟩, ⟨31, 1, .w1c, 0⟩]⟩
  | .ringBaseLo => ⟨.tunRing, 8, 64, 1024, [⟨0, 32, .rwd, 0⟩]⟩
  | .ringBaseHi => ⟨.tunRing, 12, 64, 1024, [⟨0, 32, .rwd, 0⟩]⟩
  | .ringTailLo => ⟨.tunRing, 16, 64, 1024, [⟨0, 32, .rwd, 0⟩]⟩
  | .ringTailHi => ⟨.tunRing, 20, 64, 1024, [⟨0, 32, .rwd, 0⟩]⟩
  | .ringCplLo => ⟨.tunRing, 24, 64, 1024, [⟨0, 32, .rwd, 0⟩]⟩
  | .ringCplHi => ⟨.tunRing, 28, 64, 1024, [⟨0, 32, .rwd, 0⟩]⟩
  | .ringHeadLo => ⟨.tunRing, 32, 64, 1024, [⟨0, 32, .ro, 0⟩]⟩
  | .ringHeadHi => ⟨.tunRing, 36, 64, 1024, [⟨0, 32, .ro, 0⟩]⟩
  | .xlatRootLo => ⟨.tunXlat, 0, 16, 64, [⟨17, 15, .rwd, 0⟩]⟩
  | .xlatRootHi => ⟨.tunXlat, 4, 16, 64, [⟨0, 8, .rwd, 0⟩]⟩
  | .xlatCfg => ⟨.tunXlat, 8, 16, 64, [⟨0, 1, .rw, 0⟩, ⟨31, 1, .w1c, 0⟩]⟩
  | .xlatInv => ⟨.tunXlat, 1024, 0, 1,
      [⟨0, 6, .rw, 0⟩, ⟨6, 1, .rw, 0⟩, ⟨7, 14, .rw, 0⟩, ⟨30, 1, .wo, 0⟩]⟩
  | .xlatInvStatus => ⟨.tunXlat, 1028, 0, 1, [⟨0, 1, .ro, 0⟩, ⟨1, 1, .w1c, 0⟩, ⟨31, 1, .w1c, 0⟩]⟩
  | .secStatus => ⟨.secCtl, 0, 0, 1,
      [⟨0, 2, .ro, 0⟩, ⟨2, 1, .ro, 0⟩, ⟨3, 1, .ro, 0⟩, ⟨4, 1, .ro, 0⟩, ⟨5, 1, .ro, 0⟩, ⟨6, 8, .ro, 0⟩, ⟨14, 8, .ro, 0⟩]⟩
  | .secCfg => ⟨.secCtl, 4, 0, 1, [⟨0, 16, .rw, 128⟩, ⟨16, 16, .rw, 1024⟩]⟩
  | .secFlags => ⟨.secCtl, 8, 0, 1,
      [⟨0, 1, .w1c, 0⟩, ⟨1, 1, .w1c, 0⟩, ⟨2, 1, .w1c, 0⟩, ⟨3, 1, .w1c, 0⟩]⟩
  | .secCommit => ⟨.secCtl, 12, 0, 1,
      [⟨0, 1, .wo, 0⟩, ⟨1, 1, .wo, 0⟩, ⟨2, 1, .ro, 0⟩, ⟨3, 1, .w1c, 0⟩, ⟨4, 1, .w1c, 0⟩]⟩
  | .secIdxLo => ⟨.secCtl, 16, 0, 1, [⟨0, 32, .ro, 0⟩]⟩
  | .secIdxHi => ⟨.secCtl, 20, 0, 1, [⟨0, 8, .ro, 0⟩]⟩
  | .secCaskInfo => ⟨.secCtl, 24, 0, 1,
      [⟨0, 10, .ro, 0⟩, ⟨10, 1, .ro, 0⟩, ⟨30, 1, .w1c, 0⟩, ⟨31, 1, .w1c, 0⟩]⟩
  | .secCaskOfs => ⟨.secCtl, 28, 0, 1, [⟨0, 30, .ro, 0⟩]⟩
  | .secRecCtrl => ⟨.secCtl, 32, 0, 1,
      [⟨0, 1, .wo, 0⟩, ⟨1, 1, .wo, 0⟩, ⟨2, 1, .ro, 0⟩, ⟨3, 1, .w1c, 0⟩, ⟨4, 2, .rw, 0⟩]⟩
  | .secRecData => ⟨.secCtl, 36, 0, 1, [⟨0, 32, .wo, 0⟩]⟩
  | .secVer => ⟨.secCtl, 64, 4, 6, [⟨0, 32, .ro, 0⟩]⟩
  | .secEvtLo => ⟨.secCtl, 256, 8, 6, [⟨0, 32, .ro, 0⟩]⟩
  | .secEvtHi => ⟨.secCtl, 260, 8, 6, [⟨0, 16, .ro, 0⟩, ⟨16, 1, .w1c, 0⟩]⟩
  | .keyAddrLo => ⟨.secKey, 0, 64, 64, [⟨0, 32, .rw, 0⟩]⟩
  | .keyAddrHi => ⟨.secKey, 4, 64, 64, [⟨0, 32, .rw, 0⟩]⟩
  | .keyCmd => ⟨.secKey, 8, 64, 64, [⟨0, 2, .rw, 0⟩, ⟨2, 4, .rw, 0⟩, ⟨6, 1, .wo, 0⟩]⟩
  | .keyStatus => ⟨.secKey, 12, 64, 64,
      [⟨0, 1, .ro, 0⟩, ⟨1, 1, .w1c, 0⟩, ⟨2, 4, .ro, 0⟩, ⟨8, 4, .ro, 0⟩, ⟨31, 1, .w1c, 0⟩]⟩
  | .keyHeld => ⟨.secKey, 16, 64, 64, [⟨0, 16, .ro, 0⟩]⟩
  | .kegStatus => ⟨.keg, 0, 0, 1, [⟨0, 1, .ro, 0⟩, ⟨1, 1, .ro, 0⟩, ⟨8, 8, .ro, 0⟩]⟩
  | .kegCnt => ⟨.keg, 8, 4, 16, [⟨0, 32, .ro, 0⟩]⟩
  | .clkCfg => ⟨.clkCtl, 0, 0, 1, [⟨0, 1, .ro, 0⟩, ⟨1, 1, .ro, 0⟩, ⟨2, 2, .rw, 3⟩]⟩
  | .clkStatus => ⟨.clkCtl, 4, 0, 1,
      [⟨0, 1, .ro, 0⟩, ⟨1, 1, .ro, 0⟩, ⟨2, 1, .ro, 1⟩, ⟨3, 2, .ro, 0⟩, ⟨5, 1, .ro, 0⟩]⟩
  | .clkFlags => ⟨.clkCtl, 8, 0, 1, [⟨0, 1, .w1c, 0⟩, ⟨1, 1, .w1c, 0⟩, ⟨2, 1, .w1c, 0⟩]⟩
  | .clkTrim => ⟨.clkCtl, 12, 0, 1, [⟨0, 16, .ro, 0⟩, ⟨16, 16, .ro, 0⟩]⟩
  | .clkGate => ⟨.clkCtl, 16, 4, 3, [⟨0, 32, .rw, 0⟩]⟩
  | .clkDom => ⟨.clkCtl, 256, 4, 62,
      [⟨0, 1, .rw, 0⟩, ⟨1, 1, .ro, 0⟩, ⟨2, 1, .w1c, 0⟩, ⟨16, 13, .ro, 0⟩, ⟨31, 1, .w1c, 0⟩]⟩
  | .clkEvtLo => ⟨.clkCtl, 512, 8, 3, [⟨0, 32, .ro, 0⟩]⟩
  | .clkEvtHi => ⟨.clkCtl, 516, 8, 3, [⟨0, 16, .ro, 0⟩, ⟨16, 1, .w1c, 0⟩]⟩
  | .pwrCtrl => ⟨.pwrCtl, 0, 0, 1, [⟨0, 1, .rw, 0⟩]⟩
  | .pwrCfg => ⟨.pwrCtl, 4, 0, 1,
      [⟨0, 1, .rwd, 0⟩, ⟨1, 1, .rwd, 0⟩, ⟨2, 1, .rwd, 1⟩, ⟨3, 1, .rwd, 1⟩, ⟨4, 4, .rwd, 4⟩, ⟨8, 6, .rwd, 16⟩, ⟨14, 7, .rwd, 64⟩]⟩
  | .pwrLimit => ⟨.pwrCtl, 8, 0, 1, [⟨0, 13, .rw, 6400⟩, ⟨13, 13, .rw, 650⟩]⟩
  | .pwrTj => ⟨.pwrCtl, 12, 0, 1, [⟨0, 8, .rwd, 97⟩]⟩
  | .pwrFlags => ⟨.pwrCtl, 16, 0, 1, [⟨0, 1, .w1c, 0⟩, ⟨1, 1, .w1c, 0⟩, ⟨2, 1, .w1c, 0⟩]⟩
  | .pwrStatus => ⟨.pwrCtl, 20, 0, 1, [⟨0, 6, .ro, 0⟩, ⟨6, 1, .ro, 0⟩, ⟨7, 1, .ro, 0⟩]⟩
  | .pwrBeat => ⟨.pwrCtl, 24, 0, 1, [⟨0, 13, .ro, 0⟩, ⟨13, 13, .ro, 0⟩]⟩
  | .pwrMs => ⟨.pwrCtl, 28, 0, 1, [⟨0, 13, .ro, 0⟩]⟩
  | .pwrSec => ⟨.pwrCtl, 32, 0, 1, [⟨0, 13, .ro, 0⟩]⟩
  | .pwrTemp => ⟨.pwrCtl, 64, 4, 9, [⟨0, 8, .ro, 0⟩]⟩
  | .pwrCl => ⟨.pwrCtl, 256, 4, 32,
      [⟨0, 13, .ro, 0⟩, ⟨13, 7, .ro, 64⟩, ⟨20, 8, .ro, 0⟩, ⟨28, 1, .ro, 0⟩]⟩
  | .pwrEvtLo => ⟨.pwrCtl, 512, 8, 8, [⟨0, 32, .ro, 0⟩]⟩
  | .pwrEvtHi => ⟨.pwrCtl, 516, 8, 8, [⟨0, 16, .ro, 0⟩, ⟨16, 1, .w1c, 0⟩]⟩
  | .tenMean => ⟨.pwrTen, 0, 0, 1, [⟨0, 10, .ro, 0⟩, ⟨10, 8, .ro, 0⟩]⟩
  | .tenThr => ⟨.pwrTen, 4, 4, 6, [⟨0, 20, .ro, 0⟩]⟩
  | .rasCtrl => ⟨.rasCtl, 0, 0, 1, [⟨0, 1, .rw, 0⟩]⟩
  | .rasCfg => ⟨.rasCtl, 4, 0, 1, [⟨0, 8, .rwd, 20⟩, ⟨8, 10, .rwd, 64⟩, ⟨18, 1, .rwd, 0⟩]⟩
  | .rasFlags => ⟨.rasCtl, 8, 0, 1, [⟨0, 1, .w1c, 0⟩, ⟨1, 1, .w1c, 0⟩]⟩
  | .rasContendInfo => ⟨.rasCtl, 12, 0, 1, [⟨0, 4, .ro, 0⟩, ⟨4, 4, .ro, 0⟩]⟩
  | .rasSvcCause => ⟨.rasCtl, 16, 0, 1,
      [⟨0, 1, .ro, 0⟩, ⟨1, 1, .w1c, 0⟩, ⟨2, 1, .ro, 0⟩, ⟨3, 1, .ro, 0⟩, ⟨4, 1, .ro, 0⟩, ⟨5, 1, .ro, 0⟩, ⟨6, 1, .ro, 0⟩, ⟨7, 1, .ro, 0⟩, ⟨8, 1, .ro, 0⟩, ⟨9, 1, .w1c, 0⟩]⟩
  | .rasSvcMask => ⟨.rasCtl, 20, 0, 1, [⟨0, 10, .rw, 0⟩]⟩
  | .rasSvcStatus => ⟨.rasCtl, 24, 0, 1, [⟨0, 1, .ro, 0⟩, ⟨1, 1, .ro, 0⟩]⟩
  | .rasFence => ⟨.rasCtl, 32, 0, 1,
      [⟨0, 9, .rw, 0⟩, ⟨9, 1, .rw, 0⟩, ⟨10, 1, .wo, 0⟩, ⟨11, 1, .w1c, 0⟩, ⟨12, 2, .ro, 0⟩]⟩
  | .rasCellar => ⟨.rasCtl, 36, 0, 1,
      [⟨0, 1, .rw, 0⟩, ⟨1, 9, .rw, 0⟩, ⟨10, 4, .rw, 0⟩, ⟨14, 1, .wo, 0⟩, ⟨15, 1, .ro, 0⟩, ⟨16, 1, .w1c, 0⟩, ⟨17, 1, .w1c, 0⟩, ⟨18, 3, .ro, 0⟩]⟩
  | .rasCellarWays => ⟨.rasCtl, 40, 0, 1, [⟨0, 10, .ro, 0⟩, ⟨10, 6, .ro, 0⟩]⟩
  | .rasIftCmd => ⟨.rasCtl, 48, 0, 1,
      [⟨0, 1, .rw, 0⟩, ⟨1, 9, .rw, 0⟩, ⟨10, 4, .rw, 0⟩, ⟨14, 1, .wo, 0⟩]⟩
  | .rasIftStatus => ⟨.rasCtl, 52, 0, 1, [⟨0, 2, .ro, 0⟩, ⟨2, 1, .w1c, 0⟩, ⟨3, 2, .ro, 0⟩]⟩
  | .rasFenced => ⟨.rasCtl, 64, 4, 9, [⟨0, 32, .ro, 0⟩]⟩
  | .rasWayAdvise => ⟨.rasCtl, 128, 4, 256, [⟨0, 32, .w1c, 0⟩]⟩
  | .rasDirSel => ⟨.rasCtl, 1152, 0, 1,
      [⟨0, 9, .rw, 0⟩, ⟨9, 8, .rw, 0⟩, ⟨17, 4, .rw, 0⟩, ⟨31, 1, .wo, 0⟩]⟩
  | .rasDirData => ⟨.rasCtl, 1156, 4, 10, [⟨0, 32, .ro, 0⟩]⟩
  | .rasFlogStatus => ⟨.rasCtl, 1200, 0, 1, [⟨0, 16, .ro, 0⟩, ⟨16, 6, .ro, 0⟩]⟩
  | .rasFlog => ⟨.rasCtl, 2048, 4, 512, [⟨0, 32, .ro, 0⟩]⟩
  | .rasEvtLo => ⟨.rasCtl, 1280, 8, 11, [⟨0, 32, .ro, 0⟩]⟩
  | .rasEvtHi => ⟨.rasCtl, 1284, 8, 11, [⟨0, 16, .ro, 0⟩, ⟨16, 1, .w1c, 0⟩]⟩
  | .d2dStatus => ⟨.rasD2d, 0, 16, 24,
      [⟨0, 3, .ro, 0⟩, ⟨3, 2, .ro, 0⟩, ⟨5, 6, .ro, 0⟩, ⟨11, 2, .ro, 0⟩, ⟨13, 2, .ro, 0⟩]⟩
  | .d2dCtrl => ⟨.rasD2d, 4, 16, 24, [⟨0, 1, .wo, 0⟩, ⟨1, 1, .wo, 0⟩, ⟨2, 1, .rw, 0⟩]⟩
  | .d2dEvtLo => ⟨.rasD2d, 8, 16, 24, [⟨0, 32, .ro, 0⟩]⟩
  | .d2dEvtHi => ⟨.rasD2d, 12, 16, 24, [⟨0, 16, .ro, 0⟩, ⟨16, 1, .w1c, 0⟩]⟩
  | .aonPend => ⟨.tunAon, 0, 0, 1, [⟨0, 1, .ro, 0⟩]⟩
  | .aonEvent => ⟨.tunAon, 4, 0, 1, [⟨0, 1, .w1c, 0⟩]⟩
  | .aonScratch => ⟨.tunAon, 16, 4, 4, [⟨0, 32, .rw, 0⟩]⟩
  | .cdStatus => ⟨.cd, 0, 0, 1,
      [⟨0, 3, .ro, 0⟩, ⟨3, 2, .ro, 0⟩, ⟨5, 1, .ro, 0⟩, ⟨6, 1, .ro, 0⟩, ⟨7, 1, .ro, 0⟩]⟩
  | .clStatus => ⟨.cl, 0, 0, 1, [⟨0, 9, .ro, 0⟩, ⟨9, 9, .ro, 0⟩, ⟨18, 4, .ro, 15⟩, ⟨22, 2, .ro, 3⟩]⟩
  | .clFmax => ⟨.cl, 4, 0, 1, [⟨0, 13, .ro, 4400⟩]⟩

/-- Every register. -/
def Reg.all : List Reg :=
  [.coreCtrl, .coreCfg, .coreStatus, .coreFlags, .coreFaultStatus, .coreFaultPcLo,
   .coreFaultPcHi, .coreFaultInfo, .coreGroupSel, .coreGroupState, .coreGroupActive, .coreGroupLaunch,
   .coreEvtLo, .coreEvtHi, .llmRgnDesc, .sliceCtrl, .sliceFlags, .sliceStatus,
   .slicePoisonLo, .slicePoisonHi, .slicePoisonInfo, .sliceWay, .sliceEvtLo, .sliceEvtHi,
   .llmCtlCtrl, .llmCtlCfg, .llmCtlFlags, .llmCtlRangeAddrLo, .llmCtlRangeAddrHi, .llmCtlRangeLenLo,
   .llmCtlRangeLenHi, .llmCtlRangeOp, .llmCtlRangeStatus, .hbmCtlCtrl, .hbmCtlCfg, .hbmCtlFlags,
   .hbmCtlRetire, .hbmCtlRetireMoved, .hbmCtlRetireTotal, .hbmCtlStatus] ++
  [.hbmCtlRetired, .stackCtrl, .stackFlags, .stackStatus, .stackTempCfg, .stackErrInfo,
   .stackErrLine, .stackPcStatus, .stackEvtLo, .stackEvtHi, .bxfCtlCtrl, .bxfCtlCfg,
   .bxfCtlTimeout, .bxfCtlFlags, .bxfCtlBeatCfg, .bxfCtlBeatStatus, .bxfCtlBeatEpoch, .bxfCtlBeatOffset,
   .bxfCtlBmaster, .bxfCtlRouteSel, .bxfCtlRouteData, .bxfCtlColl, .bxfCtlDigestBaseLo, .bxfCtlDigestBaseHi,
   .bxfCtlDigest, .bxfCtlDigestBeat, .bxfCtlPkey, .bxfCtlSpanwinA, .bxfCtlSpanwinB, .bxfCtlEvtLo,
   .bxfCtlEvtHi, .portCtrl, .portCfg, .portFlags, .portStatus, .portLanes,
   .portDelay, .portVc0Wait, .portEvtLo, .portEvtHi] ++
  [.barCfg, .barOwner, .barRwordLo, .barRwordHi, .barArrive, .barStatus,
   .barRoundLo, .barRoundHi, .barChild, .bxfArrive, .beatCtrl, .beatCfg,
   .beatFlags, .beatStatus, .beatTbLo, .beatTbHi, .beatLatchLo, .beatLatchHi,
   .beatNumLo, .beatNumHi, .beatInDelay, .partCfg, .partCmd, .partCores,
   .partSeq, .partSave, .partCtxmask, .tunCtx, .seqCtl, .seqPos,
   .seqLimit, .rgnown, .fnWinBaseLo, .fnWinBaseHi, .fnErr, .fnErrAddrLo,
   .fnErrAddrHi, .pciCtlCtrl, .pciCtlMsixPf, .pciCtlFlags] ++
  [.pciCtlMsixVf, .ringCtrl, .ringStatus, .ringBaseLo, .ringBaseHi, .ringTailLo,
   .ringTailHi, .ringCplLo, .ringCplHi, .ringHeadLo, .ringHeadHi, .xlatRootLo,
   .xlatRootHi, .xlatCfg, .xlatInv, .xlatInvStatus, .secStatus, .secCfg,
   .secFlags, .secCommit, .secIdxLo, .secIdxHi, .secCaskInfo, .secCaskOfs,
   .secRecCtrl, .secRecData, .secVer, .secEvtLo, .secEvtHi, .keyAddrLo,
   .keyAddrHi, .keyCmd, .keyStatus, .keyHeld, .kegStatus, .kegCnt,
   .clkCfg, .clkStatus, .clkFlags, .clkTrim] ++
  [.clkGate, .clkDom, .clkEvtLo, .clkEvtHi, .pwrCtrl, .pwrCfg,
   .pwrLimit, .pwrTj, .pwrFlags, .pwrStatus, .pwrBeat, .pwrMs,
   .pwrSec, .pwrTemp, .pwrCl, .pwrEvtLo, .pwrEvtHi, .tenMean,
   .tenThr, .rasCtrl, .rasCfg, .rasFlags, .rasContendInfo, .rasSvcCause,
   .rasSvcMask, .rasSvcStatus, .rasFence, .rasCellar, .rasCellarWays, .rasIftCmd,
   .rasIftStatus, .rasFenced, .rasWayAdvise, .rasDirSel, .rasDirData, .rasFlogStatus,
   .rasFlog, .rasEvtLo, .rasEvtHi, .d2dStatus] ++
  [.d2dCtrl, .d2dEvtLo, .d2dEvtHi, .aonPend, .aonEvent, .aonScratch,
   .cdStatus, .clStatus, .clFmax]

/-- The number of a register. -/
def Reg.num (r : Reg) : Nat := r.ctorIdx

/-- The key of a register word: instance × count + position in the array. -/
def Reg.key (r : Reg) (i : Nat) : Nat := r.num * 2 ^ 24 + i

/-- The reset word: the fields' reset values; CD_STATUS takes DIE, ROTATION and MIRROR from the
straps of its die (01 R23, 17 R577). -/
def Reg.resetWord (r : Reg) (i : Nat) : W32 :=
  match r with
  | .cdStatus => BitVec.ofNat 32 (i % 8 + i / 2 % 4 * 8 + i % 2 * 32)
  | r => BitVec.ofNat 32 (r.info.fields.foldl (fun w f => w + f.reset * 2 ^ f.lo) 0)

/-- The word of a register. -/
def State.rget (s : State) (r : Reg) (i : Nat) : W32 := SMap.get (r.resetWord i) s.regs (r.key i)

/-- The state with a register word set. -/
def State.rset (s : State) (r : Reg) (i : Nat) (v : W32) : State :=
  { s with regs := SMap.set (r.resetWord i) s.regs (r.key i) v }

/-- A named field of a register. -/
structure Fld where
  reg : Reg
  lo : Nat
  n : Nat
  deriving DecidableEq, Repr

/-- Bits [lo + n − 1 : lo] of a word. -/
def bitsOf (w : W32) (lo n : Nat) : Nat := w.toNat / 2 ^ lo % 2 ^ n

/-- A word with bits [lo + n − 1 : lo] replaced. -/
def withBits (w : W32) (lo n v : Nat) : W32 :=
  BitVec.ofNat 32
    (w.toNat / 2 ^ (lo + n) * 2 ^ (lo + n) + v % 2 ^ n * 2 ^ lo + w.toNat % 2 ^ lo)

/-- The value of a field. -/
def State.f (s : State) (x : Fld) (i : Nat) : Nat := bitsOf (s.rget x.reg i) x.lo x.n

/-- Whether a one-bit field is 1. -/
def State.b (s : State) (x : Fld) (i : Nat) : Bool := s.f x i == 1

/-- The state with a field set. -/
def State.setF (s : State) (x : Fld) (i v : Nat) : State :=
  s.rset x.reg i (withBits (s.rget x.reg i) x.lo x.n v)

namespace F

def coreCtrl_ENABLE : Fld := ⟨.coreCtrl, 0, 1⟩
def coreCtrl_ISSUE_HOLD : Fld := ⟨.coreCtrl, 1, 1⟩
def coreCfg_ISSUE_POLICY : Fld := ⟨.coreCfg, 0, 2⟩
def coreCfg_LOCK_RETRY : Fld := ⟨.coreCfg, 4, 3⟩
def coreStatus_RESIDENT : Fld := ⟨.coreStatus, 0, 7⟩
def coreStatus_FREE_GRANULES : Fld := ⟨.coreStatus, 8, 9⟩
def coreStatus_QUIESCED : Fld := ⟨.coreStatus, 17, 1⟩
def coreStatus_ME_BUSY : Fld := ⟨.coreStatus, 18, 4⟩
def coreStatus_VE_BUSY : Fld := ⟨.coreStatus, 22, 2⟩
def coreStatus_TM_BUSY : Fld := ⟨.coreStatus, 24, 1⟩
def coreFlags_WRITE_IGNORED : Fld := ⟨.coreFlags, 0, 1⟩
def coreFaultStatus_CODE : Fld := ⟨.coreFaultStatus, 0, 16⟩
def coreFaultStatus_SLOT : Fld := ⟨.coreFaultStatus, 16, 6⟩
def coreFaultStatus_LANE_FIRST : Fld := ⟨.coreFaultStatus, 22, 8⟩
def coreFaultStatus_MORE : Fld := ⟨.coreFaultStatus, 30, 1⟩
def coreFaultStatus_VALID : Fld := ⟨.coreFaultStatus, 31, 1⟩
def coreFaultPcLo_PC : Fld := ⟨.coreFaultPcLo, 0, 32⟩
def coreFaultPcHi_PC : Fld := ⟨.coreFaultPcHi, 0, 32⟩
def coreFaultInfo_INFO : Fld := ⟨.coreFaultInfo, 0, 32⟩
def coreGroupSel_SLOT : Fld := ⟨.coreGroupSel, 0, 6⟩
def coreGroupState_RESIDENT : Fld := ⟨.coreGroupState, 0, 1⟩
def coreGroupState_READY : Fld := ⟨.coreGroupState, 1, 1⟩
def coreGroupState_WAIT_BARRIER : Fld := ⟨.coreGroupState, 2, 1⟩
def coreGroupState_WAIT_LOCK : Fld := ⟨.coreGroupState, 3, 1⟩
def coreGroupState_WAIT_OPERAND : Fld := ⟨.coreGroupState, 4, 1⟩
def coreGroupState_DEPTH : Fld := ⟨.coreGroupState, 5, 6⟩
def coreGroupState_WDOG : Fld := ⟨.coreGroupState, 11, 13⟩
def coreGroupState_GRANULES : Fld := ⟨.coreGroupState, 24, 6⟩
def coreGroupActive_MASK : Fld := ⟨.coreGroupActive, 0, 32⟩
def coreGroupLaunch_MASK : Fld := ⟨.coreGroupLaunch, 0, 32⟩
def coreEvtLo_COUNT_LO : Fld := ⟨.coreEvtLo, 0, 32⟩
def coreEvtHi_COUNT_HI : Fld := ⟨.coreEvtHi, 0, 16⟩
def coreEvtHi_WRAP : Fld := ⟨.coreEvtHi, 16, 1⟩
def llmRgnDesc_VALID : Fld := ⟨.llmRgnDesc, 0, 1⟩
def llmRgnDesc_INTERLEAVE : Fld := ⟨.llmRgnDesc, 1, 2⟩
def llmRgnDesc_HASH : Fld := ⟨.llmRgnDesc, 3, 1⟩
def llmRgnDesc_POLICY : Fld := ⟨.llmRgnDesc, 4, 2⟩
def llmRgnDesc_RCACHE : Fld := ⟨.llmRgnDesc, 6, 1⟩
def llmRgnDesc_PLACE : Fld := ⟨.llmRgnDesc, 8, 4⟩
def llmRgnDesc_MIRROR : Fld := ⟨.llmRgnDesc, 12, 10⟩
def llmRgnDesc_FILLING : Fld := ⟨.llmRgnDesc, 22, 1⟩
def llmRgnDesc_NOSPACE : Fld := ⟨.llmRgnDesc, 23, 1⟩
def llmRgnDesc_WI : Fld := ⟨.llmRgnDesc, 31, 1⟩
def sliceCtrl_ENABLE : Fld := ⟨.sliceCtrl, 0, 1⟩
def sliceFlags_WRITE_IGNORED : Fld := ⟨.sliceFlags, 0, 1⟩
def sliceStatus_FARQ : Fld := ⟨.sliceStatus, 0, 7⟩
def sliceStatus_RBUSY : Fld := ⟨.sliceStatus, 7, 13⟩
def sliceStatus_DRAFFREC : Fld := ⟨.sliceStatus, 20, 9⟩
def slicePoisonLo_LINE : Fld := ⟨.slicePoisonLo, 0, 32⟩
def slicePoisonHi_LINE : Fld := ⟨.slicePoisonHi, 0, 32⟩
def slicePoisonInfo_CAUSE : Fld := ⟨.slicePoisonInfo, 0, 2⟩
def slicePoisonInfo_AGENT : Fld := ⟨.slicePoisonInfo, 2, 9⟩
def slicePoisonInfo_MORE : Fld := ⟨.slicePoisonInfo, 30, 1⟩
def slicePoisonInfo_VALID : Fld := ⟨.slicePoisonInfo, 31, 1⟩
def sliceWay_MODE : Fld := ⟨.sliceWay, 0, 2⟩
def sliceWay_OWNER : Fld := ⟨.sliceWay, 2, 6⟩
def sliceWay_NIDX : Fld := ⟨.sliceWay, 8, 13⟩
def sliceWay_BUSY : Fld := ⟨.sliceWay, 30, 1⟩
def sliceWay_WI : Fld := ⟨.sliceWay, 31, 1⟩
def sliceEvtLo_COUNT_LO : Fld := ⟨.sliceEvtLo, 0, 32⟩
def sliceEvtHi_COUNT_HI : Fld := ⟨.sliceEvtHi, 0, 16⟩
def sliceEvtHi_WRAP : Fld := ⟨.sliceEvtHi, 16, 1⟩
def llmCtlCtrl_ENABLE : Fld := ⟨.llmCtlCtrl, 0, 1⟩
def llmCtlCfg_SNOOP_TO : Fld := ⟨.llmCtlCfg, 0, 10⟩
def llmCtlFlags_WRITE_IGNORED : Fld := ⟨.llmCtlFlags, 0, 1⟩
def llmCtlRangeAddrLo_VALUE : Fld := ⟨.llmCtlRangeAddrLo, 0, 32⟩
def llmCtlRangeAddrHi_VALUE : Fld := ⟨.llmCtlRangeAddrHi, 0, 32⟩
def llmCtlRangeLenLo_VALUE : Fld := ⟨.llmCtlRangeLenLo, 0, 32⟩
def llmCtlRangeLenHi_VALUE : Fld := ⟨.llmCtlRangeLenHi, 0, 32⟩
def llmCtlRangeOp_FN : Fld := ⟨.llmCtlRangeOp, 0, 2⟩
def llmCtlRangeOp_SPACE : Fld := ⟨.llmCtlRangeOp, 2, 2⟩
def llmCtlRangeOp_PARTITION : Fld := ⟨.llmCtlRangeOp, 4, 6⟩
def llmCtlRangeOp_GO : Fld := ⟨.llmCtlRangeOp, 30, 1⟩
def llmCtlRangeStatus_BUSY : Fld := ⟨.llmCtlRangeStatus, 0, 1⟩
def llmCtlRangeStatus_DONE : Fld := ⟨.llmCtlRangeStatus, 1, 1⟩
def llmCtlRangeStatus_ERR : Fld := ⟨.llmCtlRangeStatus, 2, 1⟩
def llmCtlRangeStatus_CODE : Fld := ⟨.llmCtlRangeStatus, 16, 16⟩
def hbmCtlCtrl_ENABLE : Fld := ⟨.hbmCtlCtrl, 0, 1⟩
def hbmCtlCfg_SCRUB_INTERVAL : Fld := ⟨.hbmCtlCfg, 0, 10⟩
def hbmCtlCfg_FILL_SHARE : Fld := ⟨.hbmCtlCfg, 10, 4⟩
def hbmCtlCfg_CE_LIMIT : Fld := ⟨.hbmCtlCfg, 14, 10⟩
def hbmCtlCfg_RATE : Fld := ⟨.hbmCtlCfg, 24, 2⟩
def hbmCtlFlags_WRITE_IGNORED : Fld := ⟨.hbmCtlFlags, 0, 1⟩
def hbmCtlRetire_PC : Fld := ⟨.hbmCtlRetire, 0, 9⟩
def hbmCtlRetire_GO : Fld := ⟨.hbmCtlRetire, 9, 1⟩
def hbmCtlRetire_STATE : Fld := ⟨.hbmCtlRetire, 10, 2⟩
def hbmCtlRetire_REASON : Fld := ⟨.hbmCtlRetire, 12, 4⟩
def hbmCtlRetireMoved_LINES : Fld := ⟨.hbmCtlRetireMoved, 0, 25⟩
def hbmCtlRetireTotal_LINES : Fld := ⟨.hbmCtlRetireTotal, 0, 25⟩
def hbmCtlStatus_RETIRED : Fld := ⟨.hbmCtlStatus, 0, 10⟩
def hbmCtlRetired_MAP : Fld := ⟨.hbmCtlRetired, 0, 32⟩
def stackCtrl_ENABLE : Fld := ⟨.stackCtrl, 0, 1⟩
def stackFlags_WRITE_IGNORED : Fld := ⟨.stackFlags, 0, 1⟩
def stackStatus_TRAINED : Fld := ⟨.stackStatus, 0, 1⟩
def stackStatus_SELFREF : Fld := ⟨.stackStatus, 1, 1⟩
def stackStatus_HOT : Fld := ⟨.stackStatus, 2, 1⟩
def stackStatus_THROTTLE : Fld := ⟨.stackStatus, 3, 1⟩
def stackStatus_TRIPPED : Fld := ⟨.stackStatus, 4, 1⟩
def stackStatus_TEMP : Fld := ⟨.stackStatus, 8, 8⟩
def stackStatus_FAILED_CH : Fld := ⟨.stackStatus, 16, 16⟩
def stackTempCfg_HOT : Fld := ⟨.stackTempCfg, 0, 8⟩
def stackTempCfg_THROTTLE : Fld := ⟨.stackTempCfg, 8, 8⟩
def stackTempCfg_TRIP : Fld := ⟨.stackTempCfg, 16, 8⟩
def stackErrInfo_PC : Fld := ⟨.stackErrInfo, 0, 5⟩
def stackErrInfo_KIND : Fld := ⟨.stackErrInfo, 5, 2⟩
def stackErrInfo_SCRUB : Fld := ⟨.stackErrInfo, 7, 1⟩
def stackErrInfo_MORE : Fld := ⟨.stackErrInfo, 30, 1⟩
def stackErrInfo_VALID : Fld := ⟨.stackErrInfo, 31, 1⟩
def stackErrLine_LINE : Fld := ⟨.stackErrLine, 0, 24⟩
def stackPcStatus_RETIRED : Fld := ⟨.stackPcStatus, 0, 1⟩
def stackPcStatus_ADVISE : Fld := ⟨.stackPcStatus, 1, 1⟩
def stackPcStatus_PPR_LEFT : Fld := ⟨.stackPcStatus, 2, 4⟩
def stackPcStatus_PPR_PENDING : Fld := ⟨.stackPcStatus, 6, 1⟩
def stackEvtLo_COUNT_LO : Fld := ⟨.stackEvtLo, 0, 32⟩
def stackEvtHi_COUNT_HI : Fld := ⟨.stackEvtHi, 0, 16⟩
def stackEvtHi_WRAP : Fld := ⟨.stackEvtHi, 16, 1⟩
def bxfCtlCtrl_ENABLE : Fld := ⟨.bxfCtlCtrl, 0, 1⟩
def bxfCtlCfg_NODE : Fld := ⟨.bxfCtlCfg, 0, 16⟩
def bxfCtlCfg_NODE_VALID : Fld := ⟨.bxfCtlCfg, 16, 1⟩
def bxfCtlCfg_HOP_LIMIT : Fld := ⟨.bxfCtlCfg, 17, 5⟩
def bxfCtlTimeout_RESP_TO : Fld := ⟨.bxfCtlTimeout, 0, 16⟩
def bxfCtlTimeout_STALL_TO : Fld := ⟨.bxfCtlTimeout, 16, 12⟩
def bxfCtlFlags_WRITE_IGNORED : Fld := ⟨.bxfCtlFlags, 0, 1⟩
def bxfCtlFlags_PKEY_DUP : Fld := ⟨.bxfCtlFlags, 1, 1⟩
def bxfCtlFlags_SPAN_BAD : Fld := ⟨.bxfCtlFlags, 2, 1⟩
def bxfCtlFlags_DIGEST_DROP : Fld := ⟨.bxfCtlFlags, 3, 1⟩
def bxfCtlBeatCfg_MISS_LIMIT : Fld := ⟨.bxfCtlBeatCfg, 0, 4⟩
def bxfCtlBeatCfg_MARK_HOPS_MAX : Fld := ⟨.bxfCtlBeatCfg, 4, 6⟩
def bxfCtlBeatCfg_RECLAIM : Fld := ⟨.bxfCtlBeatCfg, 10, 1⟩
def bxfCtlBeatStatus_STATE : Fld := ⟨.bxfCtlBeatStatus, 0, 3⟩
def bxfCtlBeatStatus_PARENT : Fld := ⟨.bxfCtlBeatStatus, 3, 4⟩
def bxfCtlBeatStatus_RANK : Fld := ⟨.bxfCtlBeatStatus, 7, 3⟩
def bxfCtlBeatStatus_LENMISMATCH : Fld := ⟨.bxfCtlBeatStatus, 10, 1⟩
def bxfCtlBeatStatus_MASTER : Fld := ⟨.bxfCtlBeatStatus, 12, 16⟩
def bxfCtlBeatEpoch_MEPOCH : Fld := ⟨.bxfCtlBeatEpoch, 0, 32⟩
def bxfCtlBeatOffset_OFFSET : Fld := ⟨.bxfCtlBeatOffset, 0, 16⟩
def bxfCtlBeatOffset_MHOPS : Fld := ⟨.bxfCtlBeatOffset, 16, 8⟩
def bxfCtlBmaster_NODE : Fld := ⟨.bxfCtlBmaster, 0, 16⟩
def bxfCtlBmaster_VALID : Fld := ⟨.bxfCtlBmaster, 16, 1⟩
def bxfCtlRouteSel_DNODE : Fld := ⟨.bxfCtlRouteSel, 0, 16⟩
def bxfCtlRouteData_PORTS : Fld := ⟨.bxfCtlRouteData, 0, 8⟩
def bxfCtlRouteData_DIST : Fld := ⟨.bxfCtlRouteData, 8, 5⟩
def bxfCtlRouteData_MGMT : Fld := ⟨.bxfCtlRouteData, 13, 1⟩
def bxfCtlColl_NODE : Fld := ⟨.bxfCtlColl, 0, 16⟩
def bxfCtlColl_VALID : Fld := ⟨.bxfCtlColl, 16, 1⟩
def bxfCtlDigestBaseLo_ENABLE : Fld := ⟨.bxfCtlDigestBaseLo, 0, 1⟩
def bxfCtlDigestBaseLo_ADDR : Fld := ⟨.bxfCtlDigestBaseLo, 22, 10⟩
def bxfCtlDigestBaseHi_ADDR : Fld := ⟨.bxfCtlDigestBaseHi, 0, 32⟩
def bxfCtlDigest_DIGEST : Fld := ⟨.bxfCtlDigest, 0, 32⟩
def bxfCtlDigestBeat_BEAT : Fld := ⟨.bxfCtlDigestBeat, 0, 32⟩
def bxfCtlPkey_SKEY : Fld := ⟨.bxfCtlPkey, 0, 12⟩
def bxfCtlPkey_ENABLE : Fld := ⟨.bxfCtlPkey, 12, 1⟩
def bxfCtlPkey_SHARE : Fld := ⟨.bxfCtlPkey, 16, 4⟩
def bxfCtlSpanwinA_SNODE : Fld := ⟨.bxfCtlSpanwinA, 0, 16⟩
def bxfCtlSpanwinA_BASE_NODE : Fld := ⟨.bxfCtlSpanwinA, 16, 16⟩
def bxfCtlSpanwinB_LOG2M : Fld := ⟨.bxfCtlSpanwinB, 0, 4⟩
def bxfCtlSpanwinB_GSHIFT : Fld := ⟨.bxfCtlSpanwinB, 4, 5⟩
def bxfCtlSpanwinB_VALID : Fld := ⟨.bxfCtlSpanwinB, 31, 1⟩
def bxfCtlEvtLo_COUNT_LO : Fld := ⟨.bxfCtlEvtLo, 0, 32⟩
def bxfCtlEvtHi_COUNT_HI : Fld := ⟨.bxfCtlEvtHi, 0, 16⟩
def bxfCtlEvtHi_WRAP : Fld := ⟨.bxfCtlEvtHi, 16, 1⟩
def portCtrl_ENABLE : Fld := ⟨.portCtrl, 0, 1⟩
def portCtrl_RETRAIN : Fld := ⟨.portCtrl, 1, 1⟩
def portCfg_EXPECT_PEER : Fld := ⟨.portCfg, 0, 16⟩
def portCfg_EXPECT_VALID : Fld := ⟨.portCfg, 16, 1⟩
def portCfg_TRANSIT : Fld := ⟨.portCfg, 17, 1⟩
def portCfg_MARKS : Fld := ⟨.portCfg, 18, 1⟩
def portFlags_WRITE_IGNORED : Fld := ⟨.portFlags, 0, 1⟩
def portFlags_MISWIRED : Fld := ⟨.portFlags, 1, 1⟩
def portFlags_LANE_LOST : Fld := ⟨.portFlags, 2, 1⟩
def portFlags_DOWN : Fld := ⟨.portFlags, 3, 1⟩
def portStatus_STATE : Fld := ⟨.portStatus, 0, 3⟩
def portStatus_WIDTH : Fld := ⟨.portStatus, 3, 2⟩
def portStatus_PEER : Fld := ⟨.portStatus, 8, 16⟩
def portStatus_PEER_VALID : Fld := ⟨.portStatus, 24, 1⟩
def portLanes_FAILED : Fld := ⟨.portLanes, 0, 16⟩
def portLanes_SPA : Fld := ⟨.portLanes, 16, 5⟩
def portLanes_SPB : Fld := ⟨.portLanes, 21, 5⟩
def portDelay_DELAY : Fld := ⟨.portDelay, 0, 16⟩
def portVc0Wait_MAX : Fld := ⟨.portVc0Wait, 0, 16⟩
def portVc0Wait_CLEAR : Fld := ⟨.portVc0Wait, 31, 1⟩
def portEvtLo_COUNT_LO : Fld := ⟨.portEvtLo, 0, 32⟩
def portEvtHi_COUNT_HI : Fld := ⟨.portEvtHi, 0, 16⟩
def portEvtHi_WRAP : Fld := ⟨.portEvtHi, 16, 1⟩
def barCfg_PARENT : Fld := ⟨.barCfg, 0, 16⟩
def barCfg_ROOT : Fld := ⟨.barCfg, 16, 1⟩
def barCfg_CHILDREN : Fld := ⟨.barCfg, 17, 4⟩
def barCfg_LOCAL : Fld := ⟨.barCfg, 21, 10⟩
def barCfg_ENABLE : Fld := ⟨.barCfg, 31, 1⟩
def barOwner_PARTITION : Fld := ⟨.barOwner, 0, 6⟩
def barRwordLo_ADDR : Fld := ⟨.barRwordLo, 0, 32⟩
def barRwordHi_ADDR : Fld := ⟨.barRwordHi, 0, 32⟩
def barArrive_ANY : Fld := ⟨.barArrive, 0, 32⟩
def barStatus_LCOUNT : Fld := ⟨.barStatus, 0, 10⟩
def barStatus_CCOUNT : Fld := ⟨.barStatus, 10, 4⟩
def barStatus_UP : Fld := ⟨.barStatus, 14, 1⟩
def barStatus_ERR : Fld := ⟨.barStatus, 15, 1⟩
def barStatus_ROUND : Fld := ⟨.barStatus, 16, 16⟩
def barRoundLo_COUNT : Fld := ⟨.barRoundLo, 0, 32⟩
def barRoundHi_COUNT : Fld := ⟨.barRoundHi, 0, 32⟩
def barChild_CHILD_LO : Fld := ⟨.barChild, 0, 16⟩
def barChild_CHILD_HI : Fld := ⟨.barChild, 16, 16⟩
def bxfArrive_ANY : Fld := ⟨.bxfArrive, 0, 32⟩
def beatCtrl_ENABLE : Fld := ⟨.beatCtrl, 0, 1⟩
def beatCtrl_SOURCE : Fld := ⟨.beatCtrl, 1, 1⟩
def beatCfg_LEN : Fld := ⟨.beatCfg, 0, 17⟩
def beatFlags_WRITE_IGNORED : Fld := ⟨.beatFlags, 0, 1⟩
def beatFlags_STEPPED : Fld := ⟨.beatFlags, 1, 1⟩
def beatFlags_UNLOCKED : Fld := ⟨.beatFlags, 2, 1⟩
def beatStatus_LOCKED : Fld := ⟨.beatStatus, 0, 1⟩
def beatStatus_SLEW : Fld := ⟨.beatStatus, 8, 8⟩
def beatTbLo_TB : Fld := ⟨.beatTbLo, 0, 32⟩
def beatTbHi_TB : Fld := ⟨.beatTbHi, 0, 32⟩
def beatLatchLo_LATCH : Fld := ⟨.beatLatchLo, 0, 32⟩
def beatLatchHi_LATCH : Fld := ⟨.beatLatchHi, 0, 32⟩
def beatNumLo_NUM : Fld := ⟨.beatNumLo, 0, 32⟩
def beatNumHi_NUM : Fld := ⟨.beatNumHi, 0, 32⟩
def beatInDelay_DELAY : Fld := ⟨.beatInDelay, 0, 16⟩
def partCfg_ENABLE : Fld := ⟨.partCfg, 0, 1⟩
def partCfg_INSTANCE : Fld := ⟨.partCfg, 1, 6⟩
def partCfg_QUANTUM : Fld := ⟨.partCfg, 8, 8⟩
def partCfg_PWR_SHARE : Fld := ⟨.partCfg, 16, 8⟩
def partCmd_OP : Fld := ⟨.partCmd, 0, 2⟩
def partCmd_GO : Fld := ⟨.partCmd, 2, 1⟩
def partCmd_STATE : Fld := ⟨.partCmd, 3, 3⟩
def partCmd_REASON : Fld := ⟨.partCmd, 6, 4⟩
def partCmd_REFUSED : Fld := ⟨.partCmd, 30, 1⟩
def partCmd_WI : Fld := ⟨.partCmd, 31, 1⟩
def partCores_CORES : Fld := ⟨.partCores, 0, 32⟩
def partSeq_BASE : Fld := ⟨.partSeq, 0, 8⟩
def partSeq_COUNT : Fld := ⟨.partSeq, 8, 9⟩
def partSave_SAVE_RGN : Fld := ⟨.partSave, 0, 10⟩
def partSave_NEAR_RGN : Fld := ⟨.partSave, 10, 10⟩
def partCtxmask_RUNNING : Fld := ⟨.partCtxmask, 0, 16⟩
def partCtxmask_FAULTED : Fld := ⟨.partCtxmask, 16, 16⟩
def tunCtx_ENABLE : Fld := ⟨.tunCtx, 0, 1⟩
def tunCtx_PRIO : Fld := ⟨.tunCtx, 1, 2⟩
def tunCtx_STATE : Fld := ⟨.tunCtx, 3, 3⟩
def tunCtx_FAULT : Fld := ⟨.tunCtx, 16, 16⟩
def seqCtl_ACTIVE : Fld := ⟨.seqCtl, 0, 1⟩
def seqCtl_CONTEXT : Fld := ⟨.seqCtl, 1, 4⟩
def seqCtl_STEP : Fld := ⟨.seqCtl, 16, 16⟩
def seqPos_POS : Fld := ⟨.seqPos, 0, 32⟩
def seqLimit_LIMIT : Fld := ⟨.seqLimit, 0, 32⟩
def rgnown_OWNER : Fld := ⟨.rgnown, 0, 6⟩
def rgnown_LEND : Fld := ⟨.rgnown, 6, 1⟩
def rgnown_WI : Fld := ⟨.rgnown, 31, 1⟩
def fnWinBaseLo_ADDR : Fld := ⟨.fnWinBaseLo, 0, 32⟩
def fnWinBaseHi_ADDR : Fld := ⟨.fnWinBaseHi, 0, 32⟩
def fnErr_CODE : Fld := ⟨.fnErr, 0, 16⟩
def fnErr_WRITE : Fld := ⟨.fnErr, 16, 1⟩
def fnErr_MORE : Fld := ⟨.fnErr, 30, 1⟩
def fnErr_VALID : Fld := ⟨.fnErr, 31, 1⟩
def fnErrAddrLo_OFS : Fld := ⟨.fnErrAddrLo, 0, 32⟩
def fnErrAddrHi_OFS : Fld := ⟨.fnErrAddrHi, 0, 32⟩
def pciCtlCtrl_IDE_REQUIRE : Fld := ⟨.pciCtlCtrl, 0, 1⟩
def pciCtlMsixPf_COUNT : Fld := ⟨.pciCtlMsixPf, 0, 12⟩
def pciCtlFlags_WRITE_IGNORED : Fld := ⟨.pciCtlFlags, 0, 1⟩
def pciCtlMsixVf_COUNT : Fld := ⟨.pciCtlMsixVf, 0, 12⟩
def ringCtrl_ENABLE : Fld := ⟨.ringCtrl, 0, 1⟩
def ringCtrl_ESPACE : Fld := ⟨.ringCtrl, 1, 1⟩
def ringCtrl_CSPACE : Fld := ⟨.ringCtrl, 2, 1⟩
def ringCtrl_LOG2N : Fld := ⟨.ringCtrl, 3, 5⟩
def ringCtrl_VECTOR : Fld := ⟨.ringCtrl, 8, 11⟩
def ringCtrl_STALL : Fld := ⟨.ringCtrl, 19, 5⟩
def ringStatus_STATE : Fld := ⟨.ringStatus, 0, 2⟩
def ringStatus_WI : Fld := ⟨.ringStatus, 31, 1⟩
def ringBaseLo_ADDR : Fld := ⟨.ringBaseLo, 0, 32⟩
def ringBaseHi_ADDR : Fld := ⟨.ringBaseHi, 0, 32⟩
def ringTailLo_ADDR : Fld := ⟨.ringTailLo, 0, 32⟩
def ringTailHi_ADDR : Fld := ⟨.ringTailHi, 0, 32⟩
def ringCplLo_ADDR : Fld := ⟨.ringCplLo, 0, 32⟩
def ringCplHi_ADDR : Fld := ⟨.ringCplHi, 0, 32⟩
def ringHeadLo_HEAD : Fld := ⟨.ringHeadLo, 0, 32⟩
def ringHeadHi_HEAD : Fld := ⟨.ringHeadHi, 0, 32⟩
def xlatRootLo_ADDR : Fld := ⟨.xlatRootLo, 17, 15⟩
def xlatRootHi_ADDR : Fld := ⟨.xlatRootHi, 0, 8⟩
def xlatCfg_ENABLE : Fld := ⟨.xlatCfg, 0, 1⟩
def xlatCfg_WI : Fld := ⟨.xlatCfg, 31, 1⟩
def xlatInv_PARTITION : Fld := ⟨.xlatInv, 0, 6⟩
def xlatInv_SCOPE : Fld := ⟨.xlatInv, 6, 1⟩
def xlatInv_INDEX : Fld := ⟨.xlatInv, 7, 14⟩
def xlatInv_GO : Fld := ⟨.xlatInv, 30, 1⟩
def xlatInvStatus_BUSY : Fld := ⟨.xlatInvStatus, 0, 1⟩
def xlatInvStatus_DONE : Fld := ⟨.xlatInvStatus, 1, 1⟩
def xlatInvStatus_WI : Fld := ⟨.xlatInvStatus, 31, 1⟩
def secStatus_SLOT : Fld := ⟨.secStatus, 0, 2⟩
def secStatus_IDENTITY_ON : Fld := ⟨.secStatus, 2, 1⟩
def secStatus_EXHAUSTED : Fld := ⟨.secStatus, 3, 1⟩
def secStatus_DEBUG : Fld := ⟨.secStatus, 4, 1⟩
def secStatus_OWNER : Fld := ⟨.secStatus, 5, 1⟩
def secStatus_RECORDS : Fld := ⟨.secStatus, 6, 8⟩
def secStatus_REJECTED : Fld := ⟨.secStatus, 14, 8⟩
def secCfg_SIG_GAP : Fld := ⟨.secCfg, 0, 16⟩
def secCfg_CASK_WAIT : Fld := ⟨.secCfg, 16, 16⟩
def secFlags_WRITE_IGNORED : Fld := ⟨.secFlags, 0, 1⟩
def secFlags_CASK_EVT : Fld := ⟨.secFlags, 1, 1⟩
def secFlags_REC_BAD : Fld := ⟨.secFlags, 2, 1⟩
def secFlags_IDX_LOW : Fld := ⟨.secFlags, 3, 1⟩
def secCommit_GO : Fld := ⟨.secCommit, 0, 1⟩
def secCommit_EPOCH : Fld := ⟨.secCommit, 1, 1⟩
def secCommit_BUSY : Fld := ⟨.secCommit, 2, 1⟩
def secCommit_DONE : Fld := ⟨.secCommit, 3, 1⟩
def secCommit_ERR : Fld := ⟨.secCommit, 4, 1⟩
def secIdxLo_INDEX : Fld := ⟨.secIdxLo, 0, 32⟩
def secIdxHi_INDEX : Fld := ⟨.secIdxHi, 0, 8⟩
def secCaskInfo_REGION : Fld := ⟨.secCaskInfo, 0, 10⟩
def secCaskInfo_UNMIRRORED : Fld := ⟨.secCaskInfo, 10, 1⟩
def secCaskInfo_MORE : Fld := ⟨.secCaskInfo, 30, 1⟩
def secCaskInfo_VALID : Fld := ⟨.secCaskInfo, 31, 1⟩
def secCaskOfs_OFFSET : Fld := ⟨.secCaskOfs, 0, 30⟩
def secRecCtrl_START : Fld := ⟨.secRecCtrl, 0, 1⟩
def secRecCtrl_DONE : Fld := ⟨.secRecCtrl, 1, 1⟩
def secRecCtrl_BUSY : Fld := ⟨.secRecCtrl, 2, 1⟩
def secRecCtrl_ERR : Fld := ⟨.secRecCtrl, 3, 1⟩
def secRecCtrl_TARGET : Fld := ⟨.secRecCtrl, 4, 2⟩
def secRecData_DATA : Fld := ⟨.secRecData, 0, 32⟩
def secVer_VERSION : Fld := ⟨.secVer, 0, 32⟩
def secEvtLo_COUNT_LO : Fld := ⟨.secEvtLo, 0, 32⟩
def secEvtHi_COUNT_HI : Fld := ⟨.secEvtHi, 0, 16⟩
def secEvtHi_WRAP : Fld := ⟨.secEvtHi, 16, 1⟩
def keyAddrLo_ADDR : Fld := ⟨.keyAddrLo, 0, 32⟩
def keyAddrHi_ADDR : Fld := ⟨.keyAddrHi, 0, 32⟩
def keyCmd_OP : Fld := ⟨.keyCmd, 0, 2⟩
def keyCmd_SLOT : Fld := ⟨.keyCmd, 2, 4⟩
def keyCmd_GO : Fld := ⟨.keyCmd, 6, 1⟩
def keyStatus_BUSY : Fld := ⟨.keyStatus, 0, 1⟩
def keyStatus_DONE : Fld := ⟨.keyStatus, 1, 1⟩
def keyStatus_RSLOT : Fld := ⟨.keyStatus, 2, 4⟩
def keyStatus_ERR : Fld := ⟨.keyStatus, 8, 4⟩
def keyStatus_WI : Fld := ⟨.keyStatus, 31, 1⟩
def keyHeld_SLOTS : Fld := ⟨.keyHeld, 0, 16⟩
def kegStatus_LINK : Fld := ⟨.kegStatus, 0, 1⟩
def kegStatus_SEEDED : Fld := ⟨.kegStatus, 1, 1⟩
def kegStatus_BAD : Fld := ⟨.kegStatus, 8, 8⟩
def kegCnt_VALUE : Fld := ⟨.kegCnt, 0, 32⟩
def clkCfg_GATING : Fld := ⟨.clkCfg, 0, 1⟩
def clkCfg_KUORI_CLK : Fld := ⟨.clkCfg, 1, 1⟩
def clkCfg_TRIM_SRC : Fld := ⟨.clkCfg, 2, 2⟩
def clkStatus_REFSYS_OK : Fld := ⟨.clkStatus, 0, 1⟩
def clkStatus_REFPCIE_OK : Fld := ⟨.clkStatus, 1, 1⟩
def clkStatus_IOSC_OK : Fld := ⟨.clkStatus, 2, 1⟩
def clkStatus_TRIMMING : Fld := ⟨.clkStatus, 3, 2⟩
def clkStatus_SAFE : Fld := ⟨.clkStatus, 5, 1⟩
def clkFlags_WRITE_IGNORED : Fld := ⟨.clkFlags, 0, 1⟩
def clkFlags_SRCFAIL : Fld := ⟨.clkFlags, 1, 1⟩
def clkFlags_SAFE_SEEN : Fld := ⟨.clkFlags, 2, 1⟩
def clkTrim_CODE : Fld := ⟨.clkTrim, 0, 16⟩
def clkTrim_ERR : Fld := ⟨.clkTrim, 16, 16⟩
def clkGate_EN : Fld := ⟨.clkGate, 0, 32⟩
def clkDom_REF : Fld := ⟨.clkDom, 0, 1⟩
def clkDom_PEND : Fld := ⟨.clkDom, 1, 1⟩
def clkDom_FAILED : Fld := ⟨.clkDom, 2, 1⟩
def clkDom_FREQ : Fld := ⟨.clkDom, 16, 13⟩
def clkDom_WI : Fld := ⟨.clkDom, 31, 1⟩
def clkEvtLo_COUNT_LO : Fld := ⟨.clkEvtLo, 0, 32⟩
def clkEvtHi_COUNT_HI : Fld := ⟨.clkEvtHi, 0, 16⟩
def clkEvtHi_WRAP : Fld := ⟨.clkEvtHi, 16, 1⟩
def pwrCtrl_ENABLE : Fld := ⟨.pwrCtrl, 0, 1⟩
def pwrCfg_MODE : Fld := ⟨.pwrCfg, 0, 1⟩
def pwrCfg_BOOST : Fld := ⟨.pwrCfg, 1, 1⟩
def pwrCfg_SPARGE : Fld := ⟨.pwrCfg, 2, 1⟩
def pwrCfg_SYNC_HOLD : Fld := ⟨.pwrCfg, 3, 1⟩
def pwrCfg_PRELEAD : Fld := ⟨.pwrCfg, 4, 4⟩
def pwrCfg_RISE : Fld := ⟨.pwrCfg, 8, 6⟩
def pwrCfg_FIXED_STEP : Fld := ⟨.pwrCfg, 14, 7⟩
def pwrLimit_CAP : Fld := ⟨.pwrLimit, 0, 13⟩
def pwrLimit_ICC_MAX : Fld := ⟨.pwrLimit, 13, 13⟩
def pwrTj_THROTTLE : Fld := ⟨.pwrTj, 0, 8⟩
def pwrFlags_WRITE_IGNORED : Fld := ⟨.pwrFlags, 0, 1⟩
def pwrFlags_SPARGE_SHORT : Fld := ⟨.pwrFlags, 1, 1⟩
def pwrFlags_MARGIN_LIMIT : Fld := ⟨.pwrFlags, 2, 1⟩
def pwrStatus_REASONS : Fld := ⟨.pwrStatus, 0, 6⟩
def pwrStatus_SPARGING : Fld := ⟨.pwrStatus, 6, 1⟩
def pwrStatus_BOOSTING : Fld := ⟨.pwrStatus, 7, 1⟩
def pwrBeat_WATTS : Fld := ⟨.pwrBeat, 0, 13⟩
def pwrBeat_AMPS : Fld := ⟨.pwrBeat, 13, 13⟩
def pwrMs_WATTS : Fld := ⟨.pwrMs, 0, 13⟩
def pwrSec_WATTS : Fld := ⟨.pwrSec, 0, 13⟩
def pwrTemp_TJ : Fld := ⟨.pwrTemp, 0, 8⟩
def pwrCl_FREQ : Fld := ⟨.pwrCl, 0, 13⟩
def pwrCl_DUTY : Fld := ⟨.pwrCl, 13, 7⟩
def pwrCl_MARGIN : Fld := ⟨.pwrCl, 20, 8⟩
def pwrCl_BALLAST : Fld := ⟨.pwrCl, 28, 1⟩
def pwrEvtLo_COUNT_LO : Fld := ⟨.pwrEvtLo, 0, 32⟩
def pwrEvtHi_COUNT_HI : Fld := ⟨.pwrEvtHi, 0, 16⟩
def pwrEvtHi_WRAP : Fld := ⟨.pwrEvtHi, 16, 1⟩
def tenMean_POWER : Fld := ⟨.tenMean, 0, 10⟩
def tenMean_TEMP : Fld := ⟨.tenMean, 10, 8⟩
def tenThr_BEATS : Fld := ⟨.tenThr, 0, 20⟩
def rasCtrl_ENABLE : Fld := ⟨.rasCtrl, 0, 1⟩
def rasCfg_COPY_TO : Fld := ⟨.rasCfg, 0, 8⟩
def rasCfg_WAY_CE_LIMIT : Fld := ⟨.rasCfg, 8, 10⟩
def rasCfg_SR_FAULTN : Fld := ⟨.rasCfg, 18, 1⟩
def rasFlags_WRITE_IGNORED : Fld := ⟨.rasFlags, 0, 1⟩
def rasFlags_CONTEND : Fld := ⟨.rasFlags, 1, 1⟩
def rasContendInfo_RESOURCE : Fld := ⟨.rasContendInfo, 0, 4⟩
def rasContendInfo_CLAIMANT : Fld := ⟨.rasContendInfo, 4, 4⟩
def rasSvcCause_CORE : Fld := ⟨.rasSvcCause, 0, 1⟩
def rasSvcCause_CELLAR : Fld := ⟨.rasSvcCause, 1, 1⟩
def rasSvcCause_WAY : Fld := ⟨.rasSvcCause, 2, 1⟩
def rasSvcCause_HBM : Fld := ⟨.rasSvcCause, 3, 1⟩
def rasSvcCause_D2D : Fld := ⟨.rasSvcCause, 4, 1⟩
def rasSvcCause_ISOLATED : Fld := ⟨.rasSvcCause, 5, 1⟩
def rasSvcCause_FABRIC : Fld := ⟨.rasSvcCause, 6, 1⟩
def rasSvcCause_MARGIN : Fld := ⟨.rasSvcCause, 7, 1⟩
def rasSvcCause_KEG : Fld := ⟨.rasSvcCause, 8, 1⟩
def rasSvcCause_SAFE : Fld := ⟨.rasSvcCause, 9, 1⟩
def rasSvcMask_MASK : Fld := ⟨.rasSvcMask, 0, 10⟩
def rasSvcStatus_SR : Fld := ⟨.rasSvcStatus, 0, 1⟩
def rasSvcStatus_DEGRADED : Fld := ⟨.rasSvcStatus, 1, 1⟩
def rasFence_CORE : Fld := ⟨.rasFence, 0, 9⟩
def rasFence_OP : Fld := ⟨.rasFence, 9, 1⟩
def rasFence_GO : Fld := ⟨.rasFence, 10, 1⟩
def rasFence_ERR : Fld := ⟨.rasFence, 11, 1⟩
def rasFence_REASON : Fld := ⟨.rasFence, 12, 2⟩
def rasCellar_KIND : Fld := ⟨.rasCellar, 0, 1⟩
def rasCellar_TARGET : Fld := ⟨.rasCellar, 1, 9⟩
def rasCellar_WAY : Fld := ⟨.rasCellar, 10, 4⟩
def rasCellar_GO : Fld := ⟨.rasCellar, 14, 1⟩
def rasCellar_BUSY : Fld := ⟨.rasCellar, 15, 1⟩
def rasCellar_DONE : Fld := ⟨.rasCellar, 16, 1⟩
def rasCellar_ERR : Fld := ⟨.rasCellar, 17, 1⟩
def rasCellar_REASON : Fld := ⟨.rasCellar, 18, 3⟩
def rasCellarWays_COUNT : Fld := ⟨.rasCellarWays, 0, 10⟩
def rasCellarWays_CORES : Fld := ⟨.rasCellarWays, 10, 6⟩
def rasIftCmd_KIND : Fld := ⟨.rasIftCmd, 0, 1⟩
def rasIftCmd_TARGET : Fld := ⟨.rasIftCmd, 1, 9⟩
def rasIftCmd_WAY : Fld := ⟨.rasIftCmd, 10, 4⟩
def rasIftCmd_GO : Fld := ⟨.rasIftCmd, 14, 1⟩
def rasIftStatus_STATE : Fld := ⟨.rasIftStatus, 0, 2⟩
def rasIftStatus_ERR : Fld := ⟨.rasIftStatus, 2, 1⟩
def rasIftStatus_REASON : Fld := ⟨.rasIftStatus, 3, 2⟩
def rasFenced_MAP : Fld := ⟨.rasFenced, 0, 32⟩
def rasWayAdvise_MAP : Fld := ⟨.rasWayAdvise, 0, 32⟩
def rasDirSel_SLICE : Fld := ⟨.rasDirSel, 0, 9⟩
def rasDirSel_SET : Fld := ⟨.rasDirSel, 9, 8⟩
def rasDirSel_WAY : Fld := ⟨.rasDirSel, 17, 4⟩
def rasDirSel_GO : Fld := ⟨.rasDirSel, 31, 1⟩
def rasDirData_BITS : Fld := ⟨.rasDirData, 0, 32⟩
def rasFlogStatus_LOST : Fld := ⟨.rasFlogStatus, 0, 16⟩
def rasFlogStatus_NEXT : Fld := ⟨.rasFlogStatus, 16, 6⟩
def rasFlog_ENTRY : Fld := ⟨.rasFlog, 0, 32⟩
def rasEvtLo_COUNT_LO : Fld := ⟨.rasEvtLo, 0, 32⟩
def rasEvtHi_COUNT_HI : Fld := ⟨.rasEvtHi, 0, 16⟩
def rasEvtHi_WRAP : Fld := ⟨.rasEvtHi, 16, 1⟩
def d2dStatus_STATE : Fld := ⟨.d2dStatus, 0, 3⟩
def d2dStatus_WIDTH : Fld := ⟨.d2dStatus, 3, 2⟩
def d2dStatus_SPARES_USED : Fld := ⟨.d2dStatus, 5, 6⟩
def d2dStatus_CAP_TUN : Fld := ⟨.d2dStatus, 11, 2⟩
def d2dStatus_CAP_DIE : Fld := ⟨.d2dStatus, 13, 2⟩
def d2dCtrl_RETRAIN : Fld := ⟨.d2dCtrl, 0, 1⟩
def d2dCtrl_RESET : Fld := ⟨.d2dCtrl, 1, 1⟩
def d2dCtrl_SIDE : Fld := ⟨.d2dCtrl, 2, 1⟩
def d2dEvtLo_COUNT_LO : Fld := ⟨.d2dEvtLo, 0, 32⟩
def d2dEvtHi_COUNT_HI : Fld := ⟨.d2dEvtHi, 0, 16⟩
def d2dEvtHi_WRAP : Fld := ⟨.d2dEvtHi, 16, 1⟩
def aonPend_PEND : Fld := ⟨.aonPend, 0, 1⟩
def aonEvent_MAIN_LOST : Fld := ⟨.aonEvent, 0, 1⟩
def aonScratch_VALUE : Fld := ⟨.aonScratch, 0, 32⟩
def cdStatus_DIE : Fld := ⟨.cdStatus, 0, 3⟩
def cdStatus_ROTATION : Fld := ⟨.cdStatus, 3, 2⟩
def cdStatus_MIRROR : Fld := ⟨.cdStatus, 5, 1⟩
def cdStatus_IORING_OK : Fld := ⟨.cdStatus, 6, 1⟩
def cdStatus_ISOLATED : Fld := ⟨.cdStatus, 7, 1⟩
def clStatus_PASSED : Fld := ⟨.clStatus, 0, 9⟩
def clStatus_ACTIVE : Fld := ⟨.clStatus, 9, 9⟩
def clStatus_SPARE : Fld := ⟨.clStatus, 18, 4⟩
def clStatus_SPARE_STATE : Fld := ⟨.clStatus, 22, 2⟩
def clFmax_FMAX : Fld := ⟨.clFmax, 0, 13⟩

end F

/-- A 64-bit value held in a pair of registers. -/
def State.pair (s : State) (lo hi : Reg) (i : Nat) : W64 := (s.rget hi i) ++ (s.rget lo i)

/-- The state with a pair set. -/
def State.setPair (s : State) (lo hi : Reg) (i : Nat) (v : W64) : State :=
  (s.rset lo i (v.truncate 32)).rset hi i ((v >>> 32).truncate 32)

/-- The high word of an event counter whose count is `c`: bits 47 to 32, and the sticky bit after a
wrap (00 R20, 04 R150). -/
def carryHi (h : W32) (c : Nat) : W32 :=
  let h1 := withBits h 0 16 (c / 2 ^ 32)
  if 2 ^ 48 ≤ c then withBits h1 16 1 1 else h1

/-- An event counter advanced by `k`. -/
def State.bump (s : State) (lo hi : Reg) (i k : Nat) : State :=
  let c := (s.rget lo i).toNat + bitsOf (s.rget hi i) 0 16 * 2 ^ 32 + k
  (s.rset lo i (BitVec.ofNat 32 c)).rset hi i (carryHi (s.rget hi i) c)

end Sys2Proof.Machine
end

