-- ==== Sys2Proof/Machine/Tile.lean ====
section
/-!
DEFINITION. Tiles (03 R77 to R92), MX blocks (02 R47 to R52, R67), tile conversion (06 R218, R226),
matrix chunks (02 R62 to R64, R70; 06 R211 to R214) and reductions (06 R230), as functions of the
bytes.
-/
namespace Sys2Proof.Machine

/-! ### Bytes -/

/-- The little-endian number of a byte list (00 R7). -/
def leNat : List Byte → Nat
  | [] => 0
  | b :: bs => b.toNat + 256 * leNat bs

/-- The `n` little-endian bytes of a number (00 R7). -/
def leBytes : Nat → Nat → List Byte
  | 0, _ => []
  | n + 1, x => BitVec.ofNat 8 x :: leBytes n (x / 256)

/-- A list cut into pieces of `k`, with `fuel` pieces at most. -/
def chunksOf {α : Type} (k : Nat) : Nat → List α → List (List α)
  | 0, _ => []
  | fuel + 1, l =>
    match l with
    | [] => []
    | _ => l.take k :: chunksOf k fuel (l.drop k)

/-! ### Formats (03 R77) -/

/-- The element format of a FORMAT code (03 R77). -/
def tileElem (tf : Nat) : Option Fmt :=
  match tf with
  | 1 => some .f32
  | 2 => some .bf16
  | 3 => some .f16
  | 4 => some .f64
  | 5 => some .e4m3
  | 6 => some .e5m2
  | 7 => some .e3m2
  | 8 => some .e2m3
  | 9 => some .e2m1
  | _ => none

/-- Formats with a scale lane (03 R77, R81). -/
def tileIsMx (tf : Nat) : Bool := 5 ≤ tf && tf ≤ 9

/-- FORMAT codes of a tile (03 R77, R90). -/
def tileKnown (tf : Nat) : Bool := (1 ≤ tf && tf ≤ 9) || tf == 15

def tileRows (tf : Nat) : Nat := if tf == 4 then 16 else 32

/-- Columns (03 R77); bytes of a row in RAW tiles. -/
def tileCols (tf : Nat) : Nat :=
  match tf with
  | 1 | 4 => 32
  | 2 | 3 => 64
  | 5 | 6 | 15 => 128
  | 7 | 8 | 9 => 256
  | _ => 0

def tileRowBytes (tf : Nat) : Nat :=
  match tf with
  | 4 => 256
  | 7 | 8 => 192
  | _ => 128

/-- Payload bytes (03 R77). -/
def tilePayload (tf : Nat) : Nat := if tf == 7 || tf == 8 then 6144 else 4096

/-- Blocks in a row of an MX tile (02 R49). -/
def tileBlocks (tf : Nat) : Nat := tileCols tf / 32

/-! ### Headers (03 R88, R90) -/

def hdrBusy (w : W64) : Bool := w.getLsbD 0
def hdrPoison (w : W64) : Bool := w.getLsbD 1
def hdrRole (w : W64) : Nat := (w.extractLsb' 2 2).toNat
def hdrFormat (w : W64) : Nat := (w.extractLsb' 4 4).toNat
def hdrVrows (w : W64) : Nat := (w.extractLsb' 8 5).toNat
def hdrVcols (w : W64) : Nat := (w.extractLsb' 16 8).toNat
def hdrGen (w : W64) : Nat := (w.extractLsb' 32 16).toNat

/-- Word 0 from its fields (03 R88). -/
def mkHeader (busy : Bool) (role format vrows vcols gen wid wclass : Nat) : W64 :=
  BitVec.ofNat 64
    ((if busy then 1 else 0) + role % 4 * 2 ^ 2 + format % 16 * 2 ^ 4 + vrows % 32 * 2 ^ 8 +
      vcols % 256 * 2 ^ 16 + gen % 65536 * 2 ^ 32 + wid % 8192 * 2 ^ 48 + wclass % 8 * 2 ^ 61)

/-- Word 0 as the checksum covers it, BUSY and POISON zero (03 R92). -/
def hdrCovered (w : W64) : W64 := w &&& ~~~(3 : W64)

/-- Valid for use (03 R90). -/
def hdrValid (w : W64) : Bool :=
  let f := hdrFormat w
  tileKnown f && (hdrRole w == 0 || (f == 1 && (hdrRole w == 1 || hdrRole w == 2))) &&
    decide (hdrVrows w + 1 ≤ tileRows f) && decide (hdrVcols w + 1 ≤ tileCols f) &&
    w.extractLsb' 13 3 == 0 && w.extractLsb' 24 8 == 0

/-- A tile as read or written: word 0, payload, scale lane (empty when the format has none). -/
structure TileImage where
  word0 : W64
  payload : List Byte
  scale : List Byte
  deriving DecidableEq, Repr

/-! ### The checksum (03 R92) -/

/-- One bit of the CRC. -/
def crcBit (c : Nat) : Nat := if c % 2 == 1 then (c / 2) ^^^ 0xC96C5795D7870F42 else c / 2

/-- One byte of the CRC. -/
def crcByte (c : Nat) (b : Byte) : Nat :=
  let c := c ^^^ b.toNat
  crcBit (crcBit (crcBit (crcBit (crcBit (crcBit (crcBit (crcBit c)))))))

/-- CRC-64/XZ over the bytes (03 R92). -/
def crc64 (bs : List Byte) : W64 :=
  BitVec.ofNat 64 (bs.foldl crcByte 0xFFFFFFFFFFFFFFFF ^^^ 0xFFFFFFFFFFFFFFFF)

/-- The tile checksum (03 R92): payload, scale lane, word 0 with BUSY and POISON zero. -/
def tileChecksum (t : TileImage) : W64 :=
  crc64 (t.payload ++ t.scale ++ leBytes 8 (hdrCovered t.word0).toNat)

/-! ### Placement (03 R83, R84, R86) -/

/-- Whether a payload at a region offset and its scale lane keep the placement rules, `limit` the
end of the payload area (03 R83, R84). -/
def placedAt (limit tf ofs sofs : Nat) : Bool :=
  ofs % 2048 == 0 && (tf == 7 || tf == 8 || ofs % 4096 == 0) &&
    decide (ofs + tilePayload tf ≤ limit) &&
    (!tileIsMx tf || (sofs % 256 == 0 && decide (sofs + 256 ≤ limit)))

/-- The end of the payload area of a region or Near window (03 R82, R85). -/
def regionPayloadEnd : Nat := 0x3FC00000

/-- The size of the Local scratchpad (03 R86). -/
def localSize : Nat := 0x400000

/-! ### Elements (02 R48, R49; 03 R78) -/

/-- The codes of one row of payload bytes (03 R78, 02 R48). -/
def rowCodes (tf : Nat) (row : List Byte) : List Nat :=
  match tf with
  | 1 => (chunksOf 4 row.length row).map leNat
  | 2 | 3 => (chunksOf 2 row.length row).map leNat
  | 4 => (chunksOf 8 row.length row).map leNat
  | 7 | 8 => (chunksOf 3 row.length row).flatMap fun g =>
      let w := leNat g
      [w % 64, w / 64 % 64, w / 4096 % 64, w / 262144 % 64]
  | 9 => row.flatMap fun b => [b.toNat % 16, b.toNat / 16]
  | _ => row.map BitVec.toNat

/-- The payload bytes of one row of codes. -/
def rowBytesOf (tf : Nat) (codes : List Nat) : List Byte :=
  match tf with
  | 1 => codes.flatMap (leBytes 4)
  | 2 | 3 => codes.flatMap (leBytes 2)
  | 4 => codes.flatMap (leBytes 8)
  | 7 | 8 => (chunksOf 4 codes.length codes).flatMap fun g =>
      leBytes 3 (g.foldr (fun c acc => c % 64 + 64 * acc) 0)
  | 9 => (chunksOf 2 codes.length codes).map fun g =>
      BitVec.ofNat 8 (g.foldr (fun c acc => c % 16 + 16 * acc) 0)
  | _ => codes.map (BitVec.ofNat 8)

/-- The codes of a payload, row by row. -/
def tileCodes (tf : Nat) (payload : List Byte) : List (List Nat) :=
  (chunksOf (tileRowBytes tf) (tileRows tf) payload).map (rowCodes tf)

/-- The value of an MX element (02 R47). -/
def mxValue (f : Fmt) (scale code : Nat) : FVal :=
  if scale == 255 then .nan false
  else match f.decode code with
    | .fin n m e => .fin n m (e + scale - 127)
    | v => v

/-- The values of a row; an MX element takes its block's scale (02 R47, R49). -/
def rowVals (tf : Nat) (f : Fmt) (scales : List Byte) (row : Nat) (codes : List Nat) : List FVal :=
  if tileIsMx tf then
    (chunksOf 32 (tileBlocks tf) codes).mapIdx (fun b blk =>
      let s := (scales.getD (row * tileBlocks tf + b) 0).toNat
      blk.map (mxValue f s)) |>.flatten
  else codes.map f.decode

/-- The values of a tile, none outside the valid extent (03 R80). -/
def tileVals (t : TileImage) : List (List (Option FVal)) :=
  let tf := hdrFormat t.word0
  match tileElem tf with
  | none => []
  | some f =>
    (tileCodes tf t.payload).mapIdx fun r codes =>
      (rowVals tf f t.scale r codes).mapIdx fun c v =>
        if r ≤ hdrVrows t.word0 && c ≤ hdrVcols t.word0 then some v else none

/-! ### Quantising and converting (02 R66, R67; 03 R80) -/

/-- Codes made with the flags they set and the generator after their draws. -/
structure Made where
  codes : List Nat
  flags : FFlags
  gen : Gen
  deriving DecidableEq, Repr

/-- Encodes positions in order, one draw per position inside the extent under SR (02 R58); a
position outside is code zero and draws nothing (03 R80). The flags of an element are those of R60, in a
block too (DEDUCED, log entry 12). -/
def encodeAll (f : Fmt) (rm : Rm) (sat : Bool) : List (Option FVal) → Gen → Made
  | [], g => ⟨[], 0, g⟩
  | none :: vs, g =>
    let rest := encodeAll f rm sat vs g
    ⟨0 :: rest.codes, rest.flags, rest.gen⟩
  | some v :: vs, g =>
    let (d, g1) := g.drawIf rm
    let x := f.encode rm sat d v
    let rest := encodeAll f rm sat vs g1
    ⟨x.code :: rest.codes, x.flags ||| rest.flags, rest.gen⟩

/-- A value times 2^k. -/
def FVal.shift (k : Int) : FVal → FVal
  | .fin n m e => .fin n m (e + k)
  | v => v

/-- The scale code of a block (02 R67 steps 2, 3). -/
def blockScale (f : Fmt) (vs : List FVal) : Nat :=
  let fins := vs.filter (fun v => v.isFin && !v.isZero)
  match fins with
  | [] => 0x7F
  | v :: rest =>
    let top := rest.foldl (fun m w => max m w.top) v.top
    let code := top - f.emax + 127
    if code < 0 then 0 else if 0xFE < code then 0xFE else code.toNat

/-- `n` draws taken and not used, under SR only. -/
def Gen.skip (rm : Rm) : Nat → Gen → Gen
  | 0, g => g
  | n + 1, g => Gen.skip rm n (g.drawIf rm).2

/-- One MX block (02 R67): scale code and element codes. The elements of a NaN block inside the extent
still take their draws (02 R58; DEDUCED, log entry 26). -/
def quantiseBlock (f : Fmt) (rm : Rm) (sat : Bool) (vs : List (Option FVal)) (g : Gen) :
    Nat × Made :=
  let inside := vs.filterMap id
  if inside.isEmpty then (0x7F, ⟨vs.map (fun _ => 0), 0, g⟩)
  else if inside.any FVal.isNan then (0xFF, ⟨vs.map (fun _ => 0), snanFlag inside, g.skip rm inside.length⟩)
  else
    let s := blockScale f inside
    (s, encodeAll f rm sat (vs.map (Option.map (FVal.shift (127 - (s : Int))))) g)

/-- A row of blocks. -/
def quantiseRow (f : Fmt) (rm : Rm) (sat : Bool) : List (List (Option FVal)) → Gen →
    List Nat × Made
  | [], g => ([], ⟨[], 0, g⟩)
  | blk :: rest, g =>
    let (s, m) := quantiseBlock f rm sat blk g
    let (ss, m2) := quantiseRow f rm sat rest m.gen
    (s :: ss, ⟨m.codes ++ m2.codes, m.flags ||| m2.flags, m2.gen⟩)

/-- Bytes of a converted tile with the flags and the generator. -/
structure TileMade where
  payload : List Byte
  scale : List Byte
  flags : FFlags
  gen : Gen
  deriving DecidableEq, Repr

/-- Rows of values made into a payload and a scale lane of format `tf`, in row-major order. -/
def makeRows (tf : Nat) (f : Fmt) (rm : Rm) (sat : Bool) : List (List (Option FVal)) → Gen →
    TileMade
  | [], g => ⟨[], [], 0, g⟩
  | row :: rest, g =>
    if tileIsMx tf then
      let (ss, m) := quantiseRow f rm sat (chunksOf 32 (tileBlocks tf) row) g
      let t := makeRows tf f rm sat rest m.gen
      ⟨rowBytesOf tf m.codes ++ t.payload, ss.map (BitVec.ofNat 8) ++ t.scale,
        m.flags ||| t.flags, t.gen⟩
    else
      let m := encodeAll f rm sat row g
      let t := makeRows tf f rm sat rest m.gen
      ⟨rowBytesOf tf m.codes ++ t.payload, t.scale, m.flags ||| t.flags, t.gen⟩

/-- A list brought to length `n` with a filler. -/
def padTo {α : Type} (n : Nat) (d : α) (l : List α) : List α :=
  (l ++ List.replicate (n - l.length) d).take n

/-- The values laid into the destination's shape and extent: a position inside the extent without a
value takes +0, a position outside takes none (02 R67, 03 R80). -/
def layRows (tf vrows vcols : Nat) (vals : List (List (Option FVal))) :
    List (List (Option FVal)) :=
  (padTo (tileRows tf) [] vals).mapIdx fun r row =>
    (padTo (tileCols tf) none row).mapIdx fun c v =>
      if r ≤ vrows && c ≤ vcols then some (v.getD (.fin false 0 0)) else none

/-- A tile's bytes made from values (02 R66, R67): MXFP8 scale bytes 128 to 255 are zero (R49). -/
def makeTile (tf vrows vcols : Nat) (rm : Rm) (sat : Bool) (vals : List (List (Option FVal)))
    (g : Gen) : TileMade :=
  match tileElem tf with
  | none => ⟨List.replicate (tilePayload tf) 0, [], 0, g⟩
  | some f =>
    let m := makeRows tf f rm sat (layRows tf vrows vcols vals) g
    if tileIsMx tf then ⟨m.payload, padTo 256 0 m.scale, m.flags, m.gen⟩ else m

/-- The payload of an unconverted write: positions outside the extent are code zero (03 R80). -/
def maskPayload (tf vrows vcols : Nat) (payload : List Byte) : List Byte :=
  (tileCodes tf payload).mapIdx (fun r codes =>
    rowBytesOf tf (codes.mapIdx fun c x => if r ≤ vrows && c ≤ vcols then x else 0)) |>.flatten

/-- The scale lane of an unconverted write: a block wholly outside the extent takes 0x7F, and bytes
past the last block are zero (03 R80, 02 R49). -/
def maskScale (tf vrows vcols : Nat) (scale : List Byte) : List Byte :=
  if tileIsMx tf then
    let n := tileBlocks tf
    (padTo 256 0 scale).mapIdx fun i b =>
      if 32 * n ≤ i then 0
      else if i / n ≤ vrows && 32 * (i % n) ≤ vcols then b else 0x7F
  else []

/-- A tile as every writer writes it: nothing outside its extent (03 R80). -/
def TileImage.trim (t : TileImage) : TileImage :=
  let tf := hdrFormat t.word0
  ⟨t.word0, maskPayload tf (hdrVrows t.word0) (hdrVcols t.word0) t.payload,
    maskScale tf (hdrVrows t.word0) (hdrVcols t.word0) t.scale⟩

/-! ### Matrix products (02 R62 to R64, R70; 06 R211 to R214) -/

/-- MMA forms (06 R211). -/
inductive MmaForm where
  | bf16 | f16 | f32 | mx | pair
  deriving DecidableEq, Repr

/-- Columns of one chunk (02 R62, 06 R214). -/
def MmaForm.chunk : MmaForm → Nat
  | .bf16 | .f16 | .mx => 32
  | .f32 | .pair => 8

/-- The truncation width (02 R62). -/
def MmaForm.width : MmaForm → Option Nat
  | .bf16 | .f16 => some 48
  | .f32 => some 64
  | .mx | .pair => none

/-- A term truncated toward zero to a multiple of 2^q (02 R62). -/
def FVal.truncTo (q : Int) : FVal → FVal
  | .fin n m e => if q ≤ e then .fin n m e else .fin n (m / 2 ^ (q - e).toNat) q
  | v => v

/-- The terms as the chunk sums them (02 R62): truncated relative to the largest. -/
def chunkTerms (w : Option Nat) (ts : List FVal) : List FVal :=
  match w with
  | none => ts
  | some w =>
    match ts.filter (fun v => v.isFin && !v.isZero) with
    | [] => ts
    | v :: rest =>
      let top := rest.foldl (fun m x => max m x.top) v.top
      ts.map (FVal.truncTo (top - w))

/-- One chunk rounding of an FP32 accumulator element (02 R60, R62 to R64): X when the delivered value differs
from the exact sum, truncation included, and U when it then is tiny; a truncated sum of zero is not tiny
(DEDUCED, log entry 129). -/
def chunkRound (w : Option Nat) (rm : Rm) (sat : Bool) (draw acc : Nat) (prods : List (FVal × FFlags)) :
    Rounded :=
  let ts := Fmt.f32.decode acc :: prods.map Prod.fst
  let fl := prods.foldl (fun f p => f ||| p.2) 0
  let cut := chunkTerms w ts
  let s := exactSum rm cut
  let r := Fmt.f32.encode rm sat draw s.1
  match s.1, (exactSum rm ts).1, Fmt.f32.decode r.code with
  | .fin n m e, .fin n' m' e', .fin nd md ed =>
    if (r.flags &&& flO) != 0 then ⟨r.code, r.flags ||| s.2 ||| fl⟩
    else
      let lost := !((exactSum .rne [.fin nd md ed, .fin (!n') m' e']).1).isZero
      ⟨r.code, s.2 ||| fl ||| (if lost then flX else 0) |||
        (if lost && Fmt.f32.tinyAt rm draw n m e then flU else 0)⟩
  | _, _, _ => ⟨r.code, r.flags ||| s.2 ||| fl⟩

/-- A pair operand element (hi, lo) as codes. -/
abbrev PairCode := Nat × Nat

/-- One chunk rounding of a pair accumulator element (02 R62, R69, R70). -/
def chunkRoundPair (sat : Bool) (acc : PairCode) (terms : List (PairCode × PairCode)) : Rounded2 :=
  let d := Fmt.f32.decode
  let comps := [d acc.1, d acc.2] ++
    terms.flatMap (fun t => [d t.1.1, d t.1.2, d t.2.1, d t.2.2])
  if allFin comps then
    let ps := terms.flatMap fun t => pairProducts false (d t.1.1) (d t.1.2) (d t.2.1) (d t.2.2)
    let his := terms.map fun t => (exactMul (d t.1.1) (d t.2.1)).1
    pairRound sat (pairSum (d acc.1 :: his) (d acc.1 :: d acc.2 :: ps))
  else
    let c := pairVal .rne acc.1 acc.2
    let ps := terms.map fun t =>
      let x := pairVal .rne t.1.1 t.1.2
      let y := pairVal .rne t.2.1 t.2.2
      let p := exactMul x.1 y.1
      (p.1, p.2 ||| x.2 ||| y.2)
    let r := exactSum .rne (c.1 :: ps.map Prod.fst)
    pairRound sat (r.1, ps.foldl (fun f p => f ||| p.2) (r.2 ||| c.2))

/-- An operand element: absent, one value, or a pair. -/
inductive MatElem where
  | absent
  | one (v : FVal)
  | two (p : PairCode)
  deriving DecidableEq, Repr

/-- One accumulator element through one chunk (06 R214): no present term, no change and no draw. -/
def mmaElem (form : MmaForm) (rm : Rm) (sat : Bool) (acc : PairCode) (as bs : List MatElem)
    (g : Gen) : PairCode × FFlags × Gen :=
  match form with
  | .pair =>
    let ts := (as.zip bs).filterMap fun
      | (.two a, .two b) => some (a, b)
      | _ => none
    if ts.isEmpty then (acc, 0, g)
    else
      let r := chunkRoundPair sat acc ts
      ((r.fst, r.snd), r.flags, g)
  | form =>
    let ts := (as.zip bs).filterMap fun
      | (.one a, .one b) => some (exactMul a b)
      | _ => none
    if ts.isEmpty then (acc, 0, g)
    else
      let (dr, g1) := g.drawIf rm
      let r := chunkRound form.width rm sat dr acc.1 ts
      ((r.code, acc.2), r.flags, g1)

/-- One accumulator row through one chunk: the columns j in order. -/
def mmaRow (form : MmaForm) (rm : Rm) (sat : Bool) (jn : Nat) (as : List MatElem) :
    List PairCode → List (List MatElem) → Gen → List PairCode × FFlags × Gen
  | [], _, g => ([], 0, g)
  | acc :: accs, bs, g =>
    match jn, bs with
    | 0, _ => (acc :: accs, 0, g)
    | _, [] => (acc :: accs, 0, g)
    | jn + 1, b :: bs =>
      let (x, f1, g1) := mmaElem form rm sat acc as b g
      let (xs, f2, g2) := mmaRow form rm sat jn as accs bs g1
      (x :: xs, f1 ||| f2, g2)

/-- Every accumulator row through one chunk: the rows i in order, below the written rows. -/
def mmaRows (form : MmaForm) (rm : Rm) (sat : Bool) (jn : Nat) (bs : List (List MatElem)) :
    Nat → List (List PairCode) → List (List MatElem) → Gen →
    List (List PairCode) × FFlags × Gen
  | 0, accs, _, g => (accs, 0, g)
  | _, [], _, g => ([], 0, g)
  | _, accs, [], g => (accs, 0, g)
  | i + 1, acc :: accs, a :: as, g =>
    let (x, f1, g1) := mmaRow form rm sat jn a acc bs g
    let (xs, f2, g2) := mmaRows form rm sat jn bs i accs as g1
    (x :: xs, f1 ||| f2, g2)

/-- The chunks of one pair of tiles in ascending order (06 R214). -/
def mmaChunks (form : MmaForm) (rm : Rm) (sat : Bool) (rn jn : Nat) :
    Nat → List (List PairCode) → List (List MatElem) → List (List MatElem) → Gen →
    List (List PairCode) × FFlags × Gen
  | 0, accs, _, _, g => (accs, 0, g)
  | n + 1, accs, as, bs, g =>
    let k := form.chunk
    let (acc1, f1, g1) :=
      mmaRows form rm sat jn (bs.map (List.take k)) rn accs (as.map (List.take k)) g
    let (acc2, f2, g2) :=
      mmaChunks form rm sat rn jn n acc1 (as.map (List.drop k)) (bs.map (List.drop k)) g1
    (acc2, f1 ||| f2, g2)

/-- The tiles of a run in ascending order (06 R214). -/
def mmaRun (form : MmaForm) (rm : Rm) (sat : Bool) (rn jn nchunks : Nat) :
    List (List (List MatElem) × List (List MatElem)) → List (List PairCode) → Gen →
    List (List PairCode) × FFlags × Gen
  | [], accs, g => (accs, 0, g)
  | (a, b) :: rest, accs, g =>
    let (acc1, f1, g1) := mmaChunks form rm sat rn jn nchunks accs a b g
    let (acc2, f2, g2) := mmaRun form rm sat rn jn nchunks rest acc1 g1
    (acc2, f1 ||| f2, g2)

/-- Operand elements of a single tile. -/
def matOne (t : TileImage) : List (List MatElem) :=
  (tileVals t).map (List.map fun | none => .absent | some v => .one v)

/-- Operand elements of a pair of FP32 tiles: present inside both extents (06 R216). -/
def matTwo (hi lo : TileImage) : List (List MatElem) :=
  let ok (t : TileImage) (r c : Nat) : Bool := r ≤ hdrVrows t.word0 && c ≤ hdrVcols t.word0
  ((tileCodes 1 hi.payload).zip (tileCodes 1 lo.payload)).mapIdx fun r rows =>
    (rows.1.zip rows.2).mapIdx fun c p =>
      if ok hi r c && ok lo r c then .two p else .absent

/-! ### Reductions (06 R230, 02 R75) -/

/-- A result under the overflow mode: SAT delivers the largest finite value for an infinity, with O and X (02
R51, R53). -/
def Fmt.satInf (f : Fmt) (sat : Bool) (r : Rounded) : Rounded :=
  match f.decode r.code with
  | .inf n => if sat then ⟨f.signBit n + f.maxCode, r.flags ||| flO ||| flX⟩ else r
  | _ => r

/-- The five operations of TRED on one element, each under OV (06 R230, 02 R44, R51, R75). -/
def reduceElem (f : Fmt) (op : Nat) (sat : Bool) (dst src : Nat) : Rounded :=
  match op with
  | 0 => f.add .rne sat 0 dst src
  | 1 => f.satInf sat (f.minmax false false dst src)
  | 2 => f.satInf sat (f.minmax true false dst src)
  | 3 => f.satInf sat (f.minmax false true dst src)
  | _ => f.satInf sat (f.minmax true true dst src)

/-- dst ← op(dst, src) on the elements inside both extents (06 R230), the elements outside the destination's
written as zero (03 R80): the new payload and flags. -/
def reduceTile (op : Nat) (sat : Bool) (dst src : TileImage) : List Byte × FFlags :=
  let tf := hdrFormat dst.word0
  match tileElem tf with
  | none => (dst.payload, 0)
  | some f =>
    let rows := ((tileCodes tf dst.payload).zip (tileCodes tf src.payload)).mapIdx fun r p =>
      (p.1.zip p.2).mapIdx fun c q =>
        if r ≤ hdrVrows dst.word0 && r ≤ hdrVrows src.word0 &&
            c ≤ hdrVcols dst.word0 && c ≤ hdrVcols src.word0 then
          reduceElem f op sat q.1 q.2
        else if r ≤ hdrVrows dst.word0 && c ≤ hdrVcols dst.word0 then ⟨q.1, 0⟩
        else ⟨0, 0⟩
    (rows.flatMap (fun row => rowBytesOf tf (row.map Rounded.code)),
      rows.foldl (fun fl row => row.foldl (fun fl x => fl ||| x.flags) fl) 0)

end Sys2Proof.Machine
end

