-- ==== Sys2Proof/Machine/Home.lean ====
section
/-!
DEFINITION. Lines, homes, ways, the directory and the L1s (07 R241 to R251, R262, R263; 08 R270 to
R297): where a line lives, what it holds, and what a read, a write or a request does to its copies.
-/
namespace Sys2Proof.Machine

/-! ### Physical cores (01 R30 to R32) -/

/-- The physical index of a physical identifier (01 R31). -/
def physIndexOf (id : Nat) : Nat := id / 64 * 36 + id / 16 % 4 * 9 + id % 16

/-- The physical identifier of a physical index. -/
def physIdOf (i : Nat) : Nat := i / 36 * 64 + i % 36 / 9 * 16 + i % 9

/-- A core as it is before boot assigns it: no group, every queue empty (02 R59, 04 R148). -/
def CoreSt.reset : CoreSt :=
  { gens := List.replicate 7 genReset, me0 := [], me1 := [], me2 := [], me3 := [], tm := [],
    arrivals := [], affinity := none, phys := none }

def State.core (s : State) (c : Nat) : CoreSt := SMap.get CoreSt.reset s.co.cores c

def State.setCore (s : State) (c : Nat) (x : CoreSt) : State :=
  { s with co := { s.co with cores := SMap.set CoreSt.reset s.co.cores c x } }

/-- Whether a logical core has a physical core (01 R33). -/
def State.corePresent (s : State) (c : Nat) : Bool := c < 256 && (s.core c).phys.isSome

/-- The physical index of a logical core; 0x1FF for none. -/
def State.physIdx (s : State) (c : Nat) : Nat :=
  match (s.core c).phys with
  | some id => physIndexOf id
  | none => 0x1FF

/-- The logical core of a physical index. -/
def State.logicalOf (s : State) (i : Nat) : Option Nat :=
  (s.co.cores.find? (fun e => (e.2.phys.map physIndexOf) == some i)).map Prod.fst

/-- Whether a physical core is fenced (15 R517, RAS_FENCED). -/
def State.fencedPhys (s : State) (i : Nat) : Bool :=
  i < 288 && (s.rget .rasFenced (i / 32)).getLsbD (i % 32)

/-- Whether a logical core is fenced. -/
def State.fenced (s : State) (c : Nat) : Bool := s.fencedPhys (s.physIdx c)

/-! ### Lines -/

/-- A line of this device's Global memory. -/
def gLine (ofs : Nat) : Nat := ofs / 128

/-- A line of a partition's Near space. -/
def nLine (part a : Nat) : Nat := 2 ^ 33 + part * 2 ^ 25 + a / 128

/-- A line of another node. -/
def rLine (node ofs : Nat) : Nat := 2 ^ 40 + node * 2 ^ 37 + ofs / 128

inductive LineKind where
  | global (ofs : Nat)
  | near (part a : Nat)
  | remote (node ofs : Nat)
  deriving DecidableEq, Repr

def lineKind (k : Nat) : LineKind :=
  if k < 2 ^ 33 then .global (k * 128)
  else if k < 2 ^ 40 then .near ((k - 2 ^ 33) / 2 ^ 25) ((k - 2 ^ 33) % 2 ^ 25 * 128)
  else .remote ((k - 2 ^ 40) / 2 ^ 37) ((k - 2 ^ 40) % 2 ^ 37 * 128)

/-- The region of a Global offset (07 R244). -/
def regionOf (ofs : Nat) : Nat := ofs / 2 ^ 30

/-- The offset within its region. -/
def regionOfs (ofs : Nat) : Nat := ofs % 2 ^ 30

/-! ### Where a line lives (08 R270 to R272, R278, R280) -/

/-- n of the interleave width N = 2^n (08 R271). -/
def interBits (inter : Nat) : Nat :=
  match inter with
  | 0 => 5
  | 1 => 6
  | 2 => 8
  | _ => 9

/-- The first pseudo-channel of the set (08 R271). -/
def interBase (inter place : Nat) : Nat :=
  match inter with
  | 0 => 32 * place
  | 1 => 64 * place
  | 2 => 256 * place
  | _ => 0

/-- The XOR of the n-bit chunks of a number, at most `fuel` of them. -/
def foldXor (n : Nat) : Nat → Nat → Nat
  | 0, _ => 0
  | fuel + 1, x => (x % 2 ^ n) ^^^ foldXor n fuel (x / 2 ^ n)

/-- The position of a granule's pseudo-channel in its set (08 R271). -/
def pcIndex (n : Nat) (hash : Bool) (o : Nat) : Nat :=
  let q := o / 4096 % 2 ^ 18
  let hi := q / 2 ^ n
  (q % 2 ^ n) ^^^ (if hash then foldXor n 18 hi else 0)

/-- Where a share lies while a retirement moves: its lines below the cursor at the substitute (09 R323); `c` is the
byte in the share. -/
def State.movedSpot (s : State) (share c : Nat) (old : Nat × Nat) : Nat × Nat :=
  match s.hbm.move with
  | none => old
  | some m =>
    match m.shares.find? (fun x => x.share == share) with
    | some x => if old.1 == m.pc && x.first + c / 128 < m.cursor then (x.pc, x.base) else old
    | none => old

/-- The pseudo-channel that holds a region offset, and the base of the region's share there (08 R271,
R272; 09 R322, R323); a region without an allotment counts from 0. -/
def State.spot (s : State) (r o : Nat) : Nat × Nat :=
  let inter := s.f F.llmRgnDesc_INTERLEAVE r
  let n := interBits inter
  let i := pcIndex n (s.b F.llmRgnDesc_HASH r) o
  let plain := (interBase inter (s.f F.llmRgnDesc_PLACE r) + i, 0)
  s.movedSpot (r * 512 + i) (o / 4096 % 2 ^ 18 / 2 ^ n * 4096 + o % 4096)
    (match SMap.find s.hbm.allot r with
     | some a => a.spots.getD i plain
     | none => plain)

/-- The byte in the pseudo-channel (08 R271). -/
def State.chanByte (s : State) (r o : Nat) : Nat :=
  (s.spot r o).2 + o / 4096 % 2 ^ 18 / 2 ^ interBits (s.f F.llmRgnDesc_INTERLEAVE r) * 4096 + o % 4096

/-- The ways that back a partition's Near space, with their positions (08 R278). -/
def State.scratchWays (s : State) (part : Nat) : List (Nat × Nat) :=
  let lo := Reg.sliceWay.key 0
  (s.regs.filter (fun e => lo ≤ e.1 && e.1 < lo + 8192 && bitsOf e.2 0 2 == 2 &&
    bitsOf e.2 2 6 == part)).map (fun e => (e.1 - lo, bitsOf e.2 8 13))

/-- Positions exactly 0 to m − 1, each once (08 R278). -/
def nidxOk (ws : List (Nat × Nat)) : Bool :=
  (List.range ws.length).all (fun i => ws.any (fun w => w.2 == i))

/-- The way (slice × 16 + way) and byte in the way that back a Near address (08 R278). -/
def State.nearPlace (s : State) (part a : Nat) : Option (Nat × Nat) :=
  let ws := s.scratchWays part
  let m := ws.length
  let o := a % 2 ^ 30
  let w := a / 2 ^ 30
  let header := 0x3FC00000 ≤ o
  let g := if header then (o - 0x3FC00000) / 16 else o / 4096
  let gg := 261120 * w + g
  if 4 ≤ w || m == 0 || !nidxOk ws || 261120 ≤ g || 127 * m ≤ gg then none
  else
    match ws.find? (fun x => x.2 == gg % m) with
    | none => none
    | some x =>
      let slot := gg / m
      some (x.1, if header then 4064 * 128 + 16 * slot + o % 16 else slot * 4096 + o % 4096)

/-- The places that back a Near line, with the bytes that lie at each: one for a payload line, one for each of the
eight 16-byte entries of a header line, which lie in scratch lines of their own granules (08 R278). -/
def State.nearSpans (s : State) (part a : Nat) : List (Option (Nat × Nat)) × Nat :=
  if 0x3FC00000 ≤ a % 2 ^ 30 then ((List.range 8).map (fun i => s.nearPlace part (a + 16 * i)), 16)
  else ([s.nearPlace part a], 128)

/-- The home of a line: slice and slice set (08 R270, R272, R278, R280). A proxy line's set follows its offset as a
home line's does, a Near header line's home is that of its first entry (DESIGN CHOICE, log entry 137). -/
def State.homeOf (s : State) (line : Nat) : Nat × Nat :=
  match lineKind line with
  | .global ofs =>
    let r := regionOf ofs
    let o := regionOfs ofs
    ((s.spot r o).1, s.chanByte r o / 128 % 4096)
  | .near part a =>
    match s.nearPlace part a with
    | some (w, b) => (w / 16, b / 128)
    | none => (0, 0)
  | .remote node ofs =>
    let o := ofs % 2 ^ 30
    (pcIndex 9 true o ^^^ (node % 512), o / 128 % 4096)

/-- The key of a line slot: slice, way, set. -/
def slotKey (slice way set : Nat) : Nat := (slice * 16 + way) * 4096 + set

/-! ### What a line holds -/

/-- Bytes of a scratch line as its partition reads them: zero under another tag or in draff state D (08 R277,
R283). -/
def State.scratchBytes (s : State) (part way byte n : Nat) : List Byte :=
  let t := SMap.get ⟨0, false⟩ s.mem.scratchTags (way * 4096 + byte / 128)
  if t.tag == part && !t.draffed then Memory.readN s.mem.scratch (way * 2 ^ 19 + byte) n
  else List.replicate n 0

/-- Bytes written into a scratch line: one of another partition, or in state D, is zero before; it takes the writer's
tag and leaves state D (08 R277, R283). -/
def State.writeScratch (s : State) (part way byte : Nat) (d : List Byte) : State :=
  let k := way * 4096 + byte / 128
  let t := SMap.get ⟨0, false⟩ s.mem.scratchTags k
  let m := if t.tag == part && !t.draffed then s.mem.scratch else Memory.clear s.mem.scratch (k * 128) 128
  { s with mem := { s.mem with
      scratch := Memory.writeN m (way * 2 ^ 19 + byte) d
      scratchTags := SMap.set ⟨0, false⟩ s.mem.scratchTags k ⟨part, false⟩ } }

/-- What memory holds of a line. -/
def State.memLine (s : State) (line : Nat) : List Byte :=
  match lineKind line with
  | .global ofs => Memory.readN s.mem.hbm ofs 128
  | .near part a =>
    let (ps, n) := s.nearSpans part a
    ps.flatMap (fun p => match p with
      | some (w, b) => s.scratchBytes part w b n
      | none => List.replicate n 0)
  | .remote _ _ => SMap.get (List.replicate 128 0) s.mem.remote line

/-- The cache-mode slot that holds a line of this slice, whatever its owner, its tag that of the way's
owner (08 R274). -/
def State.cacheSlot (s : State) (line : Nat) : Option Nat :=
  let (slice, set) := s.homeOf line
  ((List.range 16).find? (fun w =>
    match SMap.find s.mem.cache (slotKey slice w set) with
    | some c =>
      c.line == line && s.f F.sliceWay_MODE (slice * 16 + w) == 1 &&
        s.f F.sliceWay_OWNER (slice * 16 + w) == c.tag
    | none => false)).map (fun w => slotKey slice w set)

/-- The slot of a line. -/
def State.cacheAt (s : State) (line : Nat) : Option (Nat × CacheLine) :=
  match s.cacheSlot line with
  | none => none
  | some k => (SMap.find s.mem.cache k).map (fun c => (k, c))

/-- Whether a copy of a line is held on this device, in an L1 or a cache-mode way. -/
def State.heldHere (s : State) (line : Nat) : Bool :=
  (s.cacheAt line).isSome || (SMap.find s.mem.dir line).isSome

/-- Whether the channel of a line has failed and no copy stands in for memory (09 R310). -/
def State.chanFailed (s : State) (line : Nat) : Bool :=
  match lineKind line with
  | .global ofs =>
    let pc := (s.spot (regionOf ofs) (regionOfs ofs)).1
    s.f F.stackStatus_FAILED_CH (pc / 32) / 2 ^ (pc % 32 / 2) % 2 == 1 && !s.heldHere line
  | _ => false

/-- Whether a pseudo-channel stalls: its stack in self-refresh (09 R313, 14 R495), its channel in
retraining (09 R310), a soft repair under way (09 R318), or its stack not serving requests (09 R326). -/
def State.chanStalled (s : State) (pc : Nat) : Bool :=
  !s.b F.stackCtrl_ENABLE (pc / 32) || s.b F.stackStatus_SELFREF (pc / 32) || s.hbm.training.contains (pc / 2) || s.hbm.pprStall.any (fun x => x.1 == pc)

/-- Whether a modified copy of a line stands above memory, in an L1 or a slice. -/
def State.dirtyHere (s : State) (line : Nat) : Bool :=
  (SMap.find s.mem.l1data line).isSome || ((s.cacheAt line).bind (fun c => c.2.data)).isSome

/-- Whether a line is poisoned (08 R297), or lies on a failed channel (09 R310). The marker that scrub left in memory
under a modified copy is not met before that copy is gone (09 R315). -/
def State.poisoned (s : State) (line : Nat) : Bool :=
  (s.mem.poison.contains line && !s.dirtyHere line) || s.chanFailed line

/-- The value of a line: a modified L1 copy, else a dirty slice line, else memory. -/
def State.curLine (s : State) (line : Nat) : List Byte :=
  match SMap.find s.mem.l1data line with
  | some d => d
  | none =>
    match s.cacheAt line with
    | some (_, c) => c.data.getD (s.memLine line)
    | none => s.memLine line

/-- A line written into memory, with POISON 0 (09 R306). A scratch line takes its partition's tag and leaves state D
(08 R277, R283). -/
def State.writeMemLine (s : State) (line : Nat) (d : List Byte) : State :=
  let s := { s with mem := { s.mem with poison := s.mem.poison.filter (· != line) } }
  match lineKind line with
  | .global ofs => { s with mem := { s.mem with hbm := Memory.writeN s.mem.hbm ofs d } }
  | .near part a =>
    let (ps, n) := s.nearSpans part a
    ps.zipIdx.foldl (fun s p => match p.1 with
      | some (w, b) => s.writeScratch part w b ((d.drop (n * p.2)).take n)
      | none => s) s
  | .remote _ _ => { s with mem := { s.mem with remote := SMap.put s.mem.remote line d } }

/-- A line's data put at its home: into the slice line when there is one, which becomes dirty and recently used,
else into memory (08 R275, R287). -/
def State.putHome (s : State) (line : Nat) (d : List Byte) : State :=
  match s.cacheAt line with
  | some (k, c) =>
    { s with mem := { s.mem with cache := SMap.put s.mem.cache k { c with data := some d, used := true } } }
  | none => s.writeMemLine line d

/-! ### Poison (08 R296, R297) -/

/-- A poisoning recorded in LLM_SLICE_POISON: the record is that of the most recent one, and MORE says that another
stood before it (08 R299; log entry 138). -/
def State.recordPoison (s : State) (line cause agent : Nat) : State :=
  let (slice, set) := s.homeOf line
  let addr := match lineKind line with
    | .global ofs => s.chanByte (regionOf ofs) (regionOfs ofs) / 128
    | .near _ _ => set
    | .remote node ofs => node * 2 ^ 44 + ofs
  let s := if s.b F.slicePoisonInfo_VALID slice then s.setF F.slicePoisonInfo_MORE slice 1 else s
  (((s.setPair .slicePoisonLo .slicePoisonHi slice (BitVec.ofNat 64 addr)).setF
    F.slicePoisonInfo_CAUSE slice cause).setF F.slicePoisonInfo_AGENT slice agent).setF
    F.slicePoisonInfo_VALID slice 1

/-- The marker written into memory for a line whose word is uncorrectable: cause 1 (08 R297, 09 R308). -/
def State.poisonMem (s : State) (line cause agent : Nat) : State :=
  { s with mem := { s.mem with poison := line :: s.mem.poison.filter (· != line) } }.recordPoison line cause agent

/-- A line poisoned in the slice and in memory: its modified copies are lost (08 R296). -/
def State.poisonLine (s : State) (line cause agent : Nat) : State :=
  let s := { s with mem := { s.mem with l1data := SMap.drop s.mem.l1data line } }
  let s := match s.cacheAt line with
    | some (k, c) => { s with mem := { s.mem with cache := SMap.put s.mem.cache k { c with data := none } } }
    | none => s
  s.poisonMem line cause agent

/-- Poison cleared by a full-line write (08 R297). -/
def State.clearPoison (s : State) (line : Nat) : State :=
  { s with mem := { s.mem with poison := s.mem.poison.filter (· != line) } }

/-! ### Slice counters (08 R301) -/

/-- Work of a partition counted for its views: counter j of core c at c × 8 + j, counter n of slice k at 2048 +
k × 7 + n (04 R151, 08 R301). -/
def State.credit (s : State) (part k n : Nat) : State :=
  let i := part * 8192 + k
  { s with views := { s.views with work := SMap.put s.views.work i (SMap.get 0 s.views.work i + n) } }

/-- The partition whose line this is: the owner of its region, of its Near space, or of the way that holds it. -/
def State.linePart (s : State) (line : Nat) : Nat :=
  match lineKind line with
  | .global ofs => s.f F.rgnown_OWNER (regionOf ofs)
  | .near p _ => p
  | .remote _ _ => ((s.cacheAt line).map (fun x => x.2.tag)).getD 0

/-- Counter n of a line's slice advanced, for a partition's access where one is known, else for the line's partition
(log entry 139). -/
def State.sliceCount (s : State) (line : Nat) (part : Option Nat) (n : Nat) : State :=
  let slice := (s.homeOf line).1
  (s.bump .sliceEvtLo .sliceEvtHi (slice * 7 + n) 1).credit (part.getD (s.linePart line)) (2048 + slice * 7 + n) 1

/-- Fault 0x0220 raised by the slice of a line (08 R301); on a failed channel the slice records it with
cause 1 (09 R310). -/
def State.countPoison (s : State) (line : Nat) : State :=
  let t := s.sliceCount line none 6
  if s.chanFailed line then t.recordPoison line 1 0x1FF else t

/-- Fault 0x0220 of a run of lines: the first poisoned one counts it. -/
def State.countPoisonIn (s : State) (ls : List Nat) : State :=
  match ls.find? s.poisoned with
  | some l => s.countPoison l
  | none => s

/-! ### Cache ways (08 R274, R275) -/

/-- The eligible ways of a partition in a slice: its cache-mode ways. -/
def State.eligible (s : State) (slice part : Nat) : List Nat :=
  (List.range 16).filter (fun w =>
    s.f F.sliceWay_MODE (slice * 16 + w) == 1 && s.f F.sliceWay_OWNER (slice * 16 + w) == part &&
      !s.b F.sliceWay_BUSY (slice * 16 + w))

/-- The line slot of a way, if it holds a valid line (08 R274). -/
def State.lineIn (s : State) (slice way set : Nat) : Option CacheLine :=
  match SMap.find s.mem.cache (slotKey slice way set) with
  | some c => if c.tag == s.f F.sliceWay_OWNER (slice * 16 + way) then some c else none
  | none => none

/-- The victim way and the ways whose recently-used bits are cleared (08 R275); none when every
eligible way is reduction-busy. -/
def State.victim (s : State) (slice set part : Nat) : Option (Nat × List Nat) :=
  let ws := s.eligible slice part
  match ws.find? (fun w => (s.lineIn slice w set).isNone) with
  | some w => some (w, [])
  | none =>
    let free := ws.filter (fun w => ((s.lineIn slice w set).map (fun c => c.busy)).getD 0 == 0)
    match free.find? (fun w => ((s.lineIn slice w set).map (fun c => c.used)).getD false == false) with
    | some w => some (w, [])
    | none =>
      match free with
      | [] => none
      | w :: _ => some (w, free)

/-- A dirty slice line written back to memory; a remote copy no L1 holds is forgotten. -/
def State.dropSlot (s : State) (k : Nat) (writeBack : Bool) : State :=
  match SMap.find s.mem.cache k with
  | none => s
  | some c =>
    let s := { s with mem := { s.mem with cache := SMap.drop s.mem.cache k } }
    match c.data with
    | some d => if writeBack then s.writeMemLine c.line d else s
    | none => s

/-- Allocates a line in an eligible way of the partition (08 R274, R275); unchanged when it cannot. -/
def State.allocate (s : State) (line part : Nat) (busy : Nat) : State :=
  let (slice, set) := s.homeOf line
  match s.victim slice set part with
  | none => s
  | some (w, cleared) =>
    let s := cleared.foldl (fun s x =>
      let k := slotKey slice x set
      match SMap.find s.mem.cache k with
      | some c => { s with mem := { s.mem with cache := SMap.put s.mem.cache k { c with used := false } } }
      | none => s) s
    let k := slotKey slice w set
    let s := s.dropSlot k true
    { s with mem := { s.mem with
        cache := SMap.put s.mem.cache k { line := line, tag := part, used := true, busy := busy, data := none } } }

/-- The region descriptor says the line may be cached here: cacheable or cask, or Near, or a remote
line (07 R250, 08 R284). -/
def State.cacheable (s : State) (line : Nat) : Bool :=
  match lineKind line with
  | .global ofs => s.f F.llmRgnDesc_POLICY (regionOf ofs) != 1
  | _ => true

/-- A lookup of a line in the cache-mode ways of its slice: a hit or a miss, and a hit marks the line recently used
(08 R275, R301). Near lines lie in scratch ways, where nothing is looked up (log entry 139). -/
def State.lineLookup (s : State) (line : Nat) (part : Option Nat) : State :=
  match lineKind line with
  | .near _ _ => s
  | _ =>
    match s.cacheAt line with
    | some (k, c) =>
      ({ s with mem := { s.mem with cache := SMap.put s.mem.cache k { c with used := true } } }).sliceCount line part 0
    | none => s.sliceCount line part 1

/-- A Near line in draff state D that is accessed: it is zero and D clears; a read counts as a re-read (08 R283). -/
def State.leaveDraff (s : State) (line : Nat) (write : Bool) : State :=
  match lineKind line with
  | .near p a =>
    match s.nearPlace p a with
    | none => s
    | some (w, b) =>
      let t := SMap.get ⟨0, false⟩ s.mem.scratchTags (w * 4096 + b / 128)
      if t.tag == p && t.draffed then
        let s := s.writeMemLine line (List.replicate 128 0)
        if write then s else s.sliceCount line (some p) 2
      else s
  | _ => s

/-- A line read from memory that is in the draff record leaves it, counted (08 R283). -/
def State.reread (s : State) (line : Nat) (part : Option Nat) : State :=
  let slice := (s.homeOf line).1
  let rec' := SMap.get [] s.mem.draffed slice
  if rec'.contains line then
    ({ s with mem := { s.mem with
      draffed := SMap.set [] s.mem.draffed slice (rec'.erase line) } }).sliceCount line part 2
  else s

/-- A supply at the home: the lookup, and on a miss the line read from memory and an eligible way of `part`, when one
is named, filled (08 R274, R275, R283, R287, R301). `write`: for a line that is about to be written. -/
def State.supply (s : State) (line : Nat) (part : Option Nat) (write : Bool) : State :=
  match lineKind line with
  | .near _ _ => s.leaveDraff line write
  | _ =>
    let t := s.lineLookup line part
    if (s.cacheAt line).isSome then t
    else
      let t := t.reread line part
      match part with
      | some p => t.allocate line p 0
      | none => t

/-- A line written by a non-allocating agent: a lookup, then the data (08 R287, R301). -/
def State.writeHome (s : State) (line : Nat) (d : List Byte) : State :=
  ((if s.cacheable line then s.lineLookup line none else s)).putHome line d

/-! ### The directory and the L1s (08 R284 to R290) -/

/-- The key of an L1 line. -/
def l1Key (core line : Nat) : Nat := core * 2 ^ 64 + line

def State.l1State (s : State) (core line : Nat) : Option L1State := SMap.find s.mem.l1 (l1Key core line)

def State.setL1 (s : State) (core line : Nat) (x : Option L1State) : State :=
  { s with mem := { s.mem with l1 := match x with
      | some v => SMap.put s.mem.l1 (l1Key core line) v
      | none => SMap.drop s.mem.l1 (l1Key core line) } }

/-- The entry of a line; none stands for U. -/
def State.dirEntry (s : State) (line : Nat) : Option DirEntry := SMap.find s.mem.dir line

def State.setDir (s : State) (line : Nat) (x : Option DirEntry) : State :=
  { s with mem := { s.mem with dir := match x with
      | some v => SMap.put s.mem.dir line v
      | none => SMap.drop s.mem.dir line } }

/-- The physical indices that an entry names. -/
def sharerList (v : BitVec 288) : List Nat := (List.range 288).filter (fun i => v.getLsbD i)

def bit288 (i : Nat) : BitVec 288 := BitVec.ofNat 288 (2 ^ i)

/-- An L1 copy given up: modified data go to the home when `keepData`, else are lost (08 R286). -/
def State.surrender (s : State) (core line : Nat) (keepData : Bool) : State :=
  let dirty := s.l1State core line == some .m
  let s1 := s.setL1 core line none
  if dirty then
    match SMap.find s1.mem.l1data line with
    | some d =>
      let s2 := { s1 with mem := { s1.mem with l1data := SMap.drop s1.mem.l1data line } }
      if keepData then s2.putHome line d else s2
    | none => s1
  else s1

/-- Whether a physical core has lost a line that the directory says it owns: its L1 was emptied when it
was unfenced or replaced (15 R520, R522). -/
def State.ownerEmpty (s : State) (e : DirEntry) (line : Nat) : Bool :=
  !e.transient && match s.logicalOf e.fwd with
    | some c => (s.l1State c line).isNone
    | none => true

/-- Whether the sole owner of a line is a core whose data cannot be had (15 R518). -/
def State.ownerFenced (s : State) (line : Nat) : Option Nat :=
  match s.dirEntry line with
  | some e => if e.state == .ex && (s.fencedPhys e.fwd || s.ownerEmpty e line) then some e.fwd else none
  | none => none

/-- Every L1 copy recalled or invalidated, dirty data kept at the home or lost; the entry becomes U.
A fenced owner answers without data and the line is poisoned (08 R287, 15 R518). -/
def State.recallAll (s : State) (line : Nat) (keepData : Bool) : State :=
  match s.dirEntry line with
  | none => s
  | some e =>
    let lost := (s.ownerFenced line).isSome && keepData
    let s1 := (sharerList e.sharers).foldl (fun s i =>
      match s.logicalOf i with
      | some c => s.surrender c line (keepData && !s.fencedPhys i)
      | none => s) s
    let s2 := s1.setDir line none
    if lost then s2.poisonLine line 0 e.fwd else s2

/-- The fewest-sharers entry of a full directory set that no request holds (08 R289). -/
def State.dirVictim (s : State) (slice set : Nat) : Option Nat :=
  let inSet := s.mem.dir.filter (fun e => e.2.slice == slice && e.2.set == set && e.2.state != .u)
  if inSet.length < 16 then none
  else
    let cands := inSet.filter (fun e => !e.2.transient)
    match cands with
    | [] => none
    | c :: cs =>
      let weight (e : Nat × DirEntry) : Nat := (sharerList e.2.sharers).length * 16 + e.2.way
      some (cs.foldl (fun b x => if weight x < weight b then x else b) c).1

/-- Room for a new entry in a set: the victim's copies are recalled (08 R289), in one step for a request that is
served whole. -/
def State.dirRoom (s : State) (slice set : Nat) : State :=
  match s.dirVictim slice set with
  | none => s
  | some v => (s.sliceCount v none 3).recallAll v true

/-- Whether a new entry of a set must wait: all its sixteen ways are in use and each has a request in progress (08
R289). -/
def State.dirFull (s : State) (line : Nat) : Bool :=
  let (slice, set) := s.homeOf line
  (s.dirEntry line).isNone && (s.dirVictim slice (set % 256)).isNone &&
    16 ≤ s.mem.dir.countP (fun e => e.2.slice == slice && e.2.set == set % 256 && e.2.state != .u)

/-- The lowest free way of a directory set. -/
def State.dirWay (s : State) (slice set : Nat) : Nat :=
  ((List.range 16).find? (fun w =>
    s.mem.dir.all (fun e => !(e.2.slice == slice && e.2.set == set && e.2.way == w)))).getD 0

/-- A fresh entry with one core. -/
def State.newDir (s : State) (line : Nat) (st : DirState) (i : Nat) : State :=
  let (slice, set) := s.homeOf line
  let dset := set % 256
  let s := s.dirRoom slice dset
  s.setDir line (some ⟨bit288 i, st, i, false, slice, dset, s.dirWay slice dset⟩)

/-- An L1 eviction of a line (08 R286, R287): S silently, F by PutF, E by PutE, M by PutM. An entry with a request
in progress stays (08 R288). -/
def State.evictL1 (s : State) (core line : Nat) : State :=
  let i := s.physIdx core
  match s.l1State core line with
  | none => s
  | some .s => s.setL1 core line none
  | some .f =>
    let s := s.setL1 core line none
    match s.dirEntry line with
    | some e =>
      let sh := e.sharers &&& ~~~bit288 i
      if sh == 0 && !e.transient then s.setDir line none
      else s.setDir line (some { e with sharers := sh, fwd := if e.fwd == i then 0x1FF else e.fwd })
    | none => s
  | some st =>
    let s := if st == .m && s.cacheable line then s.lineLookup line none else s
    let s := s.surrender core line true
    match s.dirEntry line with
    | some e =>
      if e.transient then
        s.setDir line (some { e with sharers := e.sharers &&& ~~~bit288 i, fwd := if e.fwd == i then 0x1FF else e.fwd })
      else s.setDir line none
    | none => s

/-- The lines of one core's L1. -/
def State.l1Lines (s : State) (core : Nat) : List Nat :=
  (s.mem.l1.filter (fun e => e.1 / 2 ^ 64 == core)).map (fun e => e.1 % 2 ^ 64)

/-- Room for a line in its L1 set of 16 ways (08 R284). Which line is evicted is a free value (log
entry 15). -/
def State.l1Room (s : State) (core line : Nat) : State :=
  let ls := s.l1Lines core
  if ls.length < 16 || ls.contains line then s
  else
    let inSet := ls.filter (fun l => Config.l1Set l % 128 == Config.l1Set line % 128)
    if inSet.length < 16 then s
    else
      let v := inSet.getD ((Config.freeValue s.free).toNat % 16) line
      { s.evictL1 core v with free := s.free + 1 }

/-- A GetS served whole (08 R286, R287): the core ends with E or F. The error is a fault code, or 0 while no directory
entry is to be had (08 R289). -/
def State.getS (s : State) (core part line : Nat) : Except Nat State :=
  if s.poisoned line then .error 0x0220
  else if s.dirFull line then .error 0
  else
    let i := s.physIdx core
    let s := s.l1Room core line
    match s.dirEntry line with
    | none =>
      let s := s.supply line (some part) false
      let s := s.newDir line (if line < 2 ^ 40 then .ex else .sh) i
      .ok (s.setL1 core line (some (if line < 2 ^ 40 then .e else .f)))
    | some e =>
      match e.state with
      | .ex =>
        match s.ownerFenced line with
        | some f => .error (0x0220 + 0 * f)
        | none =>
          let s := match s.logicalOf e.fwd with
            | some o =>
              let s := match s.l1State o line, SMap.find s.mem.l1data line with
                | some .m, some d =>
                  ({ s with mem := { s.mem with l1data := SMap.drop s.mem.l1data line } }).putHome line d
                | _, _ => s
              s.setL1 o line (some .s)
            | none => s
          let s := s.setDir line (some { e with sharers := e.sharers ||| bit288 i, state := .sh, fwd := i })
          .ok (s.setL1 core line (some .f))
      | _ =>
        let s := if e.fwd != 0x1FF && !s.fencedPhys e.fwd then
            match s.logicalOf e.fwd with
            | some o => if (s.l1State o line).isSome then s.setL1 o line (some .s) else s.supply line (some part) false
            | none => s.supply line (some part) false
          else s.supply line (some part) false
        let s := s.setDir line (some { e with sharers := e.sharers ||| bit288 i, state := .sh, fwd := i })
        .ok (s.setL1 core line (some .f))

/-- A GetM served whole (08 R286, R287): the core ends with M and the line's data. -/
def State.getM (s : State) (core part line : Nat) : Except Nat State :=
  if s.poisoned line then .error 0x0220
  else if s.dirFull line then .error 0
  else
    let i := s.physIdx core
    let s := s.l1Room core line
    match s.dirEntry line with
    | none =>
      let s := s.supply line (some part) true
      let d := s.curLine line
      let s := (s.newDir line .ex i).setL1 core line (some .m)
      .ok { s with mem := { s.mem with l1data := SMap.put s.mem.l1data line d } }
    | some e =>
      if (s.ownerFenced line).isSome then .error 0x0220
      else
        let s := if (s.l1State core line).isNone && e.state == .sh then s.supply line (some part) true else s
        let d := s.curLine line
        let s := (sharerList e.sharers).foldl (fun s j =>
          match s.logicalOf j with
          | some c => if c == core then s else s.setL1 c line none
          | none => s) s
        let s := s.setDir line (some { e with sharers := bit288 i, state := .ex, fwd := i })
        let s := s.setL1 core line (some .m)
        .ok { s with mem := { s.mem with l1data := SMap.put s.mem.l1data line d } }

/-- Poison left by a fenced owner that a request has met (15 R518). -/
def State.poisonIfFenced (s : State) (line : Nat) : State :=
  match s.ownerFenced line with
  | some f =>
    match s.dirEntry line with
    | some _ => (s.setDir line none).poisonLine line 0 f
    | none => s
  | none => s

/-- A load's claim on a line in a core's L1 (08 R286). -/
def State.l1Load (s : State) (core part line : Nat) : Except Nat State :=
  if s.poisoned line then .error 0x0220
  else if (s.l1State core line).isSome then .ok s
  else s.getS core part line

/-- A store's or near atomic's claim on a line: the L1 holds it in M (08 R286, R292). -/
def State.l1Own (s : State) (core part line : Nat) : Except Nat State :=
  if s.poisoned line then .error 0x0220
  else
    match s.l1State core line with
    | some .m => .ok s
    | some .e =>
      let d := s.curLine line
      .ok { s.setL1 core line (some .m) with
        mem := { (s.setL1 core line (some .m)).mem with l1data := SMap.put s.mem.l1data line d } }
    | _ => s.getM core part line

/-- Bytes of a line replaced. -/
def patch (line : List Byte) (at' : Nat) (d : List Byte) : List Byte :=
  line.take at' ++ d ++ line.drop (at' + d.length)

/-- A store into a line that the core owns. -/
def State.l1Write (s : State) (line at' : Nat) (d : List Byte) : State :=
  let cur := s.curLine line
  { s with mem := { s.mem with l1data := SMap.put s.mem.l1data line (patch cur at' d) } }

/-! ### Non-allocating agents (08 R290, R297) -/

/-- A non-allocating read of a line: its value, no state changed but the lookup (08 R287). -/
def State.naRead (s : State) (line : Nat) : Except Nat (List Byte × State) :=
  if s.poisoned line then .error 0x0220
  else if (s.ownerFenced line).isSome then .error 0x0220
  else
    match s.dirEntry line with
    | some e =>
      if e.state == .ex then .ok (s.curLine line, s)
      else .ok (s.curLine line, if s.cacheable line then s.supply line none false else s)
    | none =>
      let s1 := if s.cacheable line then s.supply line none false else s
      .ok (s1.curLine line, s1)

/-- A non-allocating write of bytes of a line: copies recalled, the bytes merged, written at the slice
or memory. A full-line write clears poison, a partial one faults on it (08 R287, R290, R297). -/
def State.naWrite (s : State) (line at' : Nat) (d : List Byte) : Except Nat State :=
  let full := at' == 0 && 128 ≤ d.length
  if s.chanFailed line || (s.poisoned line && !full) then .error 0x0220
  else if (s.ownerFenced line).isSome && !full then .error 0x0220
  else
    let s := if full then (s.recallAll line false).clearPoison line else s.recallAll line true
    .ok (s.writeHome line (patch (s.curLine line) at' d))

/-- Copies of a line dropped from every L1 and way of this device (08 R281): dirty data written back
or lost. -/
def State.dropLine (s : State) (line : Nat) (writeBack : Bool) : State :=
  let s := s.recallAll line writeBack
  let s := match s.cacheSlot line with
    | some k => s.dropSlot k writeBack
    | none => s
  match lineKind line with
  | .remote _ _ => { s with mem := { s.mem with remote := SMap.drop s.mem.remote line } }
  | _ => s

/-- Dirty copies written back and kept clean (08 R281 flush). -/
def State.flushLine (s : State) (line : Nat) : State :=
  let s := match SMap.find s.mem.l1data line, s.dirEntry line with
    | some d, some e =>
      let s := { s with mem := { s.mem with l1data := SMap.drop s.mem.l1data line } }
      let s := match s.logicalOf e.fwd with
        | some c => s.setL1 c line (some .e)
        | none => s
      s.putHome line d
    | _, _ => s
  match s.cacheAt line with
  | some (k, c) =>
    match c.data with
    | some d =>
      let s := { s with mem := { s.mem with cache := SMap.put s.mem.cache k { c with data := none } } }
      s.writeMemLine line d
    | none => s
  | none => s

/-- A line entered in its slice's draff record of 256 addresses, first in first out (08 R269, R283). -/
def State.recordDraff (s : State) (line : Nat) : State :=
  let (slice, _) := s.homeOf line
  let r := (SMap.get [] s.mem.draffed slice).filter (· != line) ++ [line]
  { s with mem := { s.mem with draffed := SMap.set [] s.mem.draffed slice (r.drop (r.length - 256)) } }

/-- A line draffed (08 R281 to R283). A Near header line has no scratch line of its own to take state D: its entries
become zero (DESIGN CHOICE, log entry 137). -/
def State.draffLine (s : State) (line : Nat) : State :=
  match lineKind line with
  | .global _ => if s.cacheable line then (s.dropLine line false).recordDraff line else s
  | .remote _ _ => s.dropLine line false
  | .near part a =>
    let s := s.recallAll line false
    match s.nearPlace part a with
    | none => s
    | some (w, b) =>
      if 0x3FC00000 ≤ a % 2 ^ 30 then s.writeMemLine line (List.replicate 128 0)
      else
        { s with mem := { s.mem with
          scratchTags := SMap.set ⟨0, false⟩ s.mem.scratchTags (w * 4096 + b / 128) ⟨part, true⟩ } }

end Sys2Proof.Machine
end

