-- ==== Sys2Proof/Machine/Xlat.lean ====
section
/-!
DEFINITION. Translation of Global addresses (12 R436 to R440), span windows (10 R355) and the checks
of the spaces (07 R240 to R244).
-/
namespace Sys2Proof.Machine

/-! ### What an access is -/

/-- Kinds of access that 07 R243 and 12 R438 tell apart. -/
inductive Use where
  | load | store | atomic | lock
  | tileRead | tileWrite | copySource | copyDestination
  | prefetch | flush | invalidate | draff | fetch
  deriving DecidableEq, Repr

/-- The rights needed: RD, WR, EX as bits 0, 1, 2 (12 R438). -/
def Use.rights : Use → Nat
  | .load | .tileRead | .copySource | .prefetch | .flush | .invalidate => 1
  | .store | .tileWrite | .copyDestination | .draff => 2
  | .atomic | .lock => 3
  | .fetch => 4

/-- What a cask region accepts (07 R243, CLASS 1). -/
def Use.caskOk : Use → Bool
  | .load | .tileRead | .copySource | .prefetch | .flush | .invalidate | .draff | .fetch => true
  | _ => false

/-- A plain load or store, which may not touch the reserved region offsets (07 R244). -/
def Use.plain : Use → Bool
  | .load | .store | .atomic | .lock | .fetch => true
  | _ => false

/-- Where a translated address leads. -/
inductive Place where
  | own (cls ofs : Nat)
  | remote (cls node ofs : Nat)
  | regs (node ofs : Nat)
  deriving DecidableEq, Repr

/-- The answer of a translation: a place, a stall (07 R248), or a fault. -/
inductive Xlat where
  | at (p : Place)
  | stall
  | fault (code : Nat)
  deriving DecidableEq, Repr

/-! ### Fields of a Global address (07 R241) -/

def gaClass (va : W64) : Nat := va.toNat / 2 ^ 60

def gaNode (va : W64) : Nat := va.toNat / 2 ^ 44 % 2 ^ 16

def gaOfs (va : W64) : Nat := va.toNat % 2 ^ 44

/-- A Global address from its fields. -/
def mkGa (cls node ofs : Nat) : W64 := BitVec.ofNat 64 (cls * 2 ^ 60 + node * 2 ^ 44 + ofs)

/-- The node identifier the device holds (10 R348). -/
def State.nodeId (s : State) : Option Nat :=
  if s.b F.bxfCtlCfg_NODE_VALID 0 then some (s.f F.bxfCtlCfg_NODE 0) else none

/-- A NODE field that names this device (07 R242). -/
def State.ownNode (s : State) (node : Nat) : Bool := node == 0xFFFF || s.nodeId == some node

/-- The span window that a NODE value names (10 R355). -/
def State.spanWindow (s : State) (node : Nat) : Option Nat :=
  (List.range 16).find? (fun n => s.b F.bxfCtlSpanwinB_VALID n && s.f F.bxfCtlSpanwinA_SNODE n == node)

/-- The member and the member's offset of an address in a span window (10 R355). -/
def State.spanDecode (s : State) (n ofs : Nat) : Nat × Nat :=
  let m := s.f F.bxfCtlSpanwinB_LOG2M n
  let k := s.f F.bxfCtlSpanwinB_GSHIFT n
  let g := ofs / 2 ^ k
  (s.f F.bxfCtlSpanwinA_BASE_NODE n + g % 2 ^ m, g / 2 ^ m * 2 ^ k + ofs % 2 ^ k)

/-- Member and offset of an offset under a NODE value: a span window decoded (10 R355). -/
def State.memberOf (s : State) (node ofs : Nat) : Nat × Nat :=
  match s.spanWindow node with
  | some k => s.spanDecode k ofs
  | none => (node, ofs)

/-! ### Table walks (12 R437 step 3, R439) -/

/-- The answer of a table read. -/
inductive Walk where
  | entry (e : W64)
  | stall
  | fault (code : Nat)
  deriving DecidableEq, Repr

/-- The 8 bytes at an aligned Global offset of this device. -/
def State.word64 (s : State) (ofs : Nat) : W64 :=
  BitVec.ofNat 64 (leNat (((s.curLine (gLine ofs)).drop (ofs % 128)).take 8))

/-- A table read (12 R437 step 3). -/
def State.tableWord (s : State) (ofs : Nat) : Walk :=
  let r := regionOf ofs
  if s.f F.rgnown_OWNER r != 0 then .fault 0x0204
  else if s.b F.llmRgnDesc_FILLING r then .stall
  else if !s.b F.llmRgnDesc_VALID r then .fault 0x0204
  else if s.poisoned (gLine ofs) then .fault 0x0204
  else .entry (s.word64 ofs)

/-- Bits [hi:lo] of an entry are zero. -/
def zeroBits (e : W64) (lo hi : Nat) : Bool := e.toNat / 2 ^ lo % 2 ^ (hi + 1 - lo) == 0

/-- A block entry or a level-2 entry with no bit that must be zero (12 R439). -/
def leafOk (e : W64) : Bool :=
  zeroBits e 1 1 && zeroBits e 5 15 && zeroBits e 26 63

/-- The rights of an entry. -/
def entryRights (e : W64) : Nat := e.toNat / 4 % 8

/-- A level-2 form of the translation of a 44-bit offset: rights of both levels and REGION. -/
def State.walk (s : State) (part ofs : Nat) : Walk :=
  let root := s.f F.xlatRootHi_ADDR part * 2 ^ 32 + s.f F.xlatRootLo_ADDR part * 2 ^ 17
  match s.tableWord (root + 8 * (ofs / 2 ^ 30 % 2 ^ 14)) with
  | .stall => .stall
  | .fault c => .fault c
  | .entry e1 =>
    if !e1.getLsbD 0 then .fault 0x0201
    else if !e1.getLsbD 1 then
      if leafOk e1 then .entry e1 else .fault 0x0204
    else if !(zeroBits e1 5 11 && zeroBits e1 40 63) then .fault 0x0204
    else
      match s.tableWord (e1.toNat / 2 ^ 12 % 2 ^ 28 * 4096 + 8 * (ofs / 2 ^ 21 % 512)) with
      | .stall => .stall
      | .fault c => .fault c
      | .entry e2 =>
        if !e2.getLsbD 0 then .fault 0x0201
        else if !leafOk e2 then .fault 0x0204
        else .entry (e2 &&& ~~~((7 : W64) <<< 2) ||| BitVec.ofNat 64 (4 * (entryRights e1 &&& entryRights e2)))

/-- The cached or walked translation of an offset (12 R440). -/
def State.lookup (s : State) (part ofs : Nat) : Walk :=
  match s.tun.xlat.find? (fun x => x.part == part && x.index == ofs / 2 ^ 21) with
  | some x => .entry x.entry
  | none => s.walk part ofs

/-- Keeps a successful translation (12 R440): the newest 8,192 are kept (log entry 16). -/
def State.cacheXlat (s : State) (part ofs : Nat) : State :=
  if s.tun.xlat.any (fun x => x.part == part && x.index == ofs / 2 ^ 21) then s
  else
    match s.walk part ofs with
    | .entry e =>
      { s with tun := { s.tun with xlat := ((⟨part, ofs / 2 ^ 21, e⟩ :: s.tun.xlat).take 8192) } }
    | _ => s

/-- Steps 3 and 4 of 12 R437: the physical offset. -/
def State.mapOwn (s : State) (part ofs : Nat) (u : Use) : Xlat :=
  if !s.b F.xlatCfg_ENABLE part then .fault 0x0201
  else
    match s.lookup part ofs with
    | .stall => .stall
    | .fault c => .fault c
    | .entry e =>
      if entryRights e &&& u.rights != u.rights then .fault 0x0202
      else
        let r := e.toNat / 2 ^ 16 % 1024
        let owned := s.f F.rgnown_OWNER r == part
        let lent := s.b F.rgnown_LEND r && s.f F.llmRgnDesc_POLICY r == 2 && u.rights &&& 2 == 0
        if owned || lent then .at (.own 0 (r * 2 ^ 30 + ofs % 2 ^ 30)) else .fault 0x0203

/-- Fault 0x0802 of an isolated die, with what 15 R513 has recorded above the code. -/
def lostDie (die : Nat) : Nat := 0x0802 + 2 ^ 16 * (8 + die)

/-- The checks of 07 R243, R244, R248, 15 R530 and 09 R310, R313, R318 on a physical offset of this device; an
access to a line with a request in progress waits (08 R285), and one to a slice that does not serve (08 R299). -/
def State.checkOwn (s : State) (cls ofs : Nat) (u : Use) : Xlat :=
  if 3 ≤ cls then .fault 0x0211
  else if 2 ^ 40 ≤ ofs then .fault 0x0212
  else
    let r := regionOf ofs
    if s.b F.llmRgnDesc_FILLING r then .stall
    else if !s.b F.llmRgnDesc_VALID r then .fault 0x0210
    else
      let cask := s.f F.llmRgnDesc_POLICY r == 2
      if cask != (cls == 1) then .fault 0x0211
      else if cask && !u.caskOk then .fault 0x0214
      else if u.plain && 0x3FFFC000 ≤ regionOfs ofs then .fault 0x0212
      else if s.ras.isolated.contains ((s.spot r (regionOfs ofs)).1 / 64) then
        .fault (lostDie ((s.spot r (regionOfs ofs)).1 / 64))
      else if s.chanStalled (s.spot r (regionOfs ofs)).1 && !s.heldHere (gLine ofs) then .stall
      else if !s.b F.sliceCtrl_ENABLE (s.spot r (regionOfs ofs)).1 || (SMap.find s.mem.txns (gLine ofs)).isSome then .stall
      else .at (.own cls ofs)

/-- Translation of an offset of this device for a partition, and the checks that follow. Partition 0
is the firmware of the physical function, whose accesses are not translated (12 R436). -/
def State.xlatOwn (s : State) (part cls ofs : Nat) (u : Use) : Xlat :=
  if part == 0 then s.checkOwn cls ofs u
  else
    match s.mapOwn part ofs u with
    | .at (.own _ p) => s.checkOwn cls p u
    | x => x

/-- Translation of a Global address (12 R437, 07 R242, 10 R355). -/
def State.translate (s : State) (part : Nat) (va : W64) (u : Use) : Xlat :=
  let cls := gaClass va
  let node := gaNode va
  let ofs := gaOfs va
  if cls == 2 then
    let (n, o) := if s.ownNode node then (node, ofs) else s.memberOf node ofs
    .at (.regs n o)
  else if node == 0xFFFF then s.xlatOwn part cls ofs u
  else
    match s.nodeId with
    | none => .fault 0x0212
    | some me =>
      if node == me then s.xlatOwn part cls ofs u
      else if part != 0 && !s.b F.bxfCtlPkey_ENABLE part then .fault 0x0205
      else
        let (n, o) := s.memberOf node ofs
        if n == me then s.xlatOwn part cls o u
        else if 3 ≤ cls then .fault 0x0211
        else .at (.remote cls n o)

/-- The state after a translation that succeeded: its entry is cached. -/
def State.noteXlat (s : State) (part : Nat) (va : W64) : State :=
  let (n, o) := if s.ownNode (gaNode va) then (0xFFFF, gaOfs va) else s.memberOf (gaNode va) (gaOfs va)
  if part == 0 || gaClass va == 2 || !s.ownNode n then s else s.cacheXlat part o

/-- The line of a place that is memory. -/
def Place.line : Place → Option Nat
  | .own _ ofs => some (gLine ofs)
  | .remote _ node ofs => some (rLine node ofs)
  | .regs _ _ => none

/-- The answer for a Near address (07 R240, 08 R278, 15 R530): its line, or fault 0x0212, or 0x0802 on
an isolated die; 0 while its slice does not serve or a request for the line is in progress. -/
def State.nearLine (s : State) (part a : Nat) : Except Nat Nat :=
  match s.nearPlace part a with
  | none => .error 0x0212
  | some (w, _) =>
    if s.ras.isolated.contains (w / 1024) then .error (lostDie (w / 1024))
    else if !s.b F.sliceCtrl_ENABLE (w / 16) || (SMap.find s.mem.txns (nLine part a)).isSome then .error 0
    else .ok (nLine part a)

end Sys2Proof.Machine
end

