-- ==== Sys2Proof/WellFormed.lean ====
section
/-!
DEFINITION. Which commands are well formed: every index names something the device has, and an
instruction word is one that its row may carry (log entry 11).
-/
namespace Sys2Proof

/-- The issuer exists: 256 logical cores of 64 slots, 8 command processors (04 R112, 12 intro). -/
def Issuer.wf : Issuer → Bool
  | .group core slot => core < 256 && slot < 64
  | .cp n part ctx => n < 8 && part < 64 && ctx < 16

/-- The agent exists: 256 cores, 16 copy engines, 4 matrix engines of a core, 4 AES engines (01 R29, 12 R430, 13
R474). -/
def TileAgent.wf : TileAgent → Bool
  | .xfer core _ _ => core < 256
  | .copyEngine e => e < 16
  | .group core slot => core < 256 && slot < 64
  | .engine core me => core < 256 && me < 4
  | .landing port snode tag => port < 8 && snode < 65536 && tag < 1048576
  | .aes e => e < 4

/-- The requester exists: 64 functions, nodes, 256 cores of 64 slots (16 R540). -/
def Requester.wf : Requester → Bool
  | .fn n => n < 64
  | .mgmt snode => snode < 65536
  | .firmware => true
  | .group core slot => core < 256 && slot < 64

/-- A register address lies at a 4-byte aligned offset of a block of at most 16 pages (16 R536, R560). -/
def RegAddr.wf (a : RegAddr) : Bool := a.inst < 512 && a.off < 65536 && a.off % 4 == 0

/-- Whether a row may carry a word: the word is of the row's class, or it names no class at all, and
then every row that meets it raises 0x0401 (05 R158). -/
def carries (c : Machine.WordClass) (w : W64) : Bool :=
  Machine.classOf w == some c || Machine.classOf w == none

/-- Well-formedness of a command. -/
def Instr.wf : Instr → Bool
  | .nop i w => i.wf && carries .nop w
  | .fence i w => i.wf && carries .fence w
  | .barg i w => i.wf && carries .barg w
  | .barc i w => i.wf && carries .barc w
  | .fsr i w => i.wf && carries .fsr w
  | .fsc i w => i.wf && carries .fsc w
  | .seed i w => i.wf && carries .seed w
  | .sread i w => i.wf && carries .sread w
  | .yield i w => i.wf && carries .yield w
  | .bra i w => i.wf && carries .bra w
  | .brr i w => i.wf && carries .brr w
  | .join i w => i.wf && carries .join w
  | .brk i w => i.wf && carries .brk w
  | .bri i w => i.wf && carries .bri w
  | .call i w => i.wf && carries .call w
  | .exit i w => i.wf && carries .exit w
  | .scalarInteger i w => i.wf && carries .scalarInteger w
  | .vectorInteger i w => i.wf && carries .vectorInteger w
  | .compareToPredicate i w => i.wf && carries .compare w
  | .predicateLogic i w => i.wf && carries .predLogic w
  | .shfl i w => i.wf && carries .shfl w
  | .shflx i w => i.wf && carries .shflx w
  | .shfl64 i w => i.wf && carries .shfl64 w
  | .shflx64 i w => i.wf && carries .shflx64 w
  | .ballot i w => i.wf && carries .ballot w
  | .rdlane i w => i.wf && carries .rdlane w
  | .laneid i w => i.wf && carries .laneid w
  | .fp32Arithmetic i w => i.wf && carries .fp32 w
  | .fp64Arithmetic i w => i.wf && carries .fp64 w
  | .pairArithmetic i w => i.wf && carries .pair w
  | .conversion i w => i.wf && carries .conversion w
  | .ld i w => i.wf && carries .ld w
  | .st i w => i.wf && carries .st w
  | .atomic i w => i.wf && carries .atomic w
  | .lacq i w => i.wf && carries .lacq w
  | .lrel i w => i.wf && carries .lrel w
  | .thset i w0 _ => i.wf && carries .thset w0
  | .thadv i w0 _ => i.wf && carries .thadv w0
  | .thget i w0 _ => i.wf && carries .thget w0
  | .thdr i w0 _ => i.wf && carries .thdr w0
  | .topen i w0 _ => i.wf && carries .topen w0
  | .tseal i w0 _ => i.wf && carries .tseal w0
  | .fld i w0 _ => i.wf && carries .fld w0
  | .fst i w0 _ => i.wf && carries .fst w0
  | .mma i w0 _ => i.wf && carries .mma w0
  | .accw i w0 _ => i.wf && carries .accw w0
  | .tcvt i w0 _ => i.wf && carries .tcvt w0
  | .copy i w0 _ => i.wf && carries .copy w0
  | .tred i w0 _ => i.wf && carries .tred w0
  | .tatom i w0 _ => i.wf && carries .tatom w0
  | .rangePrefetch i w0 _ => i.wf && carries .prefetch w0
  | .rangeFlush i w0 _ => i.wf && carries .flush w0
  | .rangeInvalidate i w0 _ => i.wf && carries .invalidate w0
  | .rangeDraff i w0 _ => i.wf && carries .draff w0
  | .waitge i w0 _ => i.wf && carries .waitge w0
  | .phase i w0 _ => i.wf && carries .phase w0
  | .farAtomicResponse i _ => i.wf
  | .lockRetry i => i.wf
  | .waitgeReached i => i.wf
  | .groupWatchdogExpiry i => i.wf
  | .matrixEngineStart core me => core < 256 && me < 4
  | .engineAttemptAbandon core me => core < 256 && me < 4
  | .engineInstructionComplete core me => core < 256 && me < 4
  | .tileOperationTimeout core me => core < 256 && me < 4
  | .transferStart core => core < 256
  | .transferComplete core _ _ => core < 256
  | .tileWriteBegin a => a.wf
  | .tileWriterTimeout a => a.wf
  | .tileReadComplete a => a.wf
  | .tornTileWindowExpiry a => a.wf
  | .copyTimeout a => a.wf
  | .caskWaitTimeout a => a.wf
  | .beatBoundary _ => true
  | .digestComputed => true
  | .hostRangeDone => true
  | .retirementMoveComplete => true
  | .invalidationDone => true
  | .aonWriteApply => true
  | .pfFlr => true
  | .vfEnableSet => true
  | .vfEnableClear => true
  | .pcieLinkDown => true
  | .debugAccess => true
  | .sourceRecovery => true
  | .safeStateExit => true
  | .kuoriSourceFailure => true
  | .vinAuxLoss => true
  | .vinMainLoss => true
  | .regulatorsInRegulation => true
  | .linkReset => true
  | .perstDeassert => true
  | .tapReset => true
  | .bootStep => true
  | .bootResult => true
  | .haltCode => true
  | .mgmtStatusRead => true
  | .mgmtTemperatureRead => true
  | .mgmtPowerRead => true
  | .alertResponse => true
  | .spareBringInComplete _ => true
  | .scrubRead pc _ => pc < 512
  | .memoryReadComplete pc _ _ _ => pc < 512
  | .switchDrainEnd part ctx core => part < 64 && ctx < 16 && core < 256
  | .switchDrainTimeout part ctx core => part < 64 && ctx < 16 && core < 256
  | .switchSaveComplete part ctx core => part < 64 && ctx < 16 && core < 256
  | .switchRestoreComplete part ctx core => part < 64 && ctx < 16 && core < 256
  | .teardownDrainEnd part ctx => part < 64 && ctx < 16
  | .partitionCreate part _ => part < 64
  | .partitionDestroy part _ => part < 64
  | .partFreeze part _ => part < 64
  | .partThaw part _ => part < 64
  | .partRestore part _ => part < 64
  | .partitionDestroyEnd part => part < 64
  | .partFreezeComplete part => part < 64
  | .partRestoreComplete part => part < 64
  | .contextEnable part ctx _ => part < 64 && ctx < 16
  | .contextDisable part ctx _ => part < 64 && ctx < 16
  | .ringEnable part ctx _ => part < 64 && ctx < 16
  | .ringDisable part ctx _ => part < 64 && ctx < 16
  | .regionOwnerWrite n _ => n < 1024
  | .regionDisable n _ => n < 1024
  | .regionEnable n _ => n < 1024
  | .pkeyWrite n _ => n < 64
  | .regionDrainComplete n => n < 1024
  | .regionZeroFillComplete n => n < 1024
  | .wayReassign slice way _ => slice < 512 && way < 16
  | .wayReassignComplete slice way => slice < 512 && way < 16
  | .hostRangeFlush _ => true
  | .hostRangeInvalidate _ => true
  | .hostRangeDraff _ => true
  | .pseudoChannelRetire _ => true
  | .routeDataWrite _ => true
  | .translationInvalidate _ => true
  | .firmwareCommit _ => true
  | .epochAdvance _ => true
  | .recordStart _ => true
  | .recordData _ => true
  | .recordDone _ => true
  | .coreSpareBringIn _ => true
  | .waySpareBringIn _ => true
  | .inFieldTest _ => true
  | .coreUnfence _ => true
  | .directorySample _ => true
  | .gets core slot _ _ => core < 256 && slot < 64
  | .getm core slot _ => core < 256 && slot < 64
  | .putf core _ => core < 256
  | .pute core _ => core < 256
  | .putm core _ => core < 256
  | .l1Grant core _ => core < 256
  | .l1Inv core _ => core < 256
  | .l1Fwds core _ => core < 256
  | .l1Fwdm core _ => core < 256
  | .l1Snoop core _ => core < 256
  | .l1Recall core _ => core < 256
  | .l1FlushRequest core _ => core < 256
  | .l1Response core _ => core < 256
  | .nonAllocatingRead _ _ => true
  | .nonAllocatingWrite _ _ _ d => d.length == 128
  | .farOperation slice => slice < 512
  | .farOpResume slice => slice < 512
  | .snoopTimeout _ => true
  | .softPprComplete pc => pc < 512
  | .caParityError stack chan _ => stack < 16 && chan < 16
  | .channelRetrainEnd stack chan _ => stack < 16 && chan < 16
  | .beatMark port _ _ => port < 8
  | .beatInFrame _ _ => true
  | .dlyreq port _ _ _ => port < 8
  | .dlyrsp port _ _ => port < 8
  | .barrive port _ => port < 8
  | .brelease port _ => port < 8
  | .digestMsg port _ => port < 8
  | .mgmtRegisterRead port m => port < 8 && m.param == 0
  | .mgmtRegisterWrite port m => port < 8 && m.param == 1
  | .mgmtSpdmFragment port m => port < 8 && m.param == 2
  | .mgmtrsp port _ => port < 8
  | .rd port _ => port < 8
  | .wr port _ => port < 8
  | .atom port _ => port < 8
  | .trd port _ => port < 8
  | .twr port _ => port < 8
  | .tredContribution port _ => port < 8
  | .rdrsp port _ => port < 8
  | .wrack port _ => port < 8
  | .atrsp port _ => port < 8
  | .twrack port _ => port < 8
  | .trdrsp port _ => port < 8
  | .errRsp port _ => port < 8
  | .spdmFragmentTimeout _ _ => true
  | .respTimeout _ => true
  | .stallTimeout port vc => port < 8 && vc < 4
  | .laneFailure engine lane => engine < 4 && lane < 34
  | .flitCrcError port lane => port < 8 && lane < 34
  | .portEnable port _ => port < 8
  | .portRetrain port _ => port < 8
  | .vc0WaitClear port _ => port < 8
  | .trainingComplete port _ _ _ => port < 8
  | .trainingRetry port => port < 8
  | .fabricRetrainFailure port _ => port < 8
  | .spanWindowWrite n _ _ => n < 16
  | .bxfArrive who b _ => who.wf && b < 64
  | .bxfBarArrive b _ => b < 64
  | .barrierUnitEnable b _ => b < 64
  | .ringTask part ctx => part < 64 && ctx < 16
  | .ringWaitmem part ctx => part < 64 && ctx < 16
  | .ringWrite part ctx => part < 64 && ctx < 16
  | .ringPhase part ctx => part < 64 && ctx < 16
  | .ringNop part ctx => part < 64 && ctx < 16
  | .ringStallTimeout part ctx => part < 64 && ctx < 16
  | .ringCopy part ctx => part < 64 && ctx < 16
  | .copyEngineComplete e _ _ => e < 16
  | .sealedPackageLoad part ctx _ => part < 64 && ctx < 16
  | .sealedLoadComplete e => e < 16
  | .commandFetchComplete part ctx _ => part < 64 && ctx < 16
  | .taskComplete part ctx _ => part < 64 && ctx < 16
  | .windowRead fn _ _ => fn < 64
  | .windowWrite fn _ _ => fn < 64
  | .registerWrite who a _ => who.wf && a.wf
  | .vfFlr n => n < 64
  | .hostRequestFailure part ctx => part < 64 && ctx < 16
  | .pcieAtomicop fn _ => fn < 64
  | .doeAbort fn => fn < 64
  | .doeDiscovery fn => fn < 64
  | .pcieLinkUp _ _ => true
  | .getVersion _ _ => true
  | .getCapabilities _ _ => true
  | .negotiateAlgorithms _ _ => true
  | .getDigests _ _ => true
  | .spdmFinish _ _ => true
  | .spdmHeartbeat _ _ => true
  | .keyUpdate _ _ => true
  | .endSession _ _ => true
  | .chunkSend _ _ => true
  | .chunkGet _ _ => true
  | .getCertificate _ slot _ _ => slot < 256
  | .spdmChallenge _ _ => true
  | .keyExchange _ _ => true
  | .getMeasurements _ _ _ _ => true
  | .kegRead n _ => n < 8
  | .kegAdvance n _ _ => n < 8
  | .kegReserve _ => true
  | .kegSeed _ => true
  | .kegResponse _ => true
  | .recordProgramComplete => true
  | .keyLoad part _ => part < 64
  | .keyDrop part _ => part < 64
  | .keyLoadComplete part => part < 64
  | .domainSwitch n _ => n < 62
  | .pllLock n _ => n < 62
  | .domainStopPoint n => n < 62
  | .domainRestart n => n < 62
  | .referenceFailure _ => true
  | .pllLossOfLock _ => true
  | .trimWindow _ => true
  | .unitWake gate bit => gate < 3 && bit < 32
  | .currentLimitEvent die => die < 8
  | .currentLimitRelease die => die < 8
  | .droopEvent cluster => cluster < 32
  | .coreFence _ _ => true
  | .coreArrayError core array _ _ => core < 256 && array < 3
  | .inFieldTestComplete _ => true
  | .d2dLaneFailure port _ => port < 24
  | .d2dTrainingComplete port _ _ => port < 24
  | .d2dTrainingTimeout port _ => port < 24
  | .d2dRetrain port _ => port < 24
  | .d2dPartialReset port _ => port < 24
  | .d2dFatalError port _ => port < 24
  | .vinAuxOn _ => true
  | .vinMainOn _ => true
  | .bootStepEnd _ => true
  | .thermalTrip _ => true
  | .thermalRecheck _ => true
  | .ideKm _ => true
  | .ideIntegrityFailure _ => true

end Sys2Proof
end

