-- ==== Sys2Proof/Machine/Ops.lean ====
section
/-!
DEFINITION. The shared operations: how a command is answered, reads and writes of a group's state,
messages and interrupts that leave the device, completion records, the fault log, and the teardown
of a context by a fault (04 R147; 10 R343 to R350; 11 R403; 12 R433 to R435; 15 R510, R511, R533).
-/
namespace Sys2Proof
open Sys2Proof.Machine

/-- The place of an issuer in `groups`. -/
def Issuer.key : Issuer → Nat
  | .group core slot => core * 64 + slot
  | .cp n _ _ => (256 + n) * 64

def Issuer.core : Issuer → Nat
  | .group core _ => core
  | .cp _ _ _ => 0xFFFF

def Issuer.isCp : Issuer → Bool
  | .group _ _ => false
  | .cp _ _ _ => true

/-- Flits of a message, its head flit included (10 R334). -/
def Msg.flits (m : Msg) : Nat := 1 + (m.body.length + 255) / 256

/-- A bare message. -/
def Msg.empty : Msg :=
  { vc := 0, type := 0, dnode := 0, snode := 0, tag := 0, hops := 0, skey := 0, status := 0,
    rc := false, param := 0, head := [], body := [] }

/-- A request of VC 2 or VC 3 (10 R346). -/
def Msg.isRequest (m : Msg) : Bool :=
  let t := m.type.toNat
  (0x20 ≤ t && t ≤ 0x23) || t == 0x30 || t == 0x31

/-- Eight bytes of the head payload, `at'` counted from byte 16 of the flit (10 R336). -/
def Msg.word (m : Msg) (at' : Nat) : W64 := BitVec.ofNat 64 (leNat ((m.head.drop at').take 8))

/-- The header of a message as its head flit carries it (10 R334). -/
def Msg.header (m : Msg) : BitVec 128 :=
  m.param ++ (0 : BitVec 7) ++ BitVec.ofBool m.rc ++ m.status ++ m.skey ++ BitVec.ofNat 5 (m.flits - 1) ++ m.hops ++
    m.tag ++ m.snode ++ m.dnode ++ m.type ++ BitVec.ofNat 2 m.vc

/-- The message that a header, a head payload and body flits make (10 R334). -/
def Msg.ofHeader (h : BitVec 128) (head body : List Byte) : Msg :=
  { vc := (h.extractLsb' 0 2).toNat, type := h.extractLsb' 2 6, dnode := h.extractLsb' 8 16,
    snode := h.extractLsb' 24 16, tag := h.extractLsb' 40 20, hops := h.extractLsb' 60 5, skey := h.extractLsb' 70 12,
    status := h.extractLsb' 82 6, rc := h.getLsbD 88, param := h.extractLsb' 96 32, head := head, body := body }

/-- The key that chooses a message's port (10 R343): of a request by its address, of a response by its tag, of any
other message of VC 0 by its node. -/
def Msg.portKey (m : Msg) : Nat :=
  let d := m.dnode.toNat
  let ofs := gaOfs (m.word 0)
  if m.isRequest then d ^^^ (ofs / 2 ^ 12 % 2 ^ 16) ^^^ (ofs / 2 ^ 28 % 2 ^ 16)
  else if m.vc == 0 then d
  else m.tag.toNat % 2 ^ 16

/-- The order within VC 0: marks, delay messages, barrier messages, the rest (10 R340). -/
def Msg.rank (m : Msg) : Nat :=
  let t := m.type.toNat
  if t == 1 then 0 else if t ≤ 3 then 1 else if t ≤ 5 then 2 else 3

/-- DIGEST, MGMT and MGMTRSP, of which a port sends one flit per 64 flit times (10 R339). -/
def Msg.slow (m : Msg) : Bool := m.vc == 0 && m.rank == 3

end Sys2Proof

namespace Sys2Proof.Machine

/-! ### Groups (04) -/

/-- A command processor before its first instruction. -/
def Group.idle (part ctx : Nat) : Group :=
  { part := part, ctx := ctx, task := 0, inst := 0, node := 0xFFFF, gtag := 0, rpt := 0, granules := [], pc := 0,
    launch := 0, active := 0, stack := [], sregs := [], vregs := [], preds := [], handles := [],
    fp := 0, wdog := 0, wait := .none }

/-- The group of an issuer. A command processor has one register set and acts for the context it is
named with. -/
def State.group? (s : State) (i : Issuer) : Option Group :=
  match i with
  | .group _ _ => SMap.find s.co.groups i.key
  | .cp _ part ctx => some { SMap.get (Group.idle part ctx) s.co.groups i.key with part := part, ctx := ctx }

def State.setGroup (s : State) (i : Issuer) (g : Group) : State :=
  { s with co := { s.co with groups := SMap.put s.co.groups i.key g } }

def Group.s (g : Group) (n : Nat) : W64 := SMap.get 0 g.sregs n

def Group.setS (g : Group) (n : Nat) (v : W64) : Group := { g with sregs := SMap.set 0 g.sregs n v }

def Group.v (g : Group) (r lane : Nat) : W32 := SMap.get 0 g.vregs (r * 32 + lane)

def Group.setV (g : Group) (r lane : Nat) (v : W32) : Group :=
  { g with vregs := SMap.set 0 g.vregs (r * 32 + lane) v }

/-- A 64-bit value of a lane (05 R155). -/
def Group.v64 (g : Group) (r lane : Nat) : W64 := g.v (r + 1) lane ++ g.v r lane

def Group.setV64 (g : Group) (r lane : Nat) (x : W64) : Group :=
  (g.setV r lane (x.truncate 32)).setV (r + 1) lane ((x >>> 32).truncate 32)

def Group.p (g : Group) (n : Nat) : W32 := SMap.get 0 g.preds n

def Group.setP (g : Group) (n : Nat) (v : W32) : Group := { g with preds := SMap.set 0 g.preds n v }

def Group.h (g : Group) (n : Nat) : BitVec 128 := SMap.get 0 g.handles n

def Group.setH (g : Group) (n : Nat) (v : BitVec 128) : Group :=
  { g with handles := SMap.set 0 g.handles n v }

/-- The flags of the group's status accumulate (02 R60). -/
def Group.addFlags (g : Group) (f : FFlags) : Group := { g with fp := g.fp ||| f }

def bit32 (i : Nat) : W32 := BitVec.ofNat 32 (2 ^ i)

/-- The lanes of a mask, ascending. -/
def lanesOf (m : W32) : List Nat := (List.range 32).filter (fun i => m.getLsbD i)

/-- The lowest lane of a mask; 0xFF for none. -/
def firstLane (m : W32) : Nat := ((lanesOf m).head?).getD 0xFF

/-- The mask where a predicate holds, PE 0 standing for all (05 R161, R175). -/
def Group.guardMask (g : Group) (gd : Guard) : W32 :=
  if !gd.pe then BitVec.allOnes 32 else if gd.pn then ~~~(g.p gd.ps) else g.p gd.ps

/-- The participating threads (05 R161). -/
def Group.parts (g : Group) (gd : Guard) : W32 := g.active &&& g.guardMask gd

/-- The group's full mask (04 R131). -/
def Group.fullMask (g : Group) : Bool := g.active == g.launch

/-- Retired work sets the watchdog count of the group with a tag to zero (04 R143). -/
def State.retireWork (s : State) (gtag : Nat) : State :=
  { s with co := { s.co with groups := SMap.mapVals (fun k g =>
      if k < 256 * 64 && g.gtag == gtag then { g with wdog := 0 } else g) s.co.groups } }

/-- The issuer of a resident group with a tag. -/
def State.groupOf (s : State) (gtag : Nat) : Option Issuer :=
  (s.co.groups.find? (fun e => e.1 < 256 * 64 && e.2.gtag == gtag)).map
    (fun e => .group (e.1 / 64) (e.1 % 64))

/-- The flags of an engine or far operation reach the group that issued it, while it is resident. -/
def State.postFlags (s : State) (gtag : Nat) (f : FFlags) : State :=
  match s.groupOf gtag with
  | none => s
  | some i =>
    match s.group? i with
    | none => s
    | some g => s.setGroup i (g.addFlags f)

/-! ### Messages and interrupts -/

def State.emit (s : State) (o : Out) : State := { s with out := o :: s.out }

/-- A free value and the state after drawing it (log entry 4). -/
def State.draw (s : State) : W64 × State := (Config.freeValue s.free, { s with free := s.free + 1 })

/-- The beat length in ticks (11 R376). -/
def State.len (s : State) : Nat := s.f F.beatCfg_LEN 0

/-- The ticks that TIMEBASE may have gained since the model last knew it: less than the rest of the beat while
boundaries occur, any number while none does, none while IOSC has failed (11 R375, R376; 14 R496). -/
def State.timeRoom (s : State) : Nat :=
  let tb := s.tun.tb.toNat
  if s.clk.failed.contains .iosc then 0
  else if s.b F.beatCtrl_ENABLE 0 && s.len != 0 then (tb / s.len + 1) * s.len - 1 - tb
  else 2 ^ 64 - 1 - tb

/-- Time passes: TIMEBASE gains a free number of ticks and never decreases (11 R375, log entry 50). -/
def State.tick (s : State) : State :=
  { s.draw.2 with tun := { s.tun with
    tb := BitVec.ofNat 64 (s.tun.tb.toNat + s.draw.1.toNat % (s.timeRoom + 1)) } }

/-- The MSI-X vectors of a function (12 R435). -/
def State.msixCount (s : State) (fn : Nat) : Nat :=
  if fn == 0 then s.host.pfCount
  else ((SMap.find s.host.fns fn).map FnSt.msixCount).getD 1

def FnSt.reset : FnSt := { msixCount := 1, pendingBits := [], doeError := false }

def State.fn (s : State) (n : Nat) : FnSt := SMap.get FnSt.reset s.host.fns n

def State.setFn (s : State) (n : Nat) (x : FnSt) : State :=
  { s with host := { s.host with fns := SMap.set FnSt.reset s.host.fns n x } }

/-- An MSI-X entry before software writes it: masked (PRESUMED, log entry 8). -/
def MsixEntry.reset : MsixEntry := { addr := 0, data := 0, masked := true }

/-- Sends a function's vector; a masked one sets its pending bit (12 R435). -/
def State.msix (s : State) (fn vector : Nat) : State :=
  if s.msixCount fn ≤ vector then s
  else if (SMap.get MsixEntry.reset s.host.msix (fn * 2048 + vector)).masked then
    let x := s.fn fn
    s.setFn fn { x with pendingBits := vector :: x.pendingBits.filter (· != vector) }
  else s.emit (.msix fn vector)

/-- The function a partition is bound to (11 R383). -/
def State.instanceOf (s : State) (part : Nat) : Nat := s.f F.partCfg_INSTANCE part

/-! ### Sending over the fabric (10 R343 to R346, R350) -/

def PortSt.reset : PortSt :=
  { failed := [], replay := 0, laneReplays := [], retrainFails := 0, training := false, peerLanes := 0, queued := [],
    spent := [], waited := [], turns := [], paced := 64, unacked := [], rx := [], t1 := none }

def State.port (s : State) (p : Nat) : PortSt := SMap.get PortSt.reset s.fab.ports p

def State.setPort (s : State) (p : Nat) (x : PortSt) : State :=
  { s with fab := { s.fab with ports := SMap.set PortSt.reset s.fab.ports p x } }

/-- Whether a port's link carries flits: UP or UP_NARROW (10 R343, R372). -/
def State.linked (s : State) (p : Nat) : Bool :=
  s.f F.portStatus_STATE p == 2 || s.f F.portStatus_STATE p == 3

/-- A port counts as up in UP or UP_NARROW (10 R343). DESIGN CHOICE (log entry 143): none does while the fabric is
out of service, BXF_CTL_CTRL.ENABLE being 0 (10 R368). -/
def State.portUp (s : State) (p : Nat) : Bool := s.b F.bxfCtlCtrl_ENABLE 0 && s.linked p

/-- The up ports of a route entry. -/
def State.routeMask (s : State) (dnode : Nat) : Nat :=
  (List.range 8).foldl (fun m p =>
    if s.f F.bxfCtlRouteData_PORTS dnode / 2 ^ p % 2 == 1 && s.portUp p then m + 2 ^ p else m) 0

/-- The port of a mask that a key chooses (10 R343). -/
def pickPort (mask key : Nat) : Option Nat :=
  let ps := (List.range 8).filter (fun p => mask / 2 ^ p % 2 == 1)
  if ps.isEmpty then none else ps[key % ps.length]?

/-- Where the switch of a clock domain stands (14 R494). -/
def State.domStage (s : State) (n : Nat) : DomStage := SMap.get .running s.clk.dom n

/-- Whether a clock domain stands still. -/
def State.domStopped (s : State) (n : Nat) : Bool := s.domStage n == .stopped || s.domStage n == .lost

/-- The wait of a VC 0 message at the head of the transmit queue, in network cycles: a time the model has
no clock for, so a free value (10 R372, log entry 48). -/
def State.noteWait (s : State) (p : Nat) (m : Msg) : State :=
  if m.vc != 0 then s
  else (s.draw.2).setF F.portVc0Wait_MAX p (max (s.f F.portVc0Wait_MAX p) (s.draw.1.toNat % 2 ^ 16))

/-- The flits that a port's receive buffer holds for a channel, which are the credits of the sender (10 R339). -/
def vcRoom (vc : Nat) : Nat := if vc == 0 then 256 else if vc == 3 then 2048 else 512

/-- The credits a port has left on a channel; of VC 0 it never lacks one (10 R339, R341). -/
def PortSt.credits (x : PortSt) (vc : Nat) : Nat :=
  if vc == 0 then vcRoom 0 else vcRoom vc - SMap.get 0 x.spent vc

/-- The sending partition whose turn it is on a channel: the one that holds the turn, else the next of those that
wait, in the order of their span keys (10 R340; the round's order is the model's, log entry 144). -/
def PortSt.turn (x : PortSt) (vc : Nat) : Nat :=
  let keys := (x.queued.filter (fun q => q.msg.vc == vc)).map (fun q => q.msg.skey.toNat)
  let (k, left) := SMap.get (0, 0) x.turns vc
  if left != 0 && keys.contains k then k
  else
    let later := keys.filter (fun n => k < n)
    (if later.isEmpty then keys else later).foldl min 4096

/-- The place in the queue of the message whose flit goes next on a channel: one that has begun, else by the
channel's order; a slow one only where `slow` allows it (10 R334, R339, R340). -/
def PortSt.next (x : PortSt) (vc : Nat) (slow : Bool) : Option Nat :=
  let at' (f : Msg → Bool) : Option Nat := x.queued.findIdx? (fun q => q.msg.vc == vc && f q.msg)
  match x.queued.findIdx? (fun q => q.msg.vc == vc && q.sent != 0) with
  | some i => some i
  | none =>
    if vc == 0 then (List.range 4).findSome? (fun r => at' (fun m => m.rank == r && (slow || r != 3)))
    else if vc == 1 then at' (fun _ => true)
    else at' (fun m => m.skey.toNat == x.turn vc)

/-- Whether a channel has a flit ready and a credit (10 R340). -/
def PortSt.ready (x : PortSt) (vc : Nat) : Bool := (x.next vc (64 ≤ x.paced)).isSome && x.credits vc != 0

/-- The channel that takes the next flit time (10 R340): VC 0, else the highest that has aged, else the highest
that is ready; where only slow messages are left the flit times that they wait for pass. -/
def PortSt.channel (x : PortSt) : Option Nat :=
  if x.ready 0 then some 0
  else
    match [1, 2, 3].find? (fun v => x.ready v && 255 ≤ SMap.get 0 x.waited v) with
    | some v => some v
    | none =>
      match [1, 2, 3].find? x.ready with
      | some v => some v
      | none => (x.next 0 true).map (fun _ => 0)

/-- The weight of a span key's partition in VC 2 and VC 3: 0 acts as 1, and so does a key of no partition here (10
R340, R370, log entry 144). -/
def State.vcShare (s : State) (skey : Nat) : Nat :=
  match (List.range 64).find? (fun n => s.b F.bxfCtlPkey_ENABLE n && s.f F.bxfCtlPkey_SKEY n == skey) with
  | some n => max 1 (s.f F.bxfCtlPkey_SHARE n)
  | none => 1

/-- The times that a port stamps on a message as it leaves: TB_SEND of a mark, T1 of a delay request (10 R360,
R361). -/
def State.stamp (s : State) (p : Nat) (m : Msg) : Msg × State :=
  if m.type == 0x01 || m.type == 0x02 then
    let s := s.tick
    ({ m with head := leBytes 8 s.tun.tb.toNat ++ m.head.drop 8 },
      if m.type == 0x02 then s.setPort p { s.port p with t1 := some s.tun.tb } else s)
  else (m, s)

/-- The flit times of a port's channels after a flit of one (10 R339, R340). -/
def PortSt.age (x : PortSt) (vc : Nat) (slow : Bool) : PortSt :=
  { x with
    waited := [1, 2, 3].foldl (fun w v =>
      SMap.set 0 w v (if v != vc && x.ready v then SMap.get 0 x.waited v + 1 else 0)) x.waited
    paced := if slow then 0 else min 64 (x.paced + 1) }

/-- The turn of a channel after the first flit of a message with a span key. -/
def PortSt.takeTurn (x : PortSt) (vc key share : Nat) : PortSt :=
  let (k, left) := SMap.get (0, 0) x.turns vc
  if vc < 2 then x
  else { x with turns := SMap.put x.turns vc (key, (if k == key && left != 0 then left else share) - 1) }

/-- One flit of a channel leaves: it costs a credit and stays in the replay buffer, and the last one takes the
message with it (10 R332, R334, R339). A flit that leaves ends the replays of the one before. -/
def State.sendFlit (s : State) (p vc : Nat) : State :=
  match (s.port p).next vc true with
  | none => s
  | some i =>
    match (s.port p).queued[i]? with
    | none => s
    | some q =>
      let (m, s) := (s.noteWait p q.msg).stamp p q.msg
      let x := (s.port p).age vc m.slow
      let x := if q.sent == 0 then x.takeTurn vc m.skey.toNat (s.vcShare m.skey.toNat) else x
      let last := m.flits ≤ q.sent + 1
      let s := (s.bump .portEvtLo .portEvtHi (p * 6) 1).setPort p { x with
        replay := 0
        queued := if last then x.queued.eraseIdx i else x.queued.set i ⟨m, q.sent + 1⟩
        spent := SMap.set 0 x.spent vc (min (vcRoom vc) (SMap.get 0 x.spent vc + 1))
        unacked := x.unacked ++ [m] }
      if last then s.emit (.fabric p m) else s

/-- The credits that the peer has returned on a channel since: a free number of those spent (10 R341, log entry
145). -/
def State.creditBack (s : State) (p vc : Nat) : State :=
  let x := s.port p
  let n := SMap.get 0 x.spent vc
  if n == 0 then s
  else s.draw.2.setPort p { x with spent := SMap.set 0 x.spent vc (s.draw.1.toNat % (n + 1)) }

/-- The flits that the peer has acknowledged since: a free number of the oldest (10 R332, log entry 145). -/
def State.acknowledge (s : State) (p : Nat) : State :=
  let x := s.port p
  let n := x.unacked.length
  if n == 0 then s
  else s.draw.2.setPort p { x with unacked := x.unacked.drop (s.draw.1.toNat % (n + 1)) }

/-- The flits of a port's queue that can leave, one after another (10 R340). -/
def State.sendFlits : Nat → Nat → State → State
  | 0, _, s => s
  | n + 1, p, s =>
    match (s.port p).channel with
    | none => s
    | some vc => State.sendFlits n p (s.sendFlit p vc)

/-- Whether a port's transmitter stands still: the link retrains, or its clock does (10 R329, 14 R494). -/
def State.portStill (s : State) (p : Nat) : Bool := (s.port p).training || s.domStopped (57 + p / 2)

/-- What waits at a port leaves as credits and the transmitter allow (10 R339, R340). -/
def State.pump (s : State) (p : Nat) : State :=
  if s.portStill p || (s.port p).queued.isEmpty then s
  else
    let flits := ((s.port p).queued.map (fun q => q.msg.flits - q.sent)).foldl (· + ·) 0
    State.sendFlits flits p (([0, 1, 2, 3].foldl (fun s vc => s.creditBack p vc) s).acknowledge p)

/-- A message leaves on a port, or waits there for a credit, for its turn, while the link retrains or while its
clock stands still (10 R329, R340, 14 R494, log entry 18). -/
def State.transmit (s : State) (p : Nat) (m : Msg) : State :=
  let x := s.port p
  (s.setPort p { x with queued := x.queued ++ [⟨m, 0⟩] }).pump p

/-- A message of this device, other than a mark, to its node; none when no port is up. -/
def State.sendTo (s : State) (m : Msg) : Option State :=
  (pickPort (s.routeMask m.dnode.toNat) m.portKey).map (fun p => s.transmit p m)

/-- The node identifier that headers carry as SNODE. -/
def State.snode (s : State) : W16 := BitVec.ofNat 16 (s.nodeId.getD 0xFFFF)

/-- The first of `n + 1` numbers from `start`, within a range of `size` at `base`, that no request holds and no rule
keeps back. -/
def State.freeKey (s : State) (base size start : Nat) : Option Nat :=
  let tries := min size (s.fab.reqs.length + s.fab.rested.length + 1)
  ((List.range tries).map (fun k => base + (start + k) % size)).find?
    (fun t => (SMap.find s.fab.reqs t).isNone && SMap.get 0 s.fab.rested t ≤ s.tun.tb.toNat)

/-- The next free tag of the 2^20: none outstanding, none that timed out within 2 × RESP_TO (10 R350). -/
def State.freeTag (s : State) : Option Nat := s.freeKey 0 (2 ^ 20) s.fab.nextTag

/-- The number under which a request waits for a tag: beyond every tag (10 R350, log entry 146). -/
def State.waitKey (s : State) : Nat := (s.freeKey (2 ^ 20) (2 ^ 20) 0).getD (2 ^ 20)

/-- The span key of a partition's requests; 0 for management (10 R334). -/
def State.skeyOf (s : State) (part : Nat) : BitVec 12 :=
  if part == 0 then 0 else BitVec.ofNat 12 (s.f F.bxfCtlPkey_SKEY part)

/-- HOPS of a message sent: 0 in the register acts as 1 (10 R368). -/
def State.hopLimit (s : State) : Nat := max 1 (s.f F.bxfCtlCfg_HOP_LIMIT 0)

/-- An event counter of BXF_CTL advanced (10 R371). -/
def State.ctlCount (s : State) (n : Nat) : State := s.bump .bxfCtlEvtLo .bxfCtlEvtHi n 1

/-- A response to a request of another node (10 R343, R346). -/
def State.respond (s : State) (dnode tag part : Nat) (m : Msg) : State :=
  let m := { m with dnode := BitVec.ofNat 16 dnode, snode := s.snode, tag := BitVec.ofNat 20 tag,
                    hops := BitVec.ofNat 5 s.hopLimit, skey := s.skeyOf part }
  match s.sendTo m with
  | some t => t
  | none => s.ctlCount 3

/-- The outcome of a request that ended with a fault code: a poisoned line or tile is STATUS 1, every
other fault STATUS 3 with the code in PARAM (10 R349, R354). -/
def failed (vc : Nat) (type : BitVec 6) (code : Nat) : Msg :=
  if code == 0x0220 || code == 0x0103 then { Msg.empty with vc := vc, type := type, status := 1 }
  else { Msg.empty with vc := vc, type := type, status := 3, param := BitVec.ofNat 32 (code % 2 ^ 16) }

/-- Whether earlier requests for a message's node are still outstanding on another port that its key chose under the
up ports of before (10 R344). -/
def State.mustHold (s : State) (m : Msg) (p : Nat) : Bool :=
  let old := (SMap.get [] s.fab.masks m.dnode.toNat).filterMap (fun k => pickPort k m.portKey)
  s.fab.reqs.any (fun r => r.2.msg.dnode == m.dnode && r.2.port != p && old.contains r.2.port)

/-- Whether a request of some held ones goes to the same node by the same key. -/
def State.behindHeld (s : State) (held : List Nat) (m : Msg) : Bool :=
  held.any (fun t => match SMap.find s.fab.reqs t with
    | some r => r.msg.dnode == m.dnode && r.msg.portKey == m.portKey
    | none => false)

/-- The up ports of a node's entry noted beside those under which requests still outstanding were sent (10 R344). -/
def State.noteMask (s : State) (dnode : Nat) : State :=
  let mask := s.routeMask dnode
  let was := SMap.get [] s.fab.masks dnode
  let busy := s.fab.reqs.any (fun r => r.2.msg.dnode.toNat == dnode && r.2.port != 8)
  let now := if !busy then [mask] else if was.contains mask then was else was ++ [mask]
  { s with fab := { s.fab with masks := SMap.put s.fab.masks dnode now } }

/-- A request entered under a number: on a port, or held (8). -/
def State.enterReq (s : State) (key : Nat) (r : FabReq) : State :=
  { s with fab := { s.fab with
      reqs := SMap.put s.fab.reqs key r
      nextTag := if key < 2 ^ 20 then (key + 1) % 2 ^ 20 else s.fab.nextTag
      held := if r.port == 8 then s.fab.held ++ [key] else s.fab.held } }

/-- Sends a request, or holds it while earlier requests to its node are outstanding on another port after a change
of up ports, or while no tag is free (10 R344, R350). None when the node is unreachable (10 R346). -/
def State.request (s : State) (owner : ReqOwner) (part ctx dnode : Nat) (m : Msg) (line : Nat) : Option State :=
  let m := { m with dnode := BitVec.ofNat 16 dnode, snode := s.snode, hops := BitVec.ofNat 5 s.hopLimit
                    skey := s.skeyOf part }
  match pickPort (s.routeMask dnode) m.portKey with
  | none => none
  | some p =>
    let s := s.noteMask dnode
    let key := s.freeTag.getD s.waitKey
    let m := { m with tag := BitVec.ofNat 20 key }
    if s.freeTag.isNone || s.behindHeld s.fab.held m || s.mustHold m p then
      some (s.enterReq key ⟨owner, part, ctx, 8, m, 0, line, true⟩)
    else some ((s.enterReq key ⟨owner, part, ctx, p, m, 0, line, true⟩).transmit p m)

/-- The head payload of a memory request: its Global address at the destination (10 R336). -/
def headAddr (cls node ofs : Nat) : List Byte := leBytes 8 (mkGa cls node ofs).toNat

/-- A list of `n` zero bytes. -/
def zeros (n : Nat) : List Byte := List.replicate n 0

/-- A WR message: byte mask and line data (10 R336). -/
def wrMsg (cls node ofs : Nat) (d : List Byte) : Msg :=
  let lo := ofs % 128
  let mask := (2 ^ d.length - 1) * 2 ^ lo
  { Msg.empty with
    vc := 2, type := 0x21,
    head := headAddr cls node (ofs / 128 * 128) ++ leBytes 16 mask ++ zeros 8 ++
      (zeros lo ++ d ++ zeros (128 - lo - d.length)) }

/-- An RD message (10 R336). -/
def rdMsg (cls node ofs : Nat) : Msg :=
  { Msg.empty with
    vc := 2, type := 0x20, head := headAddr cls node (ofs / 128 * 128) }

/-- An ATOM message (10 R336). -/
def atomMsg (cls node ofs fn : Nat) (w64 ov : Bool) (operand cmp : W64) : Msg :=
  let c := fn % 16 + (if w64 then 16 else 0) + (if ov then 32 else 0)
  { Msg.empty with
    vc := 2, type := 0x22,
    head := headAddr cls node ofs ++ leBytes 8 c ++ leBytes 8 operand.toNat ++ leBytes 8 cmp.toNat }

/-- A write to a remote line first drops every copy this device holds; what reads sent before it bring is not kept
(07 R263). -/
def State.dropRemote (s : State) (line : Nat) : State :=
  let s := s.dropLine line false
  { s with fab := { s.fab with
      reqs := SMap.mapVals (fun _ r => if r.line == line then { r with keep := false } else r) s.fab.reqs } }

/-! ### Host memory (12 R414, R441) -/

/-- Whether the endpoint answers configuration and memory requests: its link is up and the Ploro table is built; until
then it answers Configuration Request Retry Status (17 R572, R579). -/
def State.hostUp (s : State) : Bool := s.host.linkUp && s.ras.tables.contains 0

/-- Whether an outbound request can leave: the link is up and, where IDE is required, some stream is
Secure (log entry 17). -/
def State.hostReady (s : State) : Bool :=
  s.host.linkUp && (!s.b F.pciCtlCtrl_IDE_REQUIRE 0 || s.host.ide.any IdeStream.secure)

/-- A write to host memory, with relaxed ordering or without (12 R413, R430, R435): 0x0207 while the link is down, a
stall while IDE holds it back. -/
def State.hostWrite (s : State) (a : W64) (d : List Byte) (relaxed : Bool) : Except Nat State :=
  if s.hostReady then .ok (s.emit (.host a d relaxed)) else .error (if s.host.linkUp then 0 else 0x0207)

/-- Whether a gating unit does not run under EXPLICIT gating (14 R490). -/
def State.unitOff (s : State) (gate bit : Nat) : Bool :=
  s.f F.clkCfg_GATING 0 == 0 && !(s.rget .clkGate gate).getLsbD bit

/-! ### Device writes of command processors and engines -/

/-- Bytes written within one line at a Global address as a partition's non-allocating agent (12 R436).
The error is a fault code, 0 standing for a stall. -/
def State.devWrite (s : State) (part ctx : Nat) (va : W64) (d : List Byte) (owner : ReqOwner) :
    Except Nat State :=
  match s.translate part va .store with
  | .stall => .error 0
  | .fault c => .error c
  | .at (.own _ ofs) => ((s.noteXlat part va).naWrite (gLine ofs) (ofs % 128) d)
  | .at (.remote cls node ofs) =>
    match (s.dropRemote (rLine node ofs)).request owner part ctx node (wrMsg cls node ofs d)
        (rLine node ofs) with
    | some t => .ok t
    | none => .error 0x0604
  | .at (.regs _ _) => .error 0x0213

/-- Bytes read within one line of this device for a partition. -/
def State.devRead (s : State) (part : Nat) (va : W64) (n : Nat) : Except Nat (List Byte × State) :=
  match s.translate part va .load with
  | .stall => .error 0
  | .fault c => .error c
  | .at (.own _ ofs) =>
    match (s.noteXlat part va).naRead (gLine ofs) with
    | .error c => .error c
    | .ok (d, t) => .ok ((d.drop (ofs % 128)).take n, t)
  | .at (.remote _ _ _) => .error 0x0212
  | .at (.regs _ _) => .error 0x0213

/-! ### Completion records (12 R433) -/

def RingSt.reset : RingSt := { base := 0, fetched := 0, cmds := [], stalled := 0, quiet := 0 }

def State.ring (s : State) (key : Nat) : RingSt := SMap.get RingSt.reset s.tun.rings key

def State.setRing (s : State) (key : Nat) (x : RingSt) : State :=
  { s with tun := { s.tun with rings := SMap.set RingSt.reset s.tun.rings key x } }

def RingCmd.w (c : RingCmd) (j : Nat) : W64 := c.words.getD j 0
def RingCmd.op (c : RingCmd) : Nat := fld (c.w 0) 0 8
def RingCmd.waitFlag (c : RingCmd) : Bool := bitOf (c.w 0) 8
def RingCmd.cpl (c : RingCmd) : Bool := bitOf (c.w 0) 9
def RingCmd.irq (c : RingCmd) : Bool := bitOf (c.w 0) 10

/-- The record of command n (12 R433). -/
def recordBytes (n status op user beat : Nat) : List Byte :=
  leBytes 8 (n + 1) ++ leBytes 2 status ++ leBytes 1 op ++ leBytes 1 0 ++ leBytes 4 user ++
    leBytes 8 beat ++ zeros 8

/-- Writes the record of a command when it has CPL or a nonzero status, then raises the ring's vector
for IRQ (12 R433, R435). -/
def State.putRecord (s : State) (key : Nat) (c : RingCmd) (status : Nat) : Except Nat State :=
  if c.cpl || status != 0 then
    let d := recordBytes c.idx status c.op (fld (c.w 0) 32 32) s.tun.num.toNat
    let a := s.pair .ringCplLo .ringCplHi key + BitVec.ofNat 64 (32 * (c.idx % 2 ^ s.f F.ringCtrl_LOG2N key))
    let r := if s.b F.ringCtrl_CSPACE key then
        s.hostWrite a d false
      else s.devWrite (key / 16) (key % 16) a d (.record key)
    match r with
    | .error e => .error e
    | .ok t =>
      .ok (if c.irq then t.msix (t.instanceOf (key / 16)) (t.f F.ringCtrl_VECTOR key) else t)
  else .ok s

/-! ### The fault log (15 R511) -/

/-- What a fault log entry says. -/
structure FaultRec where
  code : Nat
  part : Nat
  ctx : Nat
  source : Nat
  core : Nat
  addr : W64
  info : W32
  deriving DecidableEq, Repr

/-- Fault 0x0802 as accesses carry it: what R513 wants recorded stands above the code. -/
def FaultRec.plain (e : FaultRec) : FaultRec :=
  if e.code < 2 ^ 16 then e
  else { e with code := e.code % 2 ^ 16, info := BitVec.ofNat 32 (e.code / 2 ^ 16) }

/-- One entry appended (15 R511). -/
def State.logFault (s : State) (e : FaultRec) : State :=
  let i := s.f F.rasFlogStatus_NEXT 0
  let seq := s.ras.logSeq + 1
  let words : List Nat :=
    [e.code + e.part * 2 ^ 16 + (e.ctx + e.source * 16) * 2 ^ 24, e.core % 2 ^ 16,
     s.tun.num.toNat % 2 ^ 32, s.tun.num.toNat / 2 ^ 32, e.addr.toNat % 2 ^ 32, e.addr.toNat / 2 ^ 32,
     e.info.toNat, seq % 2 ^ 32]
  let s := { s with ras := { s.ras with logSeq := seq } }
  let s := (words.zipIdx).foldl (fun s w => s.rset .rasFlog (8 * i + w.2) (BitVec.ofNat 32 w.1)) s
  let s := s.setF F.rasFlogStatus_NEXT 0 ((i + 1) % 64)
  if 64 < seq then s.setF F.rasFlogStatus_LOST 0 (min 0xFFFF (s.f F.rasFlogStatus_LOST 0 + 1)) else s

/-! ### Teardown (11 R403, R404; 12 R434; 15 R510) -/

def CtxSt.reset : CtxSt :=
  { tasks := [], ran := 0, switching := [], saved := [], resident := [], draining := false,
    returning := [] }

def State.ctx (s : State) (key : Nat) : CtxSt := SMap.get CtxSt.reset s.tun.ctxs key

def State.setCtx (s : State) (key : Nat) (x : CtxSt) : State :=
  { s with tun := { s.tun with ctxs := SMap.set CtxSt.reset s.tun.ctxs key x } }

/-- TUN_CTX.STATE with the RUNNING bit of TUN_PART_CTXMASK beside it (11 R411, R412). -/
def State.setCtxState (s : State) (key st : Nat) : State :=
  let s := s.setF F.tunCtx_STATE key st
  let m := s.f F.partCtxmask_RUNNING (key / 16)
  let b := 2 ^ (key % 16)
  s.setF F.partCtxmask_RUNNING (key / 16)
    (if st == 2 then m ||| b else if m / b % 2 == 1 then m - b else m)

/-- The tags of a context's resident groups. -/
def State.ctxTags (s : State) (part ctx : Nat) : List Nat :=
  (s.co.groups.filter (fun e => e.1 < 256 * 64 && e.2.part == part && e.2.ctx == ctx)).map (fun e => e.2.gtag)

/-- Queued engine instructions of a set of groups are discarded; one in progress stays until it
completes, its result then discarded (11 R403). -/
def dropQueued (tags : List Nat) (q : List MatCmd) : List MatCmd :=
  q.filter (fun m => m.started || !tags.contains m.gtag)

/-- Tile-mover commands of a context start no further transfer and post nothing, and those with none in flight are
dropped (11 R403, 06 R223). -/
def dropTransfers (part ctx : Nat) (q : List TmCmd) : List TmCmd :=
  (q.filter (fun c => !(c.part == part && c.ctx == ctx) || !c.xfers.isEmpty)).map (fun c =>
    if c.part == part && c.ctx == ctx then { c with total := c.cursor, faulted := true } else c)

/-- The phase hints of a context lapse (14 R504). -/
def State.dropHints (s : State) (part ctx : Nat) : State :=
  { s with tun := { s.tun with hints := s.tun.hints.filter (fun h => h.part != part || h.ctx != ctx) } }

/-- Everything of a context on the cores stops, and its slots and granules are freed (11 R403). -/
def State.stopContext (s : State) (part ctx : Nat) : State :=
  let tags := s.ctxTags part ctx
  let held := (s.ctx (16 * part + ctx)).resident
  let s := s.dropHints part ctx
  { s with co := { s.co with
      groups := SMap.keep (fun k g => !(k < 256 * 64 && g.part == part && g.ctx == ctx)) s.co.groups
      cores := SMap.mapVals (fun k c =>
        { c with me0 := dropQueued tags c.me0, me1 := dropQueued tags c.me1,
                 me2 := dropQueued tags c.me2, me3 := dropQueued tags c.me3,
                 tm := dropTransfers part ctx c.tm,
                 arrivals := if held.contains k then [] else c.arrivals }) s.co.cores } }

/-- The statuses of a torn-down context's commands, in ring order: the oldest started one takes the
code, every other 0x030D (12 R434). A record whose write stalls is written later, one whose write faults is lost
(log entry 19). -/
def State.endCommands (s : State) (key code : Nat) : State :=
  let first := ((s.ring key).cmds.find? (fun c => c.started && c.ended.isNone)).map RingCmd.idx
  let (left, s) := (s.ring key).cmds.foldl (fun (x : List RingCmd × State) c =>
    let status := c.ended.getD (if first == some c.idx then code else 0x030D)
    match x.2.putRecord key c status with
    | .ok t => (x.1, t)
    | .error 0 => (x.1 ++ [{ c with started := true, ended := some status }], x.2)
    | .error _ => x) ([], s)
  s.setRing key { s.ring key with
    cmds := left
    stalled := 0
    fetched := (s.pair .ringHeadLo .ringHeadHi key).toNat }

/-- The teardown of a context (11 R403): `ringError` puts its ring in ERROR (12 R424, R427). A context
already FAULTED is not changed (11 R404), and partition 0 runs no context (11 R383). -/
def State.teardown (s : State) (e : FaultRec) (ringError : Bool) : State :=
  let e := e.plain
  let key := 16 * e.part + e.ctx
  if e.part == 0 || s.f F.tunCtx_STATE key == 5 then s
  else
    let s := s.stopContext e.part e.ctx
    let x := s.ctx key
    let s := s.setCtx key { CtxSt.reset with draining := true, returning := x.resident ++ x.returning }
    let s := (s.setCtxState key 5).setF F.tunCtx_FAULT key e.code
    let s := s.setF F.partCtxmask_FAULTED e.part (s.f F.partCtxmask_FAULTED e.part ||| 2 ^ e.ctx)
    let s := s.endCommands key e.code
    let s := if ringError || s.f F.ringStatus_STATE key == 3 then s.setF F.ringStatus_STATE key 3
      else s.setF F.ringStatus_STATE key 2
    let s := if e.code == 0 then s else s.logFault e
    s.msix (s.instanceOf e.part) 0

/-- A core's record of its first fault (04 R147, R148). -/
def State.recordCore (s : State) (core slot code lane : Nat) (info : W32) (pc : W64) : State :=
  if s.b F.coreFaultStatus_VALID core then s.setF F.coreFaultStatus_MORE core 1
  else
    let info := if code < 2 ^ 16 then info else BitVec.ofNat 32 (code / 2 ^ 16)
    let w := code % 2 ^ 16 + slot * 2 ^ 16 + lane * 2 ^ 22 + 2 ^ 31 + s.f F.coreFaultStatus_MORE core * 2 ^ 30
    ((s.rset .coreFaultStatus core (BitVec.ofNat 32 w)).setPair .coreFaultPcLo .coreFaultPcHi core pc).rset
      .coreFaultInfo core info

/-- What CORE_FAULT_INFO takes: the spec states none for the tile faults other than 0x0107, so there
it is a free value (log entry 24). -/
def State.faultInfo (s : State) (code : Nat) (info : W32) : W32 × State :=
  if code / 256 == 1 && code != 0x0107 then (s.draw.1.truncate 32, s.draw.2) else (info, s)

/-- A fault raised by an instruction of a group or a command processor: recorded, and its context
torn down (04 R147, 15 R510). -/
def State.raise (s : State) (i : Issuer) (code lane : Nat) (info : W32) : State :=
  match s.group? i with
  | none => s
  | some g =>
    let (info, s) := s.faultInfo code info
    match i with
    | .group core slot =>
      (s.recordCore core slot code lane info g.pc).teardown ⟨code, g.part, g.ctx, 0, core, g.pc, info⟩ false
    | .cp _ part ctx => s.teardown ⟨code, part, ctx, 3, 0xFFFF, g.pc, info⟩ false

/-- A fault of work that a group issued earlier (an engine instruction, a tile-mover command, an
access in flight): the slot and address are those it was issued with (15 R510). -/
def State.raiseLate (s : State) (core slot part ctx code lane source : Nat) (info : W32) (pc : W64) : State :=
  let (info, s) := s.faultInfo code info
  if s.f F.tunCtx_STATE (16 * part + ctx) == 5 then s
  else (s.recordCore core slot code lane info pc).teardown ⟨code, part, ctx, source, core, pc, info⟩ false

/-- A fault of a ring command or a copy engine (15 R511 sources 2 and 5). -/
def State.raiseRing (s : State) (key code source : Nat) (addr : W64) (info : W32) (ringError : Bool) : State :=
  let (info, s) := s.faultInfo code info
  s.teardown ⟨code, key / 16, key % 16, source, 0xFFFF, addr, info⟩ ringError

/-! ### Updates of the Ploro tables (16 R551) -/

/-- The generation of a table; 0 is the physical function's. -/
def State.gen (s : State) (part : Nat) : W64 := SMap.get 0 s.ras.gens part

/-- An update of the device's table and those of some partitions, where they have been built: GEN goes
2 up (16 R551). -/
def State.ploro (s : State) (parts : List Nat) : State :=
  ((0 :: parts).eraseDups).foldl (fun s p =>
    if s.ras.tables.contains p then
      { s with ras := { s.ras with gens := SMap.set 0 s.ras.gens p (s.gen p + 2) } }
    else s) s

/-! ### The service request (15 R532, R533) -/

/-- The words of a register array that differ from their reset value. -/
def State.words (s : State) (r : Reg) : List (Nat × W32) :=
  let lo := r.key 0
  (s.regs.filter (fun e => lo ≤ e.1 && e.1 < lo + 2 ^ 24)).map (fun e => (e.1 - lo, e.2))

/-- Whether some logical core is absent or fenced without a spare, once boot has placed the cores. -/
def State.coreLost (s : State) : Bool :=
  !s.boot.passed.isEmpty &&
    (List.range 256).any (fun c => !s.corePresent c || s.fenced c)

/-- RAS_SVC_CAUSE as it reads (15 R534): a bad repair or margin record of the boot flash shows too (17 R580). -/
def State.svcCause (s : State) : Nat :=
  let w1c := (s.rget .rasSvcCause 0).toNat
  let b (k : Nat) (x : Bool) : Nat := if x then 2 ^ k else 0
  let d2d := s.words .d2dStatus
  let ports := s.words .portStatus
  b 0 s.coreLost + (if w1c / 2 % 2 == 1 then 2 else 0) +
    b 2 ((s.words .rasWayAdvise).any (fun w => w.2 != 0)) +
    b 3 ((s.words .stackPcStatus).any (fun w => bitsOf w.2 F.stackPcStatus_ADVISE.lo 1 == 1) || s.boot.badRepairs) +
    b 4 (d2d.any (fun w => bitsOf w.2 0 3 == 3 || bitsOf w.2 0 3 == 4)) +
    b 5 (!s.ras.isolated.isEmpty || d2d.any (fun w => bitsOf w.2 0 3 == 5)) +
    b 6 (ports.any (fun w => bitsOf w.2 0 3 == 3 || bitsOf w.2 0 3 == 4) ||
      (s.words .portLanes).any (fun w => bitsOf w.2 16 10 != 0x3FF)) +
    b 7 (s.b F.pwrFlags_MARGIN_LIMIT 0 || s.boot.badMargins) +
    b 8 (s.f F.kegStatus_BAD 0 != 0 || s.b F.secFlags_IDX_LOW 0 || s.b F.secStatus_EXHAUSTED 0) +
    (if w1c / 2 ^ 9 % 2 == 1 then 2 ^ 9 else 0)

/-- Whether boot is on its way: service status shows as it completes (17 R579). -/
def State.booting (s : State) : Bool := 1 ≤ s.boot.step && s.boot.step ≤ 7

/-- RAS_SVC_STATUS.SR (15 R533). -/
def State.svcRequest (s : State) : Bool :=
  !s.booting && s.svcCause &&& (1023 - s.f F.rasSvcMask_MASK 0) != 0

/-- RAS_SVC_STATUS.DEGRADED (15 R532). -/
def State.degraded (s : State) : Bool :=
  !s.booting && (s.coreLost || (s.words .hbmCtlRetired).any (fun w => w.2 != 0) ||
    s.svcCause / 2 ^ 4 % 4 != 0 ||
    (s.words .portStatus).any (fun w => bitsOf w.2 0 3 == 3 || bitsOf w.2 0 3 == 4) ||
    (s.words .clFmax).any (fun w => bitsOf w.2 0 13 < 4000))

/-- FAULT_N is asserted while any claimant asserts it (15 R531): safe state, clock event, mirror of
SR, the thermal safe state and a halted boot (17 R579). -/
def State.faultAsserted (s : State) : Bool :=
  s.b F.clkStatus_SAFE 0 || s.b F.clkFlags_SRCFAIL 0 || (s.b F.rasCtrl_ENABLE 0 && s.b F.rasCfg_SR_FAULTN 0 && s.svcRequest) ||
    s.boot.thermal || s.boot.halted

/-- What follows when causes may have changed between two states: a rise of SR raises vector 0 of the physical
function (15 R533). -/
def State.service (before after : State) : State :=
  if !before.svcRequest && after.svcRequest then after.msix 0 0 else after

/-! ### How a command is answered -/

/-- The pins that follow the state: FAULT_N its claimants (15 R531), MGMT_ALERT_N the service request and
THERMTRIP_N (17 R574). -/
def State.pins (s : State) : State :=
  { s with boot := { s.boot with
    faultN := s.faultAsserted
    alertN := s.boot.aux && (s.svcRequest || s.boot.thermtripN) } }

/-- The answer to a command at state `s`, whose effect is `t`: the next state, with its pins as they follow from
it. DESIGN CHOICE (log entry 11): an event that does not take place where the machine stands (its precondition `pre`
is false), or whose operands name nothing (`wf` is false), changes nothing. -/
def reply (wf pre : Bool) (s t : State) : Host.Outcome State Fault Refusal :=
  .next (if wf && pre then t else s).pins

/-- The answer to a command whose operands Instr.wf judges. -/
def command (c : Instr) (pre : Bool) (s t : State) : Host.Outcome State Fault Refusal := reply c.wf pre s t

end Sys2Proof.Machine
end

