-- ==== Sys2Proof/Machine/Issue.lean ====
section
/-!
DEFINITION. Issuing an instruction of a group or a command processor (04 R114, R123, R126; 05 R158,
R160, R187): who may issue, what a fence waits for, which registers are busy, and the checks every
one-word instruction makes before it acts.
-/
namespace Sys2Proof.Machine

/-! ### Words in engine queues -/

/-- The matrix queue of an engine. -/
def CoreSt.me (c : CoreSt) (k : Nat) : List MatCmd :=
  match k with
  | 0 => c.me0
  | 1 => c.me1
  | 2 => c.me2
  | _ => c.me3

def CoreSt.setMe (c : CoreSt) (k : Nat) (q : List MatCmd) : CoreSt :=
  match k with
  | 0 => { c with me0 := q }
  | 1 => { c with me1 := q }
  | 2 => { c with me2 := q }
  | _ => { c with me3 := q }

/-- Every queued matrix instruction of a core. -/
def CoreSt.mats (c : CoreSt) : List MatCmd := c.me0 ++ c.me1 ++ c.me2 ++ c.me3

/-- ROLE of a handle (06 R200). -/
def hRole (h : BitVec 128) : Nat := h.toNat / 2 ^ 92 % 4

/-- The vector registers that a queued matrix instruction reads or writes (04 R126; 06 R211, R212,
R217): accumulator sets and a register operand A, as (first, count) pairs. -/
def MatCmd.regs (m : MatCmd) : List (Nat × Nat) :=
  let t := tForm m.w0 m.w1
  match classOf m.w0 with
  | some .mma =>
    let span := if fnOf m.w0 == 4 then 64 else 32
    (32 * t.as, span) :: (if t.ar then [(t.vr, span)] else [])
  | some .accw => [(32 * t.as, 32 * (t.kt + 1) * (if hRole m.td == 1 then 2 else 1))]
  | _ => []

/-- Whether a register range meets another. -/
def overlaps (a n b m : Nat) : Bool := a < b + m && b < a + n

/-! ### Who may issue -/

/-- Whether a tile-mover command reads or writes Local space, at a tile, an operand or its completion word (06 R221,
R222, R233). -/
def TmCmd.touchesLocal (c : TmCmd) : Bool :=
  let t := tForm c.w0 c.w1
  let space (h : BitVec 128) : Nat := h.toNat / 2 ^ 86 % 4
  match opcOf c.w0 with
  | 0xE0 | 0xE1 => space c.td == 0 || space c.ta == 0 || t.opt % 4 == 1
  | 0xE2 => true
  | _ => t.opt % 4 == 1

/-- The waits of a fence of a group that are still open (05 R187, R188; 04 R132): bit 0 LOCAL, bit 1
GLOBAL, bit 2 ENGINE, and 8 the group barrier. Local accesses perform as they issue, but for those of queued matrix
instructions and tile-mover commands. -/
def State.fenceOpen (s : State) (i : Issuer) (g : Group) (arg : Nat) : Bool :=
  let mine := s.co.accesses.filter (fun e => e.2.who == i && e.2.gtag == g.gtag)
  let c := s.core i.core
  let mats := c.mats.any (fun m => m.gtag == g.gtag)
  (arg / 2 % 2 == 1 && mine.any (fun e => e.2.isStore)) ||
    (arg / 4 % 2 == 1 && (mats || c.tm.any (fun t => t.gtag == g.gtag))) ||
    (8 ≤ arg && (mats || !mine.isEmpty || c.tm.any (fun t => t.gtag == g.gtag && t.touchesLocal)))

/-- Whether a group's wait allows its next instruction to be tried. -/
def State.waitOver (s : State) (i : Issuer) (g : Group) : Bool :=
  match g.wait with
  | .none => true
  | .operand => true
  | .fence arg => !s.fenceOpen i g arg
  | _ => false

/-- Whether the cores issue at all: beats run, no clock safe state (11 R376, 14 R495). -/
def State.issuing (s : State) : Bool :=
  s.b F.beatCtrl_ENABLE 0 && !s.b F.clkStatus_SAFE 0 && !s.boot.thermal

/-- Whether the clock switch of a core's cluster lets it issue (14 R494). -/
def State.coreClocked (s : State) (core : Nat) : Bool :=
  let n := s.physIdx core / 9
  s.domStage n != .held && !s.domStopped n

/-- Whether a core issues: present, enabled, not held, not fenced, clocked (04 R148, 15 R517). -/
def State.coreIssues (s : State) (core : Nat) : Bool :=
  s.issuing && s.corePresent core && !s.fenced core && s.b F.coreCtrl_ENABLE core &&
    !s.b F.coreCtrl_ISSUE_HOLD core && s.coreClocked core

/-- Whether an issuer may issue its next instruction (04 R123, 11 R393; 12 intro: command processor
(16p + c) mod 8 serves context c of partition p). -/
def State.canIssue (s : State) (i : Issuer) : Bool :=
  match s.group? i with
  | none => false
  | some g =>
    match i with
    | .group core _ =>
      s.coreIssues core && s.b F.tunCtx_ENABLE (16 * g.part + g.ctx) &&
        s.f F.tunCtx_STATE (16 * g.part + g.ctx) == 2 && s.waitOver i g
    | .cp n part ctx =>
      (16 * part + ctx) % 8 == n && !s.domStopped 61 && s.waitOver i g &&
        (part == 0 || (s.b F.tunCtx_ENABLE (16 * part + ctx) && s.f F.tunCtx_STATE (16 * part + ctx) != 5))

/-! ### Busy registers (04 R126, 05 R185) -/

/-- Whether a vector register range is busy for a group. -/
def State.busyV (s : State) (i : Issuer) (g : Group) (r n : Nat) : Bool :=
  s.co.accesses.any (fun e => e.2.who == i && e.2.gtag == g.gtag && !e.2.scalar &&
    e.2.regs.any (fun x => r ≤ x && x < r + n)) ||
  (s.core i.core).mats.any (fun m => m.gtag == g.gtag && m.regs.any (fun p => overlaps r n p.1 p.2))

/-- Whether a scalar register is busy for a group: a scalar load from another node. -/
def State.busyS (s : State) (i : Issuer) (g : Group) (r : Nat) : Bool :=
  s.co.accesses.any (fun e => e.2.who == i && e.2.gtag == g.gtag && e.2.scalar && !e.2.isStore &&
    e.2.vd == r)

/-- The scalar registers a one-word instruction names (05 R157). -/
def wordScalars (w : W64) : List Nat :=
  match opcOf w with
  | 0x01 =>
    match fnOf w with
    | 4 | 5 | 7 => [fld w 20 6]
    | 6 => [fld w 26 6]
    | _ => []
  | 0x02 => if fnOf w == 4 || fnOf w == 5 then [fld w 23 6] else []
  | 0x10 => [fld w 17 6, fld w 23 6] ++ (if bitOf w 16 then [] else [fld w 29 6])
  | 0x24 =>
    if fnOf w == 4 || fnOf w == 5 then [fld w 28 6]
    else if bitOf w 25 then [fld w 44 6] else []
  | 0x20 | 0x21 | 0x22 | 0x30 | 0x31 | 0x32 => if bitOf w 25 then [fld w 44 6] else []
  | 0x40 => if bitOf w 28 then [fld w 29 6, fld w 37 6] else []
  | _ => []

/-- Whether a one-word instruction names a busy register. -/
def State.busyWord (s : State) (i : Issuer) (g : Group) (w : W64) : Bool :=
  (wordOperands w).any (fun o => s.busyV i g o.reg o.count) || (wordScalars w).any (s.busyS i g)

/-! ### Issue -/

/-- CORE_FAULT_INFO of register faults (04 R148, 05 R196). -/
def regInfo (g : Group) (r : Nat) : W32 := BitVec.ofNat 32 (r % 256 + g.rpt * 256)

/-- Counter j of a group's core advanced, on its partition's account (04 R150, R151). -/
def State.countCore (s : State) (i : Issuer) (j n : Nat) : State :=
  match i, s.group? i with
  | .group core _, some g => (s.bump .coreEvtLo .coreEvtHi (core * 8 + j) n).credit g.part (core * 8 + j) n
  | _, _ => s

/-- The instruction counted as issued (04 R150). -/
def State.countIssue (s : State) (i : Issuer) : State := s.countCore i 0 1

/-- The register check of an instruction: 0x0402 before 0x0404 (04 R114, 05 R155; log entry 20). -/
def regFault (g : Group) (ops : List VOperand) : Option (Nat × Nat) :=
  match beyondRpt g.rpt ops with
  | some r => some (0x0402, r)
  | none =>
    match misalignedReg ops with
    | some r => some (0x0404, r)
    | none => none

/-- The group stalls at its instruction until a register or a queue entry is free (04 R124, R126). -/
def State.stall (s : State) (i : Issuer) (g : Group) : State := s.setGroup i { g with wait := .operand }

/-- Issues a one-word instruction: a reserved encoding or one outside a command processor's subset
raises 0x0401, the register checks follow, a busy register stalls the group, else `act` gives the
effect (05 R158, R160; 04 R114, R126). -/
def State.issue (s : State) (i : Issuer) (w : W64) (act : Group → State) : State :=
  match s.group? i with
  | none => s
  | some g0 =>
    let g := { g0 with wait := .none }
    if !legalOne w || (i.isCp && !cpSubset w) then
      ((s.countIssue i).setGroup i g).raise i 0x0401 0xFF (w.truncate 32)
    else
      match regFault g (wordOperands w) with
      | some (code, r) => ((s.countIssue i).setGroup i g).raise i code 0xFF (regInfo g r)
      | none =>
        if s.busyWord i g w then s.stall i g
        else (act g)

/-- The group goes on to its next one-word instruction. -/
def Group.advance (g : Group) : Group := { g with pc := g.pc + 8 }

/-- The effect of an instruction that changes only its group: the new group, past the instruction. -/
def State.retire (s : State) (i : Issuer) (g : Group) : State := (s.countIssue i).setGroup i g.advance

/-- A one-word instruction whose effect is on its group alone. -/
def State.issueLocal (s : State) (i : Issuer) (w : W64) (f : Group → Group) : State :=
  s.issue i w (fun g => s.retire i (f g))

/-- A faulting instruction: the program counter stays at it. -/
def State.refuse (s : State) (i : Issuer) (g : Group) (code lane : Nat) (info : W32) : State :=
  ((s.countIssue i).setGroup i g).raise i code lane info

/-! ### Ending groups, tasks on a core, barriers (04 R127, R133, R134; 11 R396) -/

/-- The groups of one task instance on a core that have not ended. -/
def State.taskGroups (s : State) (core : Nat) (g : Group) : List (Nat × Group) :=
  s.co.groups.filter (fun e => e.1 / 64 == core && e.1 < 256 * 64 && e.2.part == g.part &&
    e.2.ctx == g.ctx && e.2.task == g.task && e.2.inst == g.inst)

/-- The place of a core barrier's count: task, instance, barrier (04 R133). -/
def barKey (g : Group) (b : Nat) : Nat := (g.task * 512 + g.inst) * 4 + b

/-- Releases a core barrier whose arrivals equal its participants (04 R134). -/
def State.tryRelease (s : State) (core : Nat) (g : Group) (b : Nat) : State :=
  let c := s.core core
  let n := SMap.get 0 c.arrivals (barKey g b)
  let mates := s.taskGroups core g
  if n != 0 && mates.length ≤ n then
    let s := s.setCore core { c with arrivals := SMap.drop c.arrivals (barKey g b) }
    let wake (k : Nat) (x : Group) : Group :=
      if mates.any (fun m => m.1 == k) && x.wait == .barrier b then { x with wait := .none } else x
    { s with co := { s.co with groups := SMap.mapVals wake s.co.groups } }
  else s

/-- The AKEY of the core slot that a task instance has on a core, kept in its live list. -/
def State.akeyOf (s : State) (g : Group) (core : Nat) : Nat :=
  match (s.ctx (16 * g.part + g.ctx)).tasks.find? (fun t => t.n == g.task && t.inst == g.inst) with
  | some t => ((t.live.find? (fun l => l.1 == core)).map Prod.snd).getD 0
  | none => 0

/-- A group has ended: its slot and granules are free, its task's barriers count one participant
fewer, and the last group of a task on a core leaves the affinity record (04 R127, R134; 11 R396). -/
def State.endGroup (s : State) (i : Issuer) (g : Group) : State :=
  let core := i.core
  let akey := s.akeyOf g core
  let s := { s with co := { s.co with groups := SMap.drop s.co.groups i.key } }
  let s := [0, 1, 2, 3].foldl (fun s b => s.tryRelease core g b) s
  let key := 16 * g.part + g.ctx
  let s := if s.co.groups.any (fun e => e.1 / 64 == core && e.2.part == g.part && e.2.ctx == g.ctx) then s
    else s.setCtx key { s.ctx key with resident := (s.ctx key).resident.filter (· != core) }
  if (s.taskGroups core g).isEmpty then
    s.setCore core { s.core core with affinity := some (g.part, g.ctx, akey) }
  else s

end Sys2Proof.Machine
end

