-- ==== Sys2Proof/Machine/Flags.lean ====
section
/-!
DEFINITION. The floating-point status of a group (02 R60, R61; 05 R191) and the stochastic generators
of a core (02 R57 to R59, 05 R192).
-/
namespace Sys2Proof.Machine

/-- Whether an earlier instruction of the group that can set a flag has not completed (05 R191): a
floating-point atomic in flight, an engine instruction, a tile-mover command. -/
def State.flagsPending (s : State) (i : Issuer) (g : Group) : Bool :=
  s.co.accesses.any (fun e => e.2.who == i && e.2.gtag == g.gtag && e.2.fp) ||
    (s.core i.core).mats.any (fun m => m.gtag == g.gtag) ||
    (s.core i.core).tm.any (fun c => c.gtag == g.gtag)

/-- The status as FSR writes it (05 R191). -/
def Group.status (g : Group) : W64 := g.fp.setWidth 64

/-- The generator of an engine: ME0 to ME3, VE0, VE1, the tile mover as 0 to 6. -/
def CoreSt.gen (c : CoreSt) (e : Nat) : W64 := c.gens.getD e genReset

def CoreSt.setGen (c : CoreSt) (e : Nat) (v : W64) : CoreSt := { c with gens := c.gens.set e v }

/-- The generator of the vector engine that executes a group's vector instructions (04 R124). -/
def veOf : Issuer → Nat
  | .group _ slot => 4 + slot % 2
  | .cp _ _ _ => 4

/-- The queue entry of a SEED in a matrix engine (05 R192, 04 R125). -/
def seedEntry (slot : Nat) (g : Group) (w v : W64) : MatCmd :=
  { slot := slot, gtag := g.gtag, pc := g.pc, w0 := w, w1 := 0, td := 0, td2 := 0, ta := 0, ta2 := 0,
    tb := 0, tb2 := 0, seed := some v, started := false, wait := ⟨none, none⟩, held := none }

/-- The queue entry of a SEED in the tile mover. -/
def seedCommand (id slot : Nat) (g : Group) (w v : W64) : TmCmd :=
  { id := id, slot := slot, gtag := g.gtag, part := g.part, ctx := g.ctx, task := g.task, inst := g.inst,
    pc := g.pc, w0 := w, w1 := 0, td := 0, ta := 0, sa := v, sb := 0, sc := 0, sd := 0, total := 0,
    cursor := 0, begun := false, faulted := false, draws := 0, used := 0, xfers := [] }

/-- Seeds at the head of a matrix queue take effect. -/
def drainSeeds (e : Nat) (c : CoreSt) : List MatCmd → CoreSt
  | [] => c.setMe e []
  | m :: q =>
    match m.seed with
    | some v => drainSeeds e (c.setGen e (genSeed v)) q
    | none => c.setMe e (m :: q)

/-- Seeds of the tile mover's queue take effect once every transfer of the commands before them has
started (05 R192, 06 R226). -/
def settleSeeds (c : CoreSt) : List TmCmd → List TmCmd → CoreSt
  | kept, [] => { c with tm := kept }
  | kept, m :: q =>
    if opcOf m.w0 == 1 then settleSeeds (c.setGen 6 (genSeed m.sa)) kept q
    else if m.cursor < m.total then { c with tm := kept ++ m :: q }
    else settleSeeds c (kept ++ [m]) q

def drainTmSeeds (c : CoreSt) (q : List TmCmd) : CoreSt := settleSeeds c [] q

/-- A seed sent to one engine: a vector engine takes it at once, the others through their queue. -/
def State.seedEngine (s : State) (core slot : Nat) (g : Group) (w v : W64) (e : Nat) : State :=
  let c := s.core core
  if e == 4 || e == 5 then s.setCore core (c.setGen e (genSeed v))
  else if e == 6 then
    let s := { s with co := { s.co with nextCmd := s.co.nextCmd + 1 } }
    s.setCore core (drainTmSeeds c (c.tm ++ [seedCommand s.co.nextCmd slot g w v]))
  else s.setCore core (drainSeeds e c (c.me e ++ [seedEntry slot g w v]))

/-- Whether an engine's queue has room (04 R124). -/
def CoreSt.room (c : CoreSt) (e : Nat) : Bool :=
  if e < 4 then (c.me e).length < 4 else if e == 6 then c.tm.length < 64 else true

end Sys2Proof.Machine
end

