-- ==== Sys2Proof/Machine/TileMem.lean ====
section
/-!
DEFINITION. Tiles in Local, Near and Global space (03 R82 to R105; 06 R200, R208, R584; 13 R475 to
R477): where a handle's tile lies, the verifying read and the writer order.
-/
namespace Sys2Proof.Machine

/-! ### Local space (03 R86, R87; 05 R180) -/

def LocalTag.reset : LocalTag := ⟨0, 0, 0⟩

/-- The tag-array entry of a granule of a core's Local space. -/
def State.localTag (s : State) (core g : Nat) : LocalTag := SMap.get LocalTag.reset s.mem.tags (core * 1024 + g)

def State.setLocalTag (s : State) (core g : Nat) (t : LocalTag) : State :=
  { s with mem := { s.mem with tags := SMap.set LocalTag.reset s.mem.tags (core * 1024 + g) t } }

/-- A granule of another partition is zeroed with its entry and takes the writer's tag (05 R180; for
tile writes log entry 21). -/
def State.takeGranule (s : State) (core part g : Nat) : State :=
  if (s.localTag core g).part == part then s
  else
    ({ s with mem := { s.mem with loc := Memory.clear s.mem.loc (core * 2 ^ 22 + g * 4096) 4096 } }).setLocalTag
      core g ⟨0, 0, part⟩

/-- Local bytes as a partition reads them: zero where the granule's tag differs (05 R180). -/
def State.localRead (s : State) (core part a n : Nat) : List Byte :=
  (List.range n).map (fun k =>
    if (s.localTag core ((a + k) / 4096)).part == part then Memory.read s.mem.loc (core * 2 ^ 22 + a + k) else 0)

/-- The granules that bytes from `a` on touch. -/
def granulesOf (a n : Nat) : List Nat :=
  if n == 0 then [] else (List.range ((a + n - 1) / 4096 + 1 - a / 4096)).map (· + a / 4096)

/-- Local bytes written by a partition. -/
def State.localWrite (s : State) (core part a : Nat) (d : List Byte) : State :=
  let s := (granulesOf a d.length).foldl (fun s g => s.takeGranule core part g) s
  { s with mem := { s.mem with loc := Memory.writeN s.mem.loc (core * 2 ^ 22 + a) d } }

/-! ### Handles (06 R200) -/

def hf (h : BitVec 128) (lo n : Nat) : Nat := h.toNat / 2 ^ lo % 2 ^ n

def hAddr (h : BitVec 128) : W64 := BitVec.ofNat 64 (hf h 0 64)
def hScl (h : BitVec 128) : Nat := hf h 64 22
def hSpace (h : BitVec 128) : Nat := hf h 86 2
def hFormat (h : BitVec 128) : Nat := hf h 88 4
def hVrows (h : BitVec 128) : Nat := hf h 94 5
def hVcols (h : BitVec 128) : Nat := hf h 99 8
def hNv (h : BitVec 128) : Bool := h.getLsbD 107
def hDr (h : BitVec 128) : Bool := h.getLsbD 108
def hOpen (h : BitVec 128) : Bool := h.getLsbD 109
def hOgen (h : BitVec 128) : Nat := hf h 110 16

/-- A handle with its OPEN and OGEN fields set. -/
def hSetOpen (h : BitVec 128) (o : Bool) (gen : Nat) : BitVec 128 :=
  BitVec.ofNat 128 (h.toNat % 2 ^ 109 + (if o then 2 ^ 109 else 0) + gen % 65536 * 2 ^ 110 + h.toNat / 2 ^ 126 * 2 ^ 126)

/-! ### Where a tile lies -/

/-- A tile by space, format, payload address and scale-lane offset (06 R200, R208). -/
structure TLoc where
  space : Nat
  tf : Nat
  addr : W64
  sofs : Int
  deriving DecidableEq, Repr

/-- The tile of a handle's run at a payload offset and a scale-lane offset in bytes. -/
def hTile (h : BitVec 128) (payload scale : Int) : TLoc :=
  ⟨hSpace h, hFormat h, hAddr h + BitVec.ofInt 64 payload, (hScl h * 256 : Nat) + scale⟩

/-- Tile k of a run of an engine instruction (06 R208). -/
def hRun (h : BitVec 128) (k : Nat) : TLoc :=
  hTile h ((k * tilePayload (hFormat h) : Nat) : Int) ((256 * k : Nat) : Int)

/-- The base of the region, window or Local space that holds a tile. -/
def TLoc.base (l : TLoc) : W64 := if l.space == 0 then 0 else l.addr >>> 30 <<< 30

/-- The payload's offset in it. -/
def TLoc.ofs (l : TLoc) : Nat := if l.space == 0 then l.addr.toNat else l.addr.toNat % 2 ^ 30

/-- Placement (03 R83, R84; 06 R208). -/
def TLoc.placed (l : TLoc) : Bool :=
  (l.space != 1 || l.addr.toNat < 2 ^ 32) && (!tileIsMx l.tf || 0 ≤ l.sofs) &&
    placedAt (if l.space == 0 then localSize else regionPayloadEnd) l.tf l.ofs l.sofs.toNat

/-- The address of the header entry in Near and Global space (03 R82). -/
def TLoc.hdrAddr (l : TLoc) : W64 := l.base + BitVec.ofNat 64 (0x3FC00000 + 16 * (l.ofs / 4096))

/-- The address of the scale lane. -/
def TLoc.sclAddr (l : TLoc) : W64 := l.base + BitVec.ofInt 64 l.sofs

/-- The granule of a Local tile's header. -/
def TLoc.granule (l : TLoc) : Nat := l.ofs / 4096

/-! ### Lines of Near and Global space -/

/-- The line of an address of Near or this device's Global space; the error is a fault code, 0 for a
stall. -/
def State.lineOf (s : State) (part space : Nat) (a : W64) (u : Use) : Except Nat (Nat × State) :=
  if space == 1 then
    match s.nearLine part a.toNat with
    | .error c => .error c
    | .ok l => .ok (l, s)
  else
    match s.translate part a u with
    | .stall => .error 0
    | .fault c => .error c
    | .at (.own _ ofs) => .ok (gLine ofs, s.noteXlat part a)
    | .at (.remote _ _ _) => .error 0x0212
    | .at (.regs _ _) => .error 0x0213

/-- The lines of `k` lines' bytes from an address on. -/
def State.linesOf (part space : Nat) (u : Use) : Nat → W64 → State → Except Nat (List Nat × State)
  | 0, _, s => .ok ([], s)
  | k + 1, a, s =>
    match s.lineOf part space a u with
    | .error c => .error c
    | .ok (l, s) =>
      match State.linesOf part space u k (a + 128) s with
      | .error c => .error c
      | .ok (ls, s) => .ok (l :: ls, s)

/-- The lines of a tile: header, payload, scale lane. -/
structure TileLines where
  hdr : Nat
  hofs : Nat
  pay : List Nat
  scl : List Nat
  deriving DecidableEq, Repr

/-- A tile whose payload and scale lane lie in the physical region of its header (12 R437 step 5). -/
def TileLines.oneRegion (t : TileLines) : Bool :=
  (t.pay ++ t.scl).all (fun l => l / 2 ^ 23 == t.hdr / 2 ^ 23)

/-- The lines of a tile; fault 0x0206 where the translation takes its payload and header to different
regions. -/
def State.tileLines (s : State) (part : Nat) (l : TLoc) (u : Use) : Except Nat (TileLines × State) :=
  match s.lineOf part l.space l.hdrAddr u with
  | .error c => .error c
  | .ok (h, s) =>
    match State.linesOf part l.space u (tilePayload l.tf / 128) l.addr s with
    | .error c => .error c
    | .ok (p, s) =>
      match State.linesOf part l.space u (if tileIsMx l.tf then 2 else 0) l.sclAddr s with
      | .error c => .error c
      | .ok (c, s) =>
        let t : TileLines := ⟨h, l.hdrAddr.toNat % 128, p, c⟩
        if l.space == 1 || t.oneRegion then .ok (t, s) else .error 0x0206

/-- Non-allocating reads of whole lines in order. -/
def State.readLines : List Nat → State → Except Nat (List Byte × State)
  | [], s => .ok ([], s)
  | l :: ls, s =>
    match s.naRead l with
    | .error c => .error c
    | .ok (d, s) =>
      match State.readLines ls s with
      | .error c => .error c
      | .ok (ds, s) => .ok (d ++ ds, s)

/-- Non-allocating writes of whole lines in order. -/
def State.writeLines : List Nat → List Byte → State → Except Nat State
  | [], _, s => .ok s
  | l :: ls, d, s =>
    match s.naWrite l 0 (d.take 128) with
    | .error c => .error c
    | .ok s => State.writeLines ls (d.drop 128) s

/-- The two words of a header entry in memory. -/
def State.hdrWords (s : State) (t : TileLines) : Except Nat (W64 × W64 × State) :=
  match s.naRead t.hdr with
  | .error c => .error c
  | .ok (d, s) =>
    .ok (BitVec.ofNat 64 (leNat ((d.drop t.hofs).take 8)), BitVec.ofNat 64 (leNat ((d.drop (t.hofs + 8)).take 8)), s)

/-! ### What a reader sees (03 R98) -/

/-- Both header words with the payload and scale lane as one reader finds them. -/
structure Seen where
  word0 : W64
  word1 : W64
  payload : List Byte
  scale : List Byte
  deriving DecidableEq, Repr

/-- A tile whose lines are known, in memory. -/
def State.seeLines (s : State) (t : TileLines) : Except Nat (Seen × State) :=
  match s.hdrWords t with
  | .error c => .error c
  | .ok (w0, w1, s) =>
    match State.readLines t.pay s with
    | .error c => .error c
    | .ok (p, s) =>
      match State.readLines t.scl s with
      | .error c => .error c
      | .ok (c, s) => .ok (⟨w0, w1, p, c⟩, s)

/-- A tile as a partition's reader on a core sees it (03 R87). -/
def State.seeTile (s : State) (core part : Nat) (l : TLoc) (u : Use) : Except Nat (Seen × State) :=
  if l.space == 0 then
    let t := s.localTag core l.granule
    let own := t.part == part
    let n := tilePayload l.tf
    .ok (⟨if own then t.word0 else 0, if own then t.word1 else 0,
      if own then s.localRead core part l.ofs n else zeros n,
      if tileIsMx l.tf then (if own then s.localRead core part l.sofs.toNat 256 else zeros 256) else []⟩, s)
  else
    match s.tileLines part l u with
    | .error c => .error c
    | .ok (t, s) => s.seeLines t

/-- Header word 0 as a reader sees it. -/
def State.seeWord0 (s : State) (core part : Nat) (l : TLoc) (u : Use) : Except Nat (W64 × W64 × State) :=
  if l.space == 0 then
    let t := s.localTag core l.granule
    .ok (if t.part == part then t.word0 else 0, if t.part == part then t.word1 else 0, s)
  else
    match s.lineOf part l.space l.hdrAddr u with
    | .error c => .error c
    | .ok (h, s) => s.hdrWords ⟨h, l.hdrAddr.toNat % 128, [], []⟩

/-- The judgement of one attempt (03 R98, R91). -/
inductive Judged where
  | busy
  | fault (code : Nat)
  | mismatch (gen : Nat)
  | good (t : TileImage)
  deriving DecidableEq, Repr

/-- Whether a header suits the format and role expected (03 R90, R91; 06 R204). -/
def suits (w0 : W64) (format role : Nat) : Bool :=
  hdrValid w0 && hdrFormat w0 == format && hdrRole w0 == role

/-- What R98 makes of an attempt. -/
def judge (x : Seen) (format role : Nat) (nv : Bool) : Judged :=
  if nv then .good ⟨x.word0, x.payload, x.scale⟩
  else if hdrPoison x.word0 then .fault 0x0103
  else if hdrBusy x.word0 then .busy
  else if !suits x.word0 format role then .fault 0x0104
  else if tileChecksum ⟨x.word0, x.payload, x.scale⟩ == x.word1 then .good ⟨x.word0, x.payload, x.scale⟩
  else .mismatch (hdrGen x.word0)

/-! ### Event counters of RAS (03 R103, 15 R534) -/

def State.rasCount (s : State) (n : Nat) : State := s.bump .rasEvtLo .rasEvtHi n 1

/-- POISON set in word 0 if GEN still is the one verified (03 R100); `none` where no header was read. -/
def State.poisonTile (s : State) (core part : Nat) (l : TLoc) (gen : Option Nat) : State :=
  if l.space == 0 then
    let t := s.localTag core l.granule
    if t.part == part && gen.all (hdrGen t.word0 == ·) then s.setLocalTag core l.granule { t with word0 := t.word0 ||| 2 } else s
  else
    match s.lineOf part l.space l.hdrAddr .tileRead with
    | .error _ => s
    | .ok (h, s) =>
      let t : TileLines := ⟨h, l.hdrAddr.toNat % 128, [], []⟩
      match s.hdrWords t with
      | .error _ => s
      | .ok (w0, _, s) =>
        if gen.all (hdrGen w0 == ·) then
          match s.naWrite h t.hofs (leBytes 8 (w0 ||| 2).toNat) with
          | .ok s => s
          | .error _ => s
        else s

/-! ### Cask mirrors (13 R475, R476) -/

/-- The mirror's line of a line of a cask region; none when the region is unmirrored. -/
def State.mirrorLine (s : State) (line : Nat) : Option Nat :=
  let r := line / 2 ^ 23
  if 2 ^ 33 ≤ line || s.f F.llmRgnDesc_POLICY r != 2 then none
  else
    let m := s.f F.llmRgnDesc_MIRROR r
    if m == r then none else some (m * 2 ^ 23 + line % 2 ^ 23)

def State.mirrorOf (s : State) (t : TileLines) : Option TileLines :=
  (s.mirrorLine t.hdr).map (fun h =>
    ⟨h, t.hofs, t.pay.map (fun l => (s.mirrorLine l).getD l), t.scl.map (fun l => (s.mirrorLine l).getD l)⟩)

/-- A tile's lines rewritten whole with a header: payload, scale lane, word 1, word 0 (03 R93). -/
def State.putTile (s : State) (t : TileLines) (w0 : W64) (payload scale : List Byte) : Except Nat State :=
  match State.writeLines t.pay payload s with
  | .error c => .error c
  | .ok s =>
    match State.writeLines t.scl scale s with
    | .error c => .error c
    | .ok s =>
      s.naWrite t.hdr t.hofs (leBytes 8 w0.toNat ++ leBytes 8 (tileChecksum ⟨w0, payload, scale⟩).toNat)

/-- Word 0 of a write: fields of the writer, GEN advanced (03 R93 step 1). -/
def nextHeader (old : W64) (busy : Bool) (role format vrows vcols wid wclass : Nat) : W64 :=
  mkHeader busy role format vrows vcols (hdrGen old + 1) wid wclass

/-- The repair of a primary from its mirror (13 R476): only if its GEN is still the one that failed;
the header entry's line is cleared of poison by its rewrite. -/
def State.repairCask (s : State) (t : TileLines) (gen : Option Nat) (img : TileImage) : State :=
  let old := (s.curLine t.hdr).drop t.hofs
  let w0 := BitVec.ofNat 64 (leNat (old.take 8))
  if gen.all (fun g => hdrGen w0 == g) then
    let w := nextHeader w0 false (hdrRole img.word0) (hdrFormat img.word0) (hdrVrows img.word0)
      (hdrVcols img.word0) 20 2
    let s := (t.hdr :: t.pay ++ t.scl).foldl (fun s l => s.clearPoison l) s
    match s.putTile t w img.trim.payload img.trim.scale with
    | .ok s => s.bump .secEvtLo .secEvtHi 4 1
    | .error _ => s
  else s

/-! ### The verifying read of on-device tiles (03 R98 to R101) -/

/-- The answer of a verifying read: wait and try again, a fault, a cask-poison event with the GEN
(13 R477), or a tile. -/
inductive TileRead where
  | stall
  | wait
  | fault (code : Nat)
  | caskPoison
  | good (t : TileImage)
  deriving DecidableEq, Repr

/-- Whether a tile lies in a cask region of this device. -/
def State.inCask (s : State) (t : TileLines) : Bool :=
  t.hdr < 2 ^ 33 && s.f F.llmRgnDesc_POLICY (t.hdr / 2 ^ 23) == 2

/-- A second mismatch, or poison met: the events counted and the fault (03 R100, R103; 13 R477). -/
def State.secondMismatch (s : State) (core part : Nat) (l : TLoc) (gen : Nat) (cask : Bool) : TileRead × State :=
  let s := (((s.rasCount 0).rasCount 0).poisonTile core part l (some gen)).rasCount 2
  (if cask then .caskPoison else .fault 0x0101, s)

/-- One read of a tile on this device in the order of 03 R98: POISON and BUSY of word 0 end it before the
payload is read, unless it is a no-verify read. -/
def State.lookTile (s : State) (t : TileLines) (format role : Nat) (nv : Bool) : Except Nat (Judged × State) :=
  match s.hdrWords t with
  | .error c => .error c
  | .ok (w0, _, s) =>
    if !nv && hdrPoison w0 then .ok (.fault 0x0103, s)
    else if !nv && hdrBusy w0 then .ok (.busy, s)
    else
      match s.seeLines t with
      | .error c => .error c
      | .ok (x, s) => .ok (judge x format role nv, s)

/-- The clean copy that served a read of a line, in its owner's L1 or in a way, invalidated (03 R99). -/
def State.dropClean (s : State) (line : Nat) : State :=
  let s := match s.dirEntry line with
    | some e =>
      if e.state == DirState.ex && !e.transient && (s.ownerFenced line).isNone && (SMap.find s.mem.l1data line).isNone then
        s.recallAll line true
      else s
    | none => s
  match s.cacheAt line with
  | some (k, c) => if c.data.isNone && c.busy == 0 then s.dropSlot k false else s
  | none => s

def TileLines.all (t : TileLines) : List Nat := t.hdr :: (t.pay ++ t.scl)

/-- The mirror tried after the primary failed (13 R476, R477). `gen`: the GEN that mismatched, none
when a primary line was poisoned. A mirror that is BUSY is waited for. -/
def State.tryMirror (s : State) (core part : Nat) (l : TLoc) (t : TileLines) (format role : Nat)
    (gen : Option Nat) : TileRead × State :=
  let first (s : State) : State := if gen.isSome then s.rasCount 0 else s
  match s.mirrorOf t with
  | none =>
    match gen with
    | some g => (.caskPoison, ((((first s).rasCount 0).poisonTile core part l (some g)).rasCount 2))
    | none => (.fault 0x0220, s)
  | some m =>
    match s.lookTile m format role false with
    | .error _ => (.caskPoison, (((first s).poisonTile core part l gen).rasCount 2))
    | .ok (.busy, _) => (.wait, s)
    | .ok (.good img, s) => (.good img, ((first s).rasCount 1).repairCask t gen img)
    | .ok (.mismatch _, s) =>
      (.caskPoison, (((first s).rasCount 0).poisonTile core part l gen).rasCount 2)
    | .ok (.fault _, s) => (.caskPoison, ((first s).poisonTile core part l gen).rasCount 2)

/-- A verifying read's faults: 0x0103 is a cask-poison event in a cask, and is counted. -/
def State.readFault (s : State) (t : TileLines) (c : Nat) : TileRead × State :=
  if c == 0x0103 then (if s.inCask t then .caskPoison else .fault c, s.rasCount 4) else (.fault c, s)

/-- A read of poisoned memory is counted at its slice (08 R301); in a cask the mirror is read (13 R476). -/
def State.readPoison (s : State) (core part : Nat) (l : TLoc) (t : TileLines) (format role c : Nat) (nv : Bool) :
    TileRead × State :=
  if c != 0x0220 then (if c == 0 then .stall else .fault c, s)
  else
    let s := s.countPoisonIn t.all
    if s.inCask t && !nv then s.tryMirror core part l t format role none else (.fault c, s)

/-- The refetch of a tile outside casks after a first mismatch at a GEN (03 R99, R100): clean copies give way, and a
newer GEN makes it a first read, whose own refetch would find the same tile. -/
def State.refetch (s : State) (core part : Nat) (l : TLoc) (t : TileLines) (format role gen : Nat) :
    TileRead × State :=
  let s := t.all.foldl (fun s k => s.dropClean k) s
  match s.lookTile t format role false with
  | .error c => s.readPoison core part l t format role c false
  | .ok (.busy, s) => (.wait, s)
  | .ok (.fault c, s) => s.readFault t c
  | .ok (.good img, s) =>
    (.good img, if hdrGen img.word0 == gen then (s.rasCount 0).rasCount 1 else s)
  | .ok (.mismatch g, s) => s.secondMismatch core part l g false

/-- One verifying read of a tile on this device. A mismatch is refetched at once, from the mirror where the
tile lies in a cask (03 R99, log entry 22). -/
def State.readTile (s : State) (core part : Nat) (l : TLoc) (format role : Nat) (nv : Bool) (u : Use) :
    TileRead × State :=
  if l.space == 0 then
    match s.seeTile core part l u with
    | .error _ => (.stall, s)
    | .ok (x, s) =>
      match judge x format role nv with
      | .busy => (.wait, s)
      | .fault c => (.fault c, if c == 0x0103 then s.rasCount 4 else s)
      | .good t => (.good t, if nv then s.rasCount 5 else s)
      | .mismatch g => s.secondMismatch core part l g false
  else
    match s.tileLines part l u with
    | .error c => (if c == 0 then .stall else .fault c, s)
    | .ok (t, s) =>
      match s.lookTile t format role nv with
      | .error c => s.readPoison core part l t format role c nv
      | .ok (.busy, s) => (.wait, s)
      | .ok (.fault c, s) => s.readFault t c
      | .ok (.good img, s) => (.good img, if nv then s.rasCount 5 else s)
      | .ok (.mismatch g, s) =>
        if s.inCask t then s.tryMirror core part l t format role (some g)
        else s.refetch core part l t format role g

/-! ### The writer order (03 R93 to R95) -/

/-- Step 1 as a test-and-set: the word 0 written, none while BUSY is set (03 R94). -/
def State.beginTile (s : State) (core part : Nat) (l : TLoc) (role vrows vcols wid wclass : Nat) (u : Use) :
    Except Nat (Option W64 × State) :=
  if l.space == 0 then
    let t := s.localTag core l.granule
    let old := if t.part == part then t.word0 else 0
    if hdrBusy old then .ok (none, s)
    else
      let w := nextHeader old true role l.tf vrows vcols wid wclass
      let s := s.takeGranule core part l.granule
      .ok (some w, s.setLocalTag core l.granule { s.localTag core l.granule with word0 := w })
  else
    match s.lineOf part l.space l.hdrAddr u with
    | .error c => .error c
    | .ok (h, s) =>
      let t : TileLines := ⟨h, l.hdrAddr.toNat % 128, [], []⟩
      match s.hdrWords t with
      | .error c => .error c
      | .ok (old, _, s) =>
        if hdrBusy old then .ok (none, s)
        else
          let w := nextHeader old true role l.tf vrows vcols wid wclass
          match s.naWrite h t.hofs (leBytes 8 w.toNat) with
          | .error c => .error c
          | .ok s => .ok (some w, s)

/-- Steps 2 to 4 for a tile whose step 1 wrote `w`. -/
def State.finishTile (s : State) (core part : Nat) (l : TLoc) (w : W64) (payload scale : List Byte) (u : Use) :
    Except Nat State :=
  let w0 := w &&& ~~~(1 : W64)
  if l.space == 0 then
    let s := s.localWrite core part l.ofs payload
    let s := if tileIsMx l.tf then s.localWrite core part l.sofs.toNat scale else s
    let t := s.localTag core l.granule
    .ok (s.setLocalTag core l.granule { t with word0 := w0, word1 := tileChecksum ⟨w0, payload, scale⟩ })
  else
    match s.tileLines part l u with
    | .error c => .error c
    | .ok (t, s) => s.putTile t w0 payload scale

/-- Steps 3 and 4 alone, for a tile whose payload stands (06 R206). -/
def State.sealTile (s : State) (core part : Nat) (l : TLoc) (x : Seen) : Except Nat State :=
  let w0 := x.word0 &&& ~~~(1 : W64)
  let ck := tileChecksum ⟨w0, x.payload, x.scale⟩
  if l.space == 0 then
    .ok (s.setLocalTag core l.granule { s.localTag core l.granule with word0 := w0, word1 := ck })
  else
    match s.lineOf part l.space l.hdrAddr .tileWrite with
    | .error c => .error c
    | .ok (h, s) => s.naWrite h (l.hdrAddr.toNat % 128) (leBytes 8 w0.toNat ++ leBytes 8 ck.toNat)

/-- A whole tile written in one go: none while BUSY is set. -/
def State.writeTile (s : State) (core part : Nat) (l : TLoc) (role vrows vcols wid wclass : Nat)
    (payload scale : List Byte) (u : Use) : Except Nat (Option State) :=
  match s.beginTile core part l role vrows vcols wid wclass u with
  | .error c => .error c
  | .ok (none, _) => .ok none
  | .ok (some w, s) =>
    match s.finishTile core part l w payload scale u with
    | .error c => .error c
    | .ok s => .ok (some s)

/-! ### Windows of readers and writers (03 R94, R98) -/

def TileWait.fresh : TileWait := ⟨none, none⟩

/-- The wait of an agent that found BUSY set: its window opens once (03 R98). -/
def State.openWait (s : State) (w : TileWait) : TileWait :=
  { w with opened := some (w.opened.getD s.tun.num.toNat) }

/-- Whether a one-beat window opened in an earlier beat has run out. -/
def State.waitExpired (s : State) (w : TileWait) : Bool :=
  match w.opened with
  | some b => b < s.tun.num.toNat
  | none => false

/-- Whether BUSY of a tile is still set, as the agent whose window runs out finds it: a clear that comes in time
wins (03 R94, R98). -/
def State.stillBusy (s : State) (core part : Nat) (l : TLoc) (u : Use) : Bool :=
  match s.seeWord0 core part l u with
  | .ok (w, _, _) => hdrBusy w
  | .error _ => false

end Sys2Proof.Machine
end

