-- ==== Sys2Proof/Machine/Access.lean ====
section
/-!
DEFINITION. Accesses of a group that leave the core (05 R182 to R185; 07 R255, R262, R263; 10 R350 to
R354): what an atomic makes of a word, remote loads through the proxy slice, and how an access completes.
-/
namespace Sys2Proof.Machine

/-! ### The operation of an atomic (05 R182, 02 R75) -/

/-- The new word and the flags. `wide`: a 64-bit word. -/
def atomicResult (wide : Bool) (fn : Nat) (sat : Bool) (old b c : W64) : W64 × FFlags :=
  let n := if wide then 64 else 32
  let o := BitVec.ofNat n old.toNat
  let x := BitVec.ofNat n b.toNat
  let f : Fmt := if wide then .f64 else .f32
  let int (r : BitVec n) : W64 × FFlags := (BitVec.ofNat 64 r.toNat, 0)
  let flt (r : Rounded) : W64 × FFlags := (BitVec.ofNat 64 r.code, r.flags)
  match fn with
  | 0x0 => int (o + x)
  | 0x1 => int (o &&& x)
  | 0x2 => int (o ||| x)
  | 0x3 => int (o ^^^ x)
  | 0x4 => int (if x.slt o then x else o)
  | 0x5 => int (if o.slt x then x else o)
  | 0x6 => int (if x.ult o then x else o)
  | 0x7 => int (if o.ult x then x else o)
  | 0x8 => int x
  | 0x9 => int (if o == BitVec.ofNat n c.toNat then x else o)
  | 0xA => flt (f.add .rne sat 0 o.toNat x.toNat)
  | 0xB => flt (f.minmax false true o.toNat x.toNat)
  | 0xC => flt (f.minmax true true o.toNat x.toNat)
  | 0xD => flt (f.minmax false false o.toNat x.toNat)
  | _ => flt (f.minmax true false o.toNat x.toNat)

/-- Whether an atomic performs its update: all but a compare-and-swap that fails (04 R143). -/
def atomicHit (wide : Bool) (fn : Nat) (old c : W64) : Bool :=
  fn != 9 || (if wide then old == c else old.truncate 32 == (c.truncate 32 : W32))

/-- Whether an atomic's FN computes in floating point. -/
def atomicFp (fn : Nat) : Bool := 0xA ≤ fn && fn ≤ 0xE

/-! ### Opening and completing an access -/

/-- A new access; its number. -/
def State.openAccess (s : State) (a : Access) : Nat × State :=
  (s.co.nextAccess,
    { s with co := { s.co with accesses := SMap.put s.co.accesses s.co.nextAccess a, nextAccess := s.co.nextAccess + 1 } })

/-- A loaded value as its register takes it (05 R156, R177). DESIGN CHOICE (log entry 134): a scalar load of less
than 8 bytes without SX leaves zero above them, and under SX extends the sign to 64 bits. -/
def loadValue (signed : Bool) (d : List Byte) : W64 :=
  let n := 8 * d.length
  if signed then (BitVec.ofNat n (leNat d)).signExtend 64 else BitVec.ofNat 64 (leNat d)

/-- A loaded value written to the registers of a lane. -/
def Group.setLoaded (g : Group) (vd lane size : Nat) (signed : Bool) (d : List Byte) : Group :=
  if size == 16 then (g.setV64 vd lane (BitVec.ofNat 64 (leNat (d.take 8)))).setV64 (vd + 2) lane
    (BitVec.ofNat 64 (leNat (d.drop 8)))
  else if size == 8 then g.setV64 vd lane (loadValue false d)
  else g.setV vd lane ((loadValue signed d).truncate 32)

/-- The registers of a completed access: old values of atomics, loaded words. -/
def Access.bind (a : Access) (g : Group) : Group :=
  if a.fn == 17 then g
  else if a.scalar then
    match a.got with
    | some d :: _ => g.setS a.vd (loadValue a.signed d)
    | _ => g
  else
    (a.lanes.zip a.got).foldl (fun g p =>
      match p.2 with
      | some d => g.setLoaded a.vd p.1 a.size a.signed d
      | none => g) g

/-- The access closes when everything has come back: its registers are written while the group is
resident, and it is forgotten (04 R126). -/
def State.closeAccess (s : State) (id : Nat) : State :=
  match SMap.find s.co.accesses id with
  | none => s
  | some a =>
    if a.got.any Option.isNone then s
    else
      let s := { s with co := { s.co with accesses := SMap.drop s.co.accesses id } }
      match s.group? a.who with
      | none => s
      | some g => if g.gtag == a.gtag then s.setGroup a.who (a.bind g) else s

/-- What has come back for one word. -/
def State.fillWord (s : State) (id idx : Nat) (d : List Byte) : State :=
  match SMap.find s.co.accesses id with
  | none => s
  | some a =>
    ({ s with co := { s.co with accesses := SMap.put s.co.accesses id { a with got := a.got.set idx (some d) } } }).closeAccess id

/-- What has come back for a line: every word on it. -/
def State.fillLine (s : State) (id line : Nat) (d : List Byte) : State :=
  match SMap.find s.co.accesses id with
  | none => s
  | some a =>
    let got := (a.places.zip a.got).map (fun p =>
      if p.1.1 == line && p.2.isNone then some ((d.drop p.1.2).take a.size) else p.2)
    ({ s with co := { s.co with accesses := SMap.put s.co.accesses id { a with got := got } } }).closeAccess id

/-- An access that a fault ended: its open words read zero (10 R354). -/
def State.failAccess (s : State) (id : Nat) : State :=
  match SMap.find s.co.accesses id with
  | none => s
  | some a =>
    let got := a.got.map (fun d => some (d.getD (zeros a.size)))
    ({ s with co := { s.co with accesses := SMap.put s.co.accesses id { a with got := got } } }).closeAccess id

/-- The fault of an access in flight. -/
def State.faultAccess (s : State) (id code : Nat) (info : W32) : State :=
  match SMap.find s.co.accesses id with
  | none => s
  | some a =>
    match a.who with
    | .group core slot =>
      (s.failAccess id).raiseLate core slot a.part a.ctx code (a.lanes.headD 0xFF) 0 info a.pc
    | .cp _ part ctx => (s.failAccess id).teardown ⟨code, part, ctx, 3, 0xFFFF, a.pc, info⟩ false

/-- A load's line: through the core's L1 where the line may be cached there, else at its home (08 R284,
07 R250). A command processor has no L1. -/
def State.giuLine (s : State) (core part line : Nat) : Except Nat (List Byte × State) :=
  if core < 256 && s.cacheable line then
    match s.l1Load core part line with
    | .ok s => .ok (s.curLine line, s)
    | .error c => .error c
  else s.naRead line

/-! ### Remote lines held on this device (07 R262, 08 R280) -/

/-- Whether an L1 of this device holds a line. -/
def State.inL1 (s : State) (line : Nat) : Bool := s.mem.l1.any (fun e => e.1 % 2 ^ 64 == line)

/-- Whether an L1 or a way of this device holds a remote line; a directory entry alone is no copy (07 R262). -/
def State.heldRemote (s : State) (line : Nat) : Bool :=
  (SMap.find s.mem.remote line).isSome && ((s.cacheSlot line).isSome || s.inL1 line)

/-- Whether the slice of a line serves requests (08 R299). -/
def State.sliceOn (s : State) (line : Nat) : Bool := s.b F.sliceCtrl_ENABLE (s.homeOf line).1

/-- A response's line kept when it is marked cacheable and its proxy slice serves (10 R351, 08 R280, R299). -/
def State.keepRemote (s : State) (core part line : Nat) (d : List Byte) : State :=
  if !s.sliceOn line then s else
  let s := { s with mem := { s.mem with remote := SMap.put s.mem.remote line d } }
  match s.getS core part line with
  | .ok t => t
  | .error _ => s

/-- The distinct lines of a list of places, in order. -/
def linesIn (ps : List (Nat × Nat)) : List Nat := (ps.map Prod.fst).eraseDups

/-- A load of remote words, each a (line, byte) place, the CLASS of a line given beside: held lines
answer at once, the others by RD. An unreachable node ends it with fault 0x0604 (10 R346, R354). -/
def State.remoteLoad (s : State) (a : Access) (cls : SMap Nat) (core : Nat) : State :=
  let (id, s) := s.openAccess a
  (linesIn a.places).foldl (fun s line =>
    let hit := if s.heldRemote line && core < 256 then s.l1Load core a.part line else .error 1
    match hit with
    | .ok t =>
      let d := t.curLine line
      (if a.fn == 20 then t.draffLine line else t).fillLine id line d
    | .error _ =>
      match lineKind line with
      | .remote node ofs =>
        match s.request (.load id line) a.part a.ctx node (rdMsg (SMap.get 0 cls line) node ofs) line with
        | some t => t
        | none => s.faultAccess id 0x0604 (BitVec.ofNat 32 (node % 65536 + 0x20 * 2 ^ 16))
      | _ => s) s

end Sys2Proof.Machine
end

