-- ==== Sys2Proof/Machine/Handles.lean ====
section
/-!
DEFINITION. Two-word instructions of the group issue unit (06 R197 to R207, R219, R220, R584): issue and
its checks, handles, header reads, tiles built by stores, fragments.
-/
namespace Sys2Proof.Machine

/-! ### Issue of two-word instructions (06 R199, R584; 04 R121) -/

/-- CORE_FAULT_INFO of 0x0408 (06 R237). -/
def handleInfo (n : Nat) (w0 : W64) : W32 := BitVec.ofNat 32 (n % 16 + opcOf w0 * 2 ^ 8 + fnOf w0 * 2 ^ 16)

/-- CORE_FAULT_INFO of 0x0409 (06 R237). -/
def valueInfo (v : Nat) (w0 : W64) : W32 := BitVec.ofNat 32 (v % 65536 + opcOf w0 * 2 ^ 16)

/-- Collective instructions (06 R199). -/
def collective (w0 : W64) : Bool :=
  match classOf w0 with
  | some .mma | some .accw | some .tcvt | some .fld | some .fst | some .topen | some .tseal => true
  | _ => false

/-- The scalar registers a two-word instruction names (06 R198). -/
def twoScalars (w0 w1 : W64) : List Nat :=
  let t := tForm w0 w1
  match classOf w0 with
  | some .thset => [t.sa, t.sb]
  | some .thget | some .thdr => [t.sd]
  | some .copy | some .tatom => [t.sa, t.sb, t.sc, t.sd]
  | some .tred | some .prefetch | some .flush | some .invalidate | some .draff | some .waitge => [t.sa, t.sb, t.sd]
  | _ => []

/-- The next one but one word: past a two-word instruction (05 R152). -/
def Group.advance2 (g : Group) : Group := { g with pc := g.pc + 16 }

/-- A two-word instruction past its issue. -/
def State.retire2 (s : State) (i : Issuer) (g : Group) : State := (s.countIssue i).setGroup i g.advance2

/-- Issues a two-word instruction: the encoding, the registers it names, the full mask of a collective
instruction, then `act` (06 R584; log entry 23). `ops` are its fragments and accumulator sets. -/
def State.issue2 (s : State) (i : Issuer) (w0 w1 : W64) (ops : Group → List VOperand) (act : Group → State) :
    State :=
  match s.group? i with
  | none => s
  | some g0 =>
    let g := { g0 with wait := .none }
    if !legalTwo w0 w1 || i.isCp then s.refuse i g 0x0401 0xFF (w0.truncate 32)
    else
      match beyondRpt g.rpt (ops g) with
      | some r => s.refuse i g 0x0402 0xFF (regInfo g r)
      | none =>
        match misalignedReg (ops g) with
        | some r => s.refuse i g 0x0403 0xFF (regInfo g r)
        | none =>
          if collective w0 && !g.fullMask then s.refuse i g 0x0305 0xFF g.active
          else if (ops g).any (fun o => s.busyV i g o.reg o.count) || (twoScalars w0 w1).any (s.busyS i g) then
            s.stall i g
          else act g

/-- A two-word instruction that names no vector register. -/
def State.issue2Plain (s : State) (i : Issuer) (w0 w1 : W64) (act : Group → State) : State :=
  s.issue2 i w0 w1 (fun _ => []) act

/-! ### Handles (06 R200 to R203) -/

/-- Whether sB of THSET is a value a handle may hold (06 R201). -/
def thsetOk (b : W64) : Bool :=
  let h : BitVec 128 := b ++ (0 : W64)
  let f := hFormat h
  if hf h 109 19 != 0 || hSpace h == 3 || hRole h == 3 then false
  else if f == 0 then hRole h == 0 && hVrows h == 0 && hVcols h == 0 && hScl h == 0 && !hNv h && !hDr h
  else
    tileKnown f && (hRole h == 0 || f == 1) && decide (hVrows h + 1 ≤ tileRows f) &&
      decide (hVcols h + 1 ≤ tileCols f) && (tileIsMx f || hScl h == 0)

/-- THSET (06 R201). -/
def State.doThset (s : State) (i : Issuer) (w0 w1 : W64) : State :=
  s.issue2Plain i w0 w1 (fun g =>
    let t := tForm w0 w1
    if thsetOk (g.s t.sb) then s.retire2 i (g.setH t.td (g.s t.sb ++ g.s t.sa))
    else s.refuse i g 0x0408 0xFF (handleInfo t.td w0))

def execThset (i : Issuer) (w0 w1 : W64) (s : State) : Host.Outcome State Fault Refusal :=
  command (.thset i w0 w1) (s.canIssue i) s (s.doThset i w0 w1)

/-- The handle THADV makes; none when the new SCL is out of range (06 R202). -/
def thadv (h : BitVec 128) (imm : Nat) : Option (BitVec 128) :=
  let scl : Int := (hScl h : Int) + (BitVec.ofNat 12 (imm / 2 ^ 20)).toInt
  if scl < 0 || (2 ^ 22 : Int) ≤ scl then none
  else
    let addr := hAddr h + 2048 * (BitVec.ofNat 20 imm).signExtend 64
    some (hSetOpen (BitVec.ofNat 128 (addr.toNat + scl.toNat * 2 ^ 64 + hf h 86 42 * 2 ^ 86)) false 0)

/-- THADV (06 R202). An SCL out of range names tA in CORE_FAULT_INFO (DESIGN CHOICE, log entry 131). -/
def State.doThadv (s : State) (i : Issuer) (w0 w1 : W64) : State :=
  s.issue2Plain i w0 w1 (fun g =>
    let t := tForm w0 w1
    if hFormat (g.h t.ta) == 0 then s.refuse i g 0x0408 0xFF (handleInfo t.ta w0)
    else
      match thadv (g.h t.ta) t.imm with
      | some h => s.retire2 i (g.setH t.td h)
      | none => s.refuse i g 0x0408 0xFF (handleInfo t.ta w0))

def execThadv (i : Issuer) (w0 w1 : W64) (s : State) : Host.Outcome State Fault Refusal :=
  command (.thadv i w0 w1) (s.canIssue i) s (s.doThadv i w0 w1)

/-- THGET (06 R202). -/
def State.doThget (s : State) (i : Issuer) (w0 w1 : W64) : State :=
  s.issue2Plain i w0 w1 (fun g =>
    let t := tForm w0 w1
    s.retire2 i (g.setS t.sd (BitVec.ofNat 64 (hf (g.h t.ta) (64 * (t.opt % 2)) 64))))

def execThget (i : Issuer) (w0 w1 : W64) (s : State) : Host.Outcome State Fault Refusal :=
  command (.thget i w0 w1) (s.canIssue i) s (s.doThget i w0 w1)

/-- Fault 0x0220 of a Near or Global address of this device counted at the line's slice (08 R301). -/
def State.countAt (s : State) (part space : Nat) (a : W64) : State :=
  if space == 0 then s
  else
    match s.lineOf part space a .load with
    | .ok (l, s) => s.countPoison l
    | .error _ => s

/-- A fault of an address: CORE_FAULT_INFO its low half (07 R268, 12 R443). -/
def State.addrFault (s : State) (i : Issuer) (g : Group) (space code lane : Nat) (a : W64) : State :=
  if code == 0 then s.stall i g
  else (if code == 0x0220 then s.countAt g.part space a else s).refuse i g code lane (a.truncate 32)

/-- The access of a remote 8-byte word into a scalar register. -/
def scalarLoad (i : Issuer) (g : Group) (sd line byte : Nat) : Access :=
  { who := i, gtag := g.gtag, part := g.part, ctx := g.ctx, pc := g.pc, isStore := false, fp := false,
    lanes := [], scalar := true, vd := sd, regs := [], size := 8, signed := false, fn := 16,
    places := [(line, byte)], got := [none] }

/-- THDR (06 R203): the header entry of the first tile, without verification. -/
def State.doThdr (s : State) (i : Issuer) (w0 w1 : W64) : State :=
  s.issue2Plain i w0 w1 (fun g =>
    let t := tForm w0 w1
    let l := hTile (g.h t.ta) 0 0
    let a := l.hdrAddr + BitVec.ofNat 64 (8 * (t.opt % 2))
    if hFormat (g.h t.ta) == 0 then s.refuse i g 0x0408 0xFF (handleInfo t.ta w0)
    else if !l.placed then s.refuse i g 0x0106 0xFF (l.addr.truncate 32)
    else
      let far := if l.space == 2 then
          match s.translate g.part a .load with
          | .at (.remote cls node ofs) => some (cls, node, ofs)
          | _ => none
        else none
      match far with
      | some (cls, node, ofs) =>
        (s.retire2 i g).remoteLoad (scalarLoad i g t.sd (rLine node ofs) (ofs % 128)) [(rLine node ofs, cls)] i.core
      | none =>
        match s.seeWord0 i.core g.part l .load with
        | .error c => s.addrFault i g l.space c 0xFF a
        | .ok (x0, x1, s) => s.retire2 i (g.setS t.sd (if t.opt % 2 == 1 then x1 else x0)))

def execThdr (i : Issuer) (w0 w1 : W64) (s : State) : Host.Outcome State Fault Refusal :=
  command (.thdr i w0 w1) (s.canIssue i) s (s.doThdr i w0 w1)

/-! ### Tiles built by stores (06 R205 to R207) -/

/-- Whether a handle names Local, Near or this device's Global space (06 R205). -/
def State.ownHandle (s : State) (h : BitVec 128) : Bool :=
  hSpace h != 2 || s.ownNode (gaNode (hAddr h))

/-- TOPEN once its checks have passed: step 1 of the writer order, or the wait for BUSY to clear. -/
def State.tryTopen (s : State) (i : Issuer) (g : Group) (w0 w1 : W64) (tw : TileWait) : State :=
  let t := tForm w0 w1
  let h := g.h t.td
  let l := hTile h 0 0
  match s.beginTile i.core g.part l (hRole h) (hVrows h) (hVcols h) 0 0 .tileWrite with
  | .error c => s.addrFault i g l.space c 0xFF l.hdrAddr
  | .ok (none, s) => s.setGroup i { g with wait := .tile (s.openWait tw) w0 w1 }
  | .ok (some w, s) => (s.retire2 i (g.setH t.td (hSetOpen h true (hdrGen w)))).retireWork g.gtag

/-- TOPEN (06 R205). -/
def State.doTopen (s : State) (i : Issuer) (w0 w1 : W64) : State :=
  s.issue2Plain i w0 w1 (fun g =>
    let t := tForm w0 w1
    let h := g.h t.td
    if hFormat h == 0 || !s.ownHandle h then s.refuse i g 0x0408 0xFF (handleInfo t.td w0)
    else if !(hTile h 0 0).placed then s.refuse i g 0x0106 0xFF ((hAddr h).truncate 32)
    else s.tryTopen i g w0 w1 TileWait.fresh)

def execTopen (i : Issuer) (w0 w1 : W64) (s : State) : Host.Outcome State Fault Refusal :=
  command (.topen i w0 w1) (s.canIssue i) s (s.doTopen i w0 w1)

/-- TSEAL (06 R206): the waits of FENCE 0b0011 first, then the checksum and steps 3 and 4. -/
def State.doTseal (s : State) (i : Issuer) (w0 w1 : W64) : State :=
  s.issue2Plain i w0 w1 (fun g =>
    let t := tForm w0 w1
    let h := g.h t.td
    let l := hTile h 0 0
    if hFormat h == 0 || !s.ownHandle h then s.refuse i g 0x0408 0xFF (handleInfo t.td w0)
    else if !l.placed then s.refuse i g 0x0106 0xFF ((hAddr h).truncate 32)
    else if s.fenceOpen i g 3 then s.setGroup i { g with wait := .fence 3 }
    else
      match s.seeTile i.core g.part l .tileWrite with
      | .error c => s.addrFault i g l.space c 0xFF l.hdrAddr
      | .ok (x, s) =>
        if !hOpen h || !hdrBusy x.word0 || hdrGen x.word0 != hOgen h then
          s.refuse i g 0x0107 0xFF (x.word0.truncate 32)
        else
          match s.sealTile i.core g.part l x with
          | .error c => s.addrFault i g l.space c 0xFF l.hdrAddr
          | .ok s => (s.retire2 i (g.setH t.td (hSetOpen h false (hOgen h)))).retireWork g.gtag)

def execTseal (i : Issuer) (w0 w1 : W64) (s : State) : Host.Outcome State Fault Refusal :=
  command (.tseal i w0 w1) (s.canIssue i) s (s.doTseal i w0 w1)

/-! ### Fragments (04 R117 to R120; 06 R219, R220) -/

/-- Whether a format has register fragments (04 R119). -/
def hasFragment (tf : Nat) : Bool := 1 ≤ tf && tf ≤ 4

/-- The registers of the fragment an FLD loads (04 R117). Where the handle gives no fragment, VR itself still is
checked, before the handle (06 R584). -/
def fldOps (h : BitVec 128) (vr : Nat) : List VOperand :=
  match hFormat h with
  | 1 | 4 => [⟨vr, 32, 32⟩]
  | 2 | 3 => [⟨vr, 16, 16⟩]
  | _ => [⟨vr, 1, 1⟩]

/-- The registers an FST stores from: a whole tile (06 R220); VR itself where the handle gives none (R584). -/
def fstOps (h : BitVec 128) (vr : Nat) : List VOperand :=
  if hasFragment (hFormat h) then [⟨vr, 32, 32⟩] else [⟨vr, 1, 1⟩]

/-- The register of the fragment: `codes` are the tile's, +0 outside the extent (04 R117, R120). -/
def fragmentWord (tf k : Nat) (code : Nat → Nat → Nat) (t j : Nat) : W32 :=
  match tf with
  | 1 => BitVec.ofNat 32 (code t j)
  | 4 =>
    let x := code (t / 2) (16 * (t % 2) + j / 2)
    BitVec.ofNat 32 (if j % 2 == 0 then x else x / 2 ^ 32)
  | _ => BitVec.ofNat 32 (code t (32 * k + 2 * j) + 2 ^ 16 * code t (32 * k + 2 * j + 1))

/-- The codes of a tile by row and column, 0 outside its extent. -/
def TileImage.code (t : TileImage) (r c : Nat) : Nat :=
  if r ≤ hdrVrows t.word0 && c ≤ hdrVcols t.word0 then
    ((tileCodes (hdrFormat t.word0) t.payload).getD r []).getD c 0
  else 0

/-- A group with a fragment loaded. -/
def Group.loadFragment (g : Group) (img : TileImage) (vr k : Nat) : Group :=
  let tf := hdrFormat img.word0
  let rows := tileCodes tf img.payload
  let code (r c : Nat) : Nat :=
    if r ≤ hdrVrows img.word0 && c ≤ hdrVcols img.word0 then (rows.getD r []).getD c 0 else 0
  let n := if tf == 1 || tf == 4 then 32 else 16
  (List.range 32).foldl (fun g t =>
    (List.range n).foldl (fun g j => g.setV (vr + j) t (fragmentWord tf k code t j)) g) g

/-- The payload of a tile stored from registers, codes outside the extent zero (06 R220, 03 R80). -/
def Group.storeFragment (g : Group) (h : BitVec 128) (vr : Nat) : List Byte :=
  let tf := hFormat h
  let code (r c : Nat) : Nat :=
    match tf with
    | 1 => (g.v (vr + c) r).toNat
    | 4 => (g.v64 (vr + 2 * (c % 16)) (2 * r + c / 16)).toNat
    | _ => (g.v (vr + 16 * (c / 32) + c % 32 / 2) r).toNat / 2 ^ (16 * (c % 2)) % 65536
  (List.range (tileRows tf)).flatMap (fun r =>
    rowBytesOf tf ((List.range (tileCols tf)).map (fun c =>
      if r ≤ hVrows h && c ≤ hVcols h then code r c else 0)))

/-- FLD once its checks have passed. -/
def State.tryFld (s : State) (i : Issuer) (g : Group) (w0 w1 : W64) (tw : TileWait) : State :=
  let t := tForm w0 w1
  let h := g.h t.ta
  let l := hTile h 0 0
  match s.readTile i.core g.part l (hFormat h) (hRole h) (hNv h) .tileRead with
  | (.wait, s) => s.setGroup i { g with wait := .tile (s.openWait tw) w0 w1 }
  | (.fault c, s) => s.refuse i g c 0xFF 0
  | (.good img, s) =>
    let w := mkHeader false (hRole h) (hFormat h) (hdrVrows img.word0) (hdrVcols img.word0) 0 0 0
    let img := if hNv h then ⟨w, img.payload, img.scale⟩ else img
    s.retire2 i (g.loadFragment img t.vr (t.opt % 2))
  | (_, s) => s.stall i g

/-- Whether a handle suits FLD and FST (06 R219, R220). -/
def fragmentHandle (h : BitVec 128) : Bool := hSpace h == 0 && hasFragment (hFormat h)

/-- FLD (06 R219). -/
def State.doFld (s : State) (i : Issuer) (w0 w1 : W64) : State :=
  let t := tForm w0 w1
  s.issue2 i w0 w1 (fun g => fldOps (g.h t.ta) t.vr) (fun g =>
    let h := g.h t.ta
    if !fragmentHandle h || (t.opt % 2 == 1 && (hFormat h == 1 || hFormat h == 4)) then
      s.refuse i g 0x0408 0xFF (handleInfo t.ta w0)
    else if !(hTile h 0 0).placed then s.refuse i g 0x0106 0xFF ((hAddr h).truncate 32)
    else s.tryFld i g w0 w1 TileWait.fresh)

def execFld (i : Issuer) (w0 w1 : W64) (s : State) : Host.Outcome State Fault Refusal :=
  command (.fld i w0 w1) (s.canIssue i) s (s.doFld i w0 w1)

/-- FST once its checks have passed: WRITER_CLASS 3 (06 R220). -/
def State.tryFst (s : State) (i : Issuer) (g : Group) (w0 w1 : W64) (tw : TileWait) : State :=
  let t := tForm w0 w1
  let h := g.h t.td
  match s.writeTile i.core g.part (hTile h 0 0) (hRole h) (hVrows h) (hVcols h) i.core 3
      (g.storeFragment h t.vr) [] .tileWrite with
  | .ok (some s) => (s.retire2 i g).retireWork g.gtag
  | .ok none => s.setGroup i { g with wait := .tile (s.openWait tw) w0 w1 }
  | .error c => s.addrFault i g (hSpace h) c 0xFF (hAddr h)

/-- FST (06 R220). -/
def State.doFst (s : State) (i : Issuer) (w0 w1 : W64) : State :=
  let t := tForm w0 w1
  s.issue2 i w0 w1 (fun g => fstOps (g.h t.td) t.vr) (fun g =>
    let h := g.h t.td
    if !fragmentHandle h then s.refuse i g 0x0408 0xFF (handleInfo t.td w0)
    else if !(hTile h 0 0).placed then s.refuse i g 0x0106 0xFF ((hAddr h).truncate 32)
    else s.tryFst i g w0 w1 TileWait.fresh)

def execFst (i : Issuer) (w0 w1 : W64) (s : State) : Host.Outcome State Fault Refusal :=
  command (.fst i w0 w1) (s.canIssue i) s (s.doFst i w0 w1)

end Sys2Proof.Machine
end

