-- ==== Sys2Proof/Machine/Matrix.lean ====
section
/-!
DEFINITION. Matrix-engine instructions (06 R208 to R218): MMA, ACCW and TCVT from their queue to their
completion, an attempt computed whole from the tiles as they stand.
-/
namespace Sys2Proof.Machine

/-! ### Issue -/

/-- The engine that ENG names: ANY is the one with the fewest queued instructions, the lowest-numbered
among equals (04 R124). -/
def CoreSt.engineOf (c : CoreSt) (eng : Nat) : Nat :=
  if eng < 4 then eng
  else [1, 2, 3].foldl (fun b k => if (c.me k).length < (c.me b).length then k else b) 0

/-- A handle by number; 15 wraps nowhere, since 06 R212 reserves it where the next one is named. -/
def Group.hn (g : Group) (n : Nat) : BitVec 128 := g.h n

/-- The first tile of a list of runs that breaks placement (06 R208). -/
def misplaced (runs : List (BitVec 128 × Nat)) : Option TLoc :=
  (runs.flatMap (fun r => (List.range r.2).map (hRun r.1))).find? (fun l => !l.placed)

/-- Queues an engine instruction, or stalls while its queue is full (04 R124). -/
def State.queueMat (s : State) (i : Issuer) (g : Group) (w0 w1 : W64) : State :=
  match i with
  | .cp _ _ _ => s
  | .group core slot =>
    let t := tForm w0 w1
    let c := s.core core
    let e := c.engineOf t.eng
    if 4 ≤ (c.me e).length then s.stall i g
    else
      let m : MatCmd :=
        { slot := slot, gtag := g.gtag, pc := g.pc, w0 := w0, w1 := w1, td := g.hn t.td, td2 := g.hn (t.td + 1),
          ta := g.hn t.ta, ta2 := g.hn (t.ta + 1), tb := g.hn t.tb, tb2 := g.hn (t.tb + 1), seed := none,
          started := false, wait := TileWait.fresh, held := none }
      (s.retire2 i g).setCore core (c.setMe e (c.me e ++ [m]))

/-- A handle number that does not suit an MMA operand: Local, of a format of the form, of the role
that pair mode asks (06 R211, R212). -/
def mmaMisfit (fn : Nat) (lo : Bool) (h : BitVec 128) : Bool :=
  hFormat h == 0 || hSpace h != 0 ||
    (match fn with
      | 0 => hFormat h != 2
      | 1 => hFormat h != 3
      | 2 => hFormat h != 1
      | 3 => !tileIsMx (hFormat h)
      | _ => hFormat h != 1 || hRole h != (if lo then 2 else 1))

/-- Whether two MX operands make a form (06 R211). -/
def mxForm (fa fb : Nat) : Bool := (fa == 5 || fa == 6) == (fb == 5 || fb == 6)

/-- The largest KT of a form (06 R211). -/
def mmaLimit (fn fa fb : Nat) : Nat :=
  match fn with
  | 0 | 1 => 15
  | 2 => 7
  | 3 => if fa == 5 || fa == 6 || (fa == 9 && fb == 9) then 15 else 7
  | _ => 1

/-- The registers of an MMA (06 R212; 04 R115, R117). -/
def mmaOps (w0 w1 : W64) : List VOperand :=
  let t := tForm w0 w1
  let pair := fnOf w0 == 4
  ⟨32 * t.as, if pair then 64 else 32, if pair then 64 else 32⟩ ::
    (if t.ar then [⟨t.vr, if pair then 64 else 32, if pair then 64 else 32⟩] else [])

/-- The handles of an MMA that do not suit it, in order; two MX formats that make no form name tA (DESIGN CHOICE,
log entry 131). -/
def mmaBadHandle (g : Group) (w0 w1 : W64) : Option Nat :=
  let t := tForm w0 w1
  let fn := fnOf w0
  let a := if t.ar then [] else (t.ta, false) :: (if fn == 4 then [(t.ta + 1, true)] else [])
  let b := (t.tb, false) :: (if fn == 4 then [(t.tb + 1, true)] else [])
  match (a ++ b).find? (fun p => mmaMisfit fn p.2 (g.hn p.1)) with
  | some p => some p.1
  | none => if fn == 3 && !mxForm (hFormat (g.hn t.ta)) (hFormat (g.hn t.tb)) then some t.ta else none

/-- MMA (06 R211, R212). -/
def State.doMma (s : State) (i : Issuer) (w0 w1 : W64) : State :=
  let t := tForm w0 w1
  s.issue2 i w0 w1 (fun _ => mmaOps w0 w1) (fun g =>
    match mmaBadHandle g w0 w1 with
    | some n => s.refuse i g 0x0408 0xFF (handleInfo n w0)
    | none =>
      if mmaLimit (fnOf w0) (hFormat (g.hn t.ta)) (hFormat (g.hn t.tb)) < t.kt then
        s.refuse i g 0x0409 0xFF (valueInfo t.kt w0)
      else
        let n := t.kt + 1
        let pair := fnOf w0 == 4
        let runs := (if t.ar then [] else [(g.hn t.ta, n)]) ++
          (if pair && !t.ar then [(g.hn (t.ta + 1), n)] else []) ++ [(g.hn t.tb, n)] ++
          (if pair then [(g.hn (t.tb + 1), n)] else [])
        match misplaced runs with
        | some l => s.refuse i g 0x0106 0xFF (l.addr.truncate 32)
        | none => s.queueMat i g w0 w1)

def execMma (i : Issuer) (w0 w1 : W64) (s : State) : Host.Outcome State Fault Refusal :=
  command (.mma i w0 w1) (s.canIssue i) s (s.doMma i w0 w1)

/-- The accumulator sets an ACCW reads (06 R217). -/
def accwOps (g : Group) (w0 w1 : W64) : List VOperand :=
  let t := tForm w0 w1
  let pair := hRole (g.hn t.td) == 1
  [⟨32 * t.as, 32 * (t.kt + 1) * (if pair then 2 else 1), if pair then 64 else 32⟩]

/-- ACCW (06 R217). The offending value of column blocks past the tile is CB + KT + 1 (DESIGN CHOICE, log entry
132). -/
def State.doAccw (s : State) (i : Issuer) (w0 w1 : W64) : State :=
  let t := tForm w0 w1
  s.issue2 i w0 w1 (fun g => accwOps g w0 w1) (fun g =>
    let h := g.hn t.td
    let lo := g.hn (t.td + 1)
    let tf := hFormat h
    let pair := hRole h == 1
    if tf == 0 || tf == 4 || tf == 15 || hSpace h != 0 || (pair && t.td == 15) then
      s.refuse i g 0x0408 0xFF (handleInfo t.td w0)
    else if pair && (hFormat lo != 1 || hRole lo != 2 || hSpace lo != 0) then
      s.refuse i g 0x0408 0xFF (handleInfo (t.td + 1) w0)
    else if tileCols tf / 32 < t.opt % 8 + t.kt + 1 then
      s.refuse i g 0x0409 0xFF (valueInfo (t.opt % 8 + t.kt + 1) w0)
    else
      match misplaced ((h, 1) :: (if pair then [(lo, 1)] else [])) with
      | some l => s.refuse i g 0x0106 0xFF (l.addr.truncate 32)
      | none => s.queueMat i g w0 w1)

def execAccw (i : Issuer) (w0 w1 : W64) (s : State) : Host.Outcome State Fault Refusal :=
  command (.accw i w0 w1) (s.canIssue i) s (s.doAccw i w0 w1)

/-- A handle that TCVT takes (06 R218). -/
def tcvtHandle (h : BitVec 128) : Bool :=
  tileKnown (hFormat h) && hFormat h != 4 && hFormat h != 15 && hRole h == 0 && hSpace h == 0

/-- The ratio of the column counts (06 R218). -/
def tcvtRatio (fs fd : Nat) : Nat := max (tileCols fs) (tileCols fd) / min (tileCols fs) (tileCols fd)

/-- Tiles read and written by a TCVT (06 R218). -/
def tcvtRuns (ta td : BitVec 128) : Nat × Nat :=
  let n := tcvtRatio (hFormat ta) (hFormat td)
  if tileCols (hFormat ta) < tileCols (hFormat td) then (n, 1) else (1, n)

/-- TCVT (06 R218). The offending value of a ratio that KT does not give is KT (DESIGN CHOICE, log entry 132). -/
def State.doTcvt (s : State) (i : Issuer) (w0 w1 : W64) : State :=
  let t := tForm w0 w1
  s.issue2Plain i w0 w1 (fun g =>
    let ta := g.hn t.ta
    let td := g.hn t.td
    if !tcvtHandle ta then s.refuse i g 0x0408 0xFF (handleInfo t.ta w0)
    else if !tcvtHandle td then s.refuse i g 0x0408 0xFF (handleInfo t.td w0)
    else if t.kt + 1 != tcvtRatio (hFormat ta) (hFormat td) then s.refuse i g 0x0409 0xFF (valueInfo t.kt w0)
    else
      let n := tcvtRuns ta td
      match misplaced [(ta, n.1), (td, n.2)] with
      | some l => s.refuse i g 0x0106 0xFF (l.addr.truncate 32)
      | none => s.queueMat i g w0 w1)

def execTcvt (i : Issuer) (w0 w1 : W64) (s : State) : Host.Outcome State Fault Refusal :=
  command (.tcvt i w0 w1) (s.canIssue i) s (s.doTcvt i w0 w1)

/-! ### Reading the operands (06 R210) -/

/-- An operand tile: where, the format and role expected, no-verify. -/
structure Operand where
  loc : TLoc
  format : Nat
  role : Nat
  nv : Bool
  deriving DecidableEq, Repr

def operandsOf (h : BitVec 128) (n : Nat) : List Operand :=
  (List.range n).map (fun k => ⟨hRun h k, hFormat h, hRole h, hNv h⟩)

/-- The operand tiles of an engine instruction, in the order in which they are read. -/
def State.matOperands (s : State) (core part : Nat) (m : MatCmd) : List Operand :=
  let t := tForm m.w0 m.w1
  match classOf m.w0 with
  | some .mma =>
    let n := t.kt + 1
    (if t.ar then [] else operandsOf m.ta n) ++ (if fnOf m.w0 == 4 && !t.ar then operandsOf m.ta2 n else []) ++
      operandsOf m.tb n ++ (if fnOf m.w0 == 4 then operandsOf m.tb2 n else [])
  | some .accw =>
    let l := hRun m.td 0
    let whole := t.opt % 8 == 0 && t.kt + 1 == tileCols (hFormat m.td) / 32
    let tag := s.localTag core l.granule
    if whole || tag.part != part || hdrFormat tag.word0 == 0 then []
    else [⟨l, hFormat m.td, hRole m.td, false⟩]
  | _ => operandsOf m.ta (tcvtRuns m.ta m.td).1

/-- The destination tiles of an engine instruction with their handles. -/
def matTargets (m : MatCmd) : List (TLoc × BitVec 128) :=
  match classOf m.w0 with
  | some .accw => (hRun m.td 0, m.td) :: (if hRole m.td == 1 then [(hRun m.td2 0, m.td2)] else [])
  | some .tcvt => (List.range (tcvtRuns m.ta m.td).2).map (fun k => (hRun m.td k, m.td))
  | _ => []

/-- What an attempt's reads come to (06 R210). -/
inductive Attempt where
  | clean (ts : List TileImage)
  | busy
  | mismatch (mark : Nat) (l : TLoc)
  | fault (code : Nat)
  deriving DecidableEq, Repr

/-- Reads the operands from number `k` on. -/
def State.readOperands (s : State) (core part : Nat) : Nat → List Operand → Attempt
  | _, [] => .clean []
  | k, o :: os =>
    match s.seeTile core part o.loc .tileRead with
    | .error c => .fault c
    | .ok (x, _) =>
      match judge x o.format o.role o.nv with
      | .busy => .busy
      | .fault c => .fault c
      | .mismatch g => .mismatch (k * 65536 + g) o.loc
      | .good t =>
        match State.readOperands s core part (k + 1) os with
        | .clean ts => .clean (t :: ts)
        | x => x

/-- An attempt of a started instruction; a destination that another writer holds BUSY also ends it. -/
def State.attempt (s : State) (core part : Nat) (m : MatCmd) : Attempt :=
  match s.readOperands core part 0 (s.matOperands core part m) with
  | .clean ts =>
    if (matTargets m).any (fun d =>
        let t := s.localTag core d.1.granule
        t.part == part && hdrBusy t.word0) then .busy
    else .clean ts
  | x => x

/-! ### The products (06 R211 to R216) -/

/-- What an engine instruction delivers. -/
structure MatResult where
  g : Group
  tiles : List (List Byte × List Byte)
  flags : FFlags
  gen : W64
  deriving DecidableEq, Repr

def mmaFormOf (fn : Nat) : MmaForm :=
  match fn with
  | 0 => .bf16
  | 1 => .f16
  | 2 => .f32
  | 3 => .mx
  | _ => .pair

/-- The accumulator of a group: rows of pairs, the second component used in pair mode (04 R115, R117). -/
def Group.acc (g : Group) (as : Nat) (pair za : Bool) : List (List PairCode) :=
  (List.range 32).map (fun i => (List.range 32).map (fun j =>
    if za then (0, 0)
    else ((g.v (32 * as + j) i).toNat, if pair then (g.v (32 * (as + 1) + j) i).toNat else 0)))

def Group.setAcc (g : Group) (as : Nat) (pair : Bool) (acc : List (List PairCode)) : Group :=
  (acc.zipIdx).foldl (fun g row =>
    (row.1.zipIdx).foldl (fun g x =>
      let g := g.setV (32 * as + x.2) row.2 (BitVec.ofNat 32 x.1.1)
      if pair then g.setV (32 * (as + 1) + x.2) row.2 (BitVec.ofNat 32 x.1.2) else g) g) g

/-- A register operand A: entirely valid (06 R212, R213). -/
def Group.regOperand (g : Group) (fn vr : Nat) : List (List MatElem) :=
  (List.range 32).map (fun t =>
    match fn with
    | 2 => (List.range 32).map (fun j => .one (Fmt.f32.decode (g.v (vr + j) t).toNat))
    | 4 => (List.range 32).map (fun j => .two ((g.v (vr + j) t).toNat, (g.v (vr + 32 + j) t).toNat))
    | _ =>
      let f : Fmt := if fn == 0 then .bf16 else .f16
      (List.range 64).map (fun c =>
        .one (f.decode ((g.v (vr + 16 * (c / 32) + c % 32 / 2) t).toNat / 2 ^ (16 * (c % 2)) % 65536))))

/-- The valid rows that every tile of a run has. -/
def leastRows (ts : List TileImage) : Nat := ts.foldl (fun n t => min n (hdrVrows t.word0 + 1)) 32

/-- MMA on the group and the tiles read. -/
def runMma (m : MatCmd) (g : Group) (ts : List TileImage) (gen : W64) : MatResult :=
  let t := tForm m.w0 m.w1
  let fn := fnOf m.w0
  let n := t.kt + 1
  let pair := fn == 4
  let rm := (Rm.ofCode t.rm).getD .rne
  let na := if t.ar then 0 else n
  let aHi := ts.take na
  let r1 := ts.drop na
  let aLo := if pair then r1.take na else []
  let r2 := r1.drop aLo.length
  let bHi := r2.take n
  let bLo := if pair then r2.drop n else []
  let mats (hi lo : List TileImage) : List (List (List MatElem)) :=
    if pair then (hi.zip lo).map (fun p => matTwo p.1 p.2) else hi.map matOne
  let as := if t.ar then [g.regOperand fn t.vr] else mats aHi aLo
  let bs := mats bHi bLo
  let form := mmaFormOf fn
  let cols := if t.ar then (if fn ≤ 1 then 64 else 32) else tileCols (hFormat m.ta)
  let r := mmaRun form rm t.ov (leastRows (aHi ++ aLo)) (leastRows (bHi ++ bLo)) (cols / form.chunk)
    (as.zip bs) (g.acc t.as pair t.za) (Gen.start gen)
  { g := g.setAcc t.as pair r.1, tiles := [], flags := r.2.1, gen := if rm == .sr then r.2.2.s else gen }

/-! ### Accumulators and conversions into tiles (06 R217, R218) -/

/-- One row block of a kept tile laid over a made one, by column block. -/
def overlay (tf cb n vrows vcols : Nat) (made : TileMade) (old : Option TileImage) : List Byte × List Byte :=
  match old with
  | none => (made.payload, made.scale)
  | some o =>
    let covered (c : Nat) : Bool := 32 * cb ≤ c && c < 32 * (cb + n)
    let payload := ((tileCodes tf made.payload).zip (tileCodes tf o.payload)).mapIdx (fun r p =>
      rowBytesOf tf ((p.1.zip p.2).mapIdx (fun c x =>
        if covered c then x.1 else if r ≤ vrows && c ≤ vcols then x.2 else 0)))
    let blocks := tileBlocks tf
    let scale := (made.scale.zip (maskScale tf vrows vcols o.scale)).mapIdx (fun k x =>
      if 32 * blocks ≤ k || covered (32 * (k % blocks)) then x.1 else x.2)
    (payload.flatten, scale)

/-- ACCW of one component, from sets `as`, `as + step`, … (06 R217). -/
def accwTile (g : Group) (h : BitVec 128) (as step cb n : Nat) (rm : Rm) (sat : Bool) (old : Option TileImage)
    (gen : Gen) : (List Byte × List Byte) × FFlags × Gen :=
  let tf := hFormat h
  let rows := (List.range (tileRows tf)).map (fun r => (List.range (tileCols tf)).map (fun c =>
    if r ≤ hVrows h && c ≤ hVcols h && 32 * cb ≤ c && c < 32 * (cb + n) then
      some (Fmt.f32.decode (g.v (32 * (as + step * (c / 32 - cb)) + c % 32) r).toNat)
    else none))
  match tileElem tf with
  | none => (([], []), 0, gen)
  | some f =>
    let m := makeRows tf f rm sat rows gen
    let m := if tileIsMx tf then ⟨m.payload, padTo 256 0 m.scale, m.flags, m.gen⟩ else m
    (overlay tf cb n (hVrows h) (hVcols h) m old, m.flags, m.gen)

def runAccw (m : MatCmd) (g : Group) (ts : List TileImage) (gen : W64) : MatResult :=
  let t := tForm m.w0 m.w1
  let rm := (Rm.ofCode t.rm).getD .rne
  let pair := hRole m.td == 1
  let n := t.kt + 1
  let a := accwTile g m.td t.as (if pair then 2 else 1) (t.opt % 8) n rm t.ov ts.head? (Gen.start gen)
  if pair then
    let b := accwTile g m.td2 (t.as + 1) 2 0 1 rm t.ov none a.2.2
    { g := g, tiles := [a.1, b.1], flags := a.2.1 ||| b.2.1, gen := if rm == .sr then b.2.2.s else gen }
  else { g := g, tiles := [a.1], flags := a.2.1, gen := if rm == .sr then a.2.2.s else gen }

/-- Tiles made one after another, draws in tile order (02 R58). -/
def makeTiles (h : BitVec 128) (rm : Rm) (sat : Bool) :
    List (List (List (Option FVal))) → Gen → List (List Byte × List Byte) × FFlags × Gen
  | [], g => ([], 0, g)
  | vals :: rest, g =>
    let m := makeTile (hFormat h) (hVrows h) (hVcols h) rm sat vals g
    let r := makeTiles h rm sat rest m.gen
    ((m.payload, m.scale) :: r.1, m.flags ||| r.2.1, r.2.2)

/-- The source values of a TCVT laid side by side, then cut for each destination (06 R218). -/
def tcvtSlices (ta td : BitVec 128) (ts : List TileImage) : List (List (List (Option FVal))) :=
  let cols := tileCols (hFormat ta)
  let vals := ts.map tileVals
  let rows := (List.range 32).map (fun r => vals.flatMap (fun v => padTo cols none (v.getD r [])))
  let k := tileCols (hFormat td)
  (List.range (tcvtRuns ta td).2).map (fun d => rows.map (fun row => (row.drop (k * d)).take k))

def runTcvt (m : MatCmd) (g : Group) (ts : List TileImage) (gen : W64) : MatResult :=
  let t := tForm m.w0 m.w1
  let rm := (Rm.ofCode t.rm).getD .rne
  let r := makeTiles m.td rm t.ov (tcvtSlices m.ta m.td ts) (Gen.start gen)
  { g := g, tiles := r.1, flags := r.2.1, gen := if rm == .sr then r.2.2.s else gen }

def runMat (m : MatCmd) (g : Group) (ts : List TileImage) (gen : W64) : MatResult :=
  match classOf m.w0 with
  | some .mma => runMma m g ts gen
  | some .accw => runAccw m g ts gen
  | _ => runTcvt m g ts gen

/-! ### The engine's rows -/

/-- The instruction at the head of an engine's queue. -/
def State.engineHead (s : State) (core me : Nat) : Option MatCmd := ((s.core core).me me).head?

/-- The head replaced. -/
def State.setEngineHead (s : State) (core me : Nat) (m : MatCmd) : State :=
  let c := s.core core
  s.setCore core (c.setMe me (m :: (c.me me).drop 1))

/-- The head leaves the queue, and seeds behind it take effect (04 R124, 05 R192). -/
def State.popEngine (s : State) (core me : Nat) : State :=
  let c := s.core core
  s.setCore core (drainSeeds me c ((c.me me).drop 1))

/-- Whether a group may start engine work: its context runs (06 R209). -/
def State.matGroup (s : State) (m : MatCmd) : Option (Issuer × Group) :=
  match s.groupOf m.gtag with
  | none => none
  | some i => (s.group? i).map (fun g => (i, g))

/-- MATRIX_ENGINE_START (06 R209): enough of the beat remains. -/
def State.canStart (s : State) (core me : Nat) : Bool :=
  match s.engineHead core me with
  | none => false
  | some m => !m.started && (s.matGroup m).isSome && s.issuing && s.coreClocked core

def State.doStart (s : State) (core me : Nat) : State :=
  match s.engineHead core me with
  | none => s
  | some m => s.setEngineHead core me { m with started := true }

def execMatrixEngineStart (core me : Nat) (s : State) : Host.Outcome State Fault Refusal :=
  command (.matrixEngineStart core me) (s.canStart core me) s (s.doStart core me)

/-- The attempt of a started instruction with its group; none once its result is held. -/
def State.headAttempt (s : State) (core me : Nat) : Option (MatCmd × Group × Attempt) :=
  match s.engineHead core me with
  | none => none
  | some m =>
    if !m.started || m.held.isSome then none
    else (s.matGroup m).map (fun x => (m, x.2, s.attempt core x.2.part m))

/-- Whether an attempt is one to abandon. -/
def Attempt.dirty : Attempt → Bool
  | .busy => true
  | .mismatch _ _ => true
  | _ => false

/-- ENGINE_ATTEMPT_ABANDON (06 R210): nothing is written and the generator is as it was; a second
counted mismatch of one operand at one GEN leads to 03 R100. -/
def State.doAbandon (s : State) (core me : Nat) : State :=
  match s.headAttempt core me with
  | some (m, _, .busy) =>
    s.setEngineHead core me { m with started := false, wait := s.openWait m.wait }
  | some (m, g, .mismatch mark l) =>
    if m.wait.mismatch == some mark then
      let r := s.secondMismatch core g.part l (mark % 65536) false
      (r.2.popEngine core me).raiseLate core m.slot g.part g.ctx 0x0101 0xFF 0 0 m.pc
    else s.setEngineHead core me { m with started := false, wait := { m.wait with mismatch := some mark } }
  | _ => s

def execEngineAttemptAbandon (core me : Nat) (s : State) : Host.Outcome State Fault Refusal :=
  command (.engineAttemptAbandon core me)
    ((s.headAttempt core me).any (fun x => x.2.2.dirty)) s (s.doAbandon core me)

/-- The tiles of a result written, each under its step 1 when that came before (03 R93; 06 R217). Two targets that
name one tile are written one after the other. -/
def State.writeTargets (s : State) (core part : Nat) : List (TLoc × BitVec 128) → List (List Byte × List Byte) →
    List W64 → State
  | d :: ds, t :: ts, hs =>
    match hs with
    | w :: hs =>
      match s.finishTile core part d.1 w t.1 t.2 .tileWrite with
      | .ok s => State.writeTargets s core part ds ts hs
      | .error _ => s
    | [] =>
      match s.writeTile core part d.1 (hRole d.2) (hVrows d.2) (hVcols d.2) core 3 t.1 t.2 .tileWrite with
      | .ok (some s) => State.writeTargets s core part ds ts []
      | _ => s
  | _, _, _ => s

/-- No-verify operands read (03 R103). -/
def State.countNv (s : State) (os : List Operand) : State :=
  os.foldl (fun s o => if o.nv then s.rasCount 5 else s) s

/-- A refetch that passes at the GEN of the first mismatch (03 R99). -/
def State.confirmRefetch (s : State) (w : TileWait) (ts : List TileImage) : State :=
  match w.mismatch with
  | none => s
  | some mark =>
    match ts[mark / 65536]? with
    | some t => if hdrGen t.word0 == mark % 65536 then (s.rasCount 0).rasCount 1 else s
    | none => s

/-- What a clean attempt of the head delivers: its no-verify reads and confirmed refetches counted and the
engine's generator advanced; the result with the state after. -/
def State.engineResult (s : State) (core me : Nat) (m : MatCmd) (g : Group) (ts : List TileImage) : MatResult × State :=
  let c := s.core core
  let r := runMat m g ts (c.gen me)
  let s := (s.countNv (s.matOperands core g.part m)).confirmRefetch m.wait ts
  (r, s.setCore core (c.setGen me r.gen))

/-- A fault of the head's attempt. -/
def State.engineFails (s : State) (core me : Nat) (m : MatCmd) (g : Group) (c : Nat) : State :=
  let s := if c == 0x0103 then s.rasCount 4 else s
  (s.popEngine core me).raiseLate core m.slot g.part g.ctx c 0xFF 0 0 m.pc

/-- Steps 2 to 4 of a held result; its group, while it is resident, takes the flags (03 R93 to R95, 11 R403). -/
def State.finishHeld (s : State) (core me : Nat) (m : MatCmd) (h : MatHeld) : State :=
  ((((s.writeTargets core h.part (matTargets m) h.tiles h.hdrs).popEngine core me).postFlags m.gtag h.flags)).retireWork
    m.gtag

/-- ENGINE_INSTRUCTION_COMPLETE (06 R215 to R218): accumulators or tiles written, flags posted, the
completion counted; the result of a group that is gone is discarded (11 R403). -/
def State.doEngineComplete (s : State) (core me : Nat) : State :=
  match s.engineHead core me with
  | none => s
  | some m =>
    match m.held, s.groupOf m.gtag with
    | some h, _ => s.finishHeld core me m h
    | none, none => s.popEngine core me
    | none, some i =>
      match s.group? i with
      | none => s.popEngine core me
      | some g =>
        match s.attempt core g.part m with
        | .clean ts =>
          let r := s.engineResult core me m g ts
          let s := r.2.writeTargets core g.part (matTargets m) r.1.tiles []
          ((s.setGroup i (r.1.g.addFlags r.1.flags)).popEngine core me).retireWork m.gtag
        | .fault c => s.engineFails core me m g c
        | _ => s

/-- A started instruction whose group is gone, or whose attempt is not to be abandoned, completes. -/
def State.canComplete (s : State) (core me : Nat) : Bool :=
  match s.engineHead core me with
  | none => false
  | some m => m.started && (s.headAttempt core me).all (fun x => !x.2.2.dirty)

def execEngineInstructionComplete (core me : Nat) (s : State) : Host.Outcome State Fault Refusal :=
  command (.engineInstructionComplete core me) (s.canComplete core me) s
    (s.doEngineComplete core me)

/-- Step 1 of every destination of the head, before the rest (03 R94). -/
def State.beginTargets (s : State) (core part : Nat) : List (TLoc × BitVec 128) → List W64 × State
  | [] => ([], s)
  | d :: ds =>
    match s.beginTile core part d.1 (hRole d.2) (hVrows d.2) (hVcols d.2) core 3 .tileWrite with
    | .ok (some w, s) => let r := State.beginTargets s core part ds; (w :: r.1, r.2)
    | _ => ([], s)

/-- Whether the head of an engine can perform step 1 of its destinations. -/
def State.engineCanBegin (s : State) (core me : Nat) : Bool :=
  match s.headAttempt core me with
  | some (m, _, .clean _) => !(matTargets m).isEmpty
  | _ => false

/-- Step 1 of the head's destinations, once the result is held (03 R93, R95). -/
def State.engineBegin (s : State) (core me : Nat) : State :=
  match s.headAttempt core me with
  | some (m, g, .clean ts) =>
    let r := s.engineResult core me m g ts
    let b := r.2.beginTargets core g.part (matTargets m)
    b.2.setEngineHead core me { m with held := some ⟨b.1, r.1.tiles, r.1.flags, g.part⟩, wait := TileWait.fresh }
  | _ => s

end Sys2Proof.Machine
end

