-- ==== Sys2Proof/Machine/Far.lean ====
section
/-!
DEFINITION. Far operations (08 R292 to R295; 05 R183, R185; 06 R231 to R233; 02 R75) and the commands of
the tile mover as a whole: completion, fault, posting (06 R221 to R223, R229).
-/
namespace Sys2Proof.Machine

/-! ### Tile-mover commands (06 R221 to R223) -/

/-- A command of a core's tile mover. -/
def State.tmCmd (s : State) (core cmd : Nat) : Option TmCmd := (s.core core).tm.find? (fun c => c.id == cmd)

/-- A command replaced. -/
def State.setTm (s : State) (core : Nat) (c : TmCmd) : State :=
  let x := s.core core
  s.setCore core { x with tm := x.tm.map (fun y => if y.id == c.id then c else y) }

/-- A command that leaves the queue; seeds behind it take effect (05 R192). -/
def State.dropTm (s : State) (core cmd : Nat) : State :=
  let x := s.core core
  s.setCore core (drainTmSeeds x (x.tm.filter (fun y => y.id != cmd)))

/-- A transfer of a command. -/
def TmCmd.xfer (c : TmCmd) (idx : Nat) : Option Xfer := c.xfers.find? (fun x => x.idx == idx)

def TmCmd.setXfer (c : TmCmd) (x : Xfer) : TmCmd :=
  { c with xfers := c.xfers.map (fun y => if y.idx == x.idx then x else y) }

/-- A transfer with its command. -/
def State.xfer (s : State) (core cmd idx : Nat) : Option (TmCmd × Xfer) :=
  match s.tmCmd core cmd with
  | none => none
  | some c => (c.xfer idx).map (fun x => (c, x))

def State.setXfer (s : State) (core : Nat) (c : TmCmd) (x : Xfer) : State := s.setTm core (c.setXfer x)

/-- Whether a command's context has been torn down. -/
def State.tmDead (s : State) (c : TmCmd) : Bool := s.f F.tunCtx_STATE (16 * c.part + c.ctx) == 5

/-- A command that has faulted, or whose context is gone, leaves the queue with its last transfer (06 R223,
11 R403). -/
def State.settleTm (s : State) (core : Nat) (c : TmCmd) : State :=
  if c.xfers.isEmpty then s.dropTm core c.id else s.setTm core c

/-- A fault of a tile-mover command at one of its transfers: the transfer ends, no completion is
posted, and no further transfer starts (06 R223). A command that has faulted before raises nothing more. -/
def State.faultXfer (s : State) (core cmd idx code : Nat) (info : W32) : State :=
  match s.tmCmd core cmd with
  | none => s
  | some c =>
    let c' := { c with xfers := c.xfers.filter (fun x => x.idx != idx), faulted := true, total := c.cursor }
    let s := s.settleTm core c'
    if c.faulted || s.tmDead c then s else s.raiseLate core c.slot c.part c.ctx code 0xFF 1 info c.pc

/-- A command that faults before any transfer, or outside one. -/
def State.faultTm (s : State) (core : Nat) (c : TmCmd) (code : Nat) (info : W32) : State :=
  s.raiseLate core c.slot c.part c.ctx code 0xFF 1 info c.pc

/-- A line made ready for a far operation of a partition: held by the slice where it is resident or a way of the
partition can take it, else used at memory; none while every eligible way is reduction-busy (08 R274, R293,
R294). An operation from the fabric does not allocate. -/
def State.slicePlace (s : State) (part : Nat) (remote : Bool) (line : Nat) : Option State :=
  let (slice, set) := s.homeOf line
  match lineKind line with
  | .global _ =>
    if !s.cacheable line then some s
    else if (s.cacheAt line).isSome || remote then some (s.supply line none true)
    else if !(s.eligible slice part).isEmpty && (s.victim slice set part).isNone then none
    else some (s.supply line (some part) true)
  | _ => some (s.supply line none true)

/-- A 64-bit add at a word of this device's memory: the far atomic of a completion word (06 R222, 08 R293); the
error is a fault code, 0 for a wait. -/
def State.addWord (s : State) (part line byte : Nat) : Except Nat State :=
  if s.poisoned line then .error 0x0220
  else
    let s := s.recallAll line true
    if s.poisoned line then .error 0x0220
    else
      match s.slicePlace part false line with
      | none => .error 0
      | some s =>
        let d := s.curLine line
        let v := leNat ((d.drop byte).take 8) + 1
        .ok (s.putHome line (patch d byte (leBytes 8 v)))

/-- Whether the completion of a command retires work of its group (04 R143): copies, far atomics and tile
reductions, not ranges. -/
def TmCmd.retires (c : TmCmd) : Bool := opcOf c.w0 == 0xE0 || opcOf c.w0 == 0xE1 || opcOf c.w0 == 0xE2

/-- A command leaves the queue, its completion posted. -/
def State.postedTm (s : State) (core : Nat) (c : TmCmd) : State :=
  let s := s.dropTm core c.id
  if c.retires then s.retireWork c.gtag else s

/-- A command posts its completion and leaves the queue (06 R222); it stays while its completion word cannot be
reached, and posts later. -/
def State.postCommand (s : State) (core : Nat) (c : TmCmd) : State :=
  let t := tForm c.w0 c.w1
  let bad (s : State) (e : Nat) : State := (s.dropTm core c.id).faultTm core c e (c.sd.truncate 32)
  if opcOf c.w0 == 0xE2 || t.opt % 2 == 0 then s.postedTm core c
  else if t.opt / 2 % 2 == 0 then
    let v := leNat (s.localRead core c.part c.sd.toNat 8) + 1
    (s.localWrite core c.part c.sd.toNat (leBytes 8 v)).postedTm core c
  else
    match s.lineOf c.part 2 c.sd .atomic with
    | .error 0 => s
    | .error e => bad s e
    | .ok (l, s) =>
      match s.addWord c.part l (c.sd.toNat % 128) with
      | .ok s => s.postedTm core c
      | .error 0 => s
      | .error e => bad (s.countPoison l) e

/-- A transfer leaves its command; with the last one the command posts, unless it faulted or its context is
gone. -/
def State.endXfer (s : State) (core cmd idx : Nat) : State :=
  match s.tmCmd core cmd with
  | none => s
  | some c =>
    let c := { c with xfers := c.xfers.filter (fun x => x.idx != idx) }
    let s := s.setTm core c
    if !c.xfers.isEmpty || c.cursor < c.total then s
    else if c.faulted || s.tmDead c then s.dropTm core cmd
    else s.postCommand core c

/-! ### The queue of a slice (08 R269, R294) -/

/-- The far operations of a slice, oldest first. -/
def State.farQueue (s : State) (slice : Nat) : List FarOp := s.mem.farOps.filter (fun o => o.slice == slice)

/-- Whether a slice still takes a far operation (08 R294). -/
def State.farRoom (s : State) (slice : Nat) : Bool := (s.farQueue slice).length < 64

/-- The lines that a far operation keeps reduction-busy: an atomic's line, or every line of a reduction's
destination tile (08 R294). -/
def State.farAll (s : State) (o : FarOp) : List Nat :=
  match o.kind with
  | .atomic _ _ _ _ _ _ => [o.line]
  | .reduce _ _ h a _ _ _ _ =>
    match s.tileLines o.part ⟨hSpace h, hFormat h, a, 0⟩ .copyDestination with
    | .ok (t, _) => t.all
    | .error _ => [o.line]

/-- The reduction-busy count of a line's slice copy: the operations queued for it (08 R294). -/
def State.markBusy (s : State) (line : Nat) : State :=
  match s.cacheAt line with
  | none => s
  | some (k, c) =>
    let n := (s.mem.farOps.filter (fun o => (s.farAll o).contains line)).length
    { s with mem := { s.mem with cache := SMap.put s.mem.cache k { c with busy := n } } }

def State.markAll (s : State) (ls : List Nat) : State := ls.foldl (fun s l => s.markBusy l) s

/-- A far operation arrives at its line's slice; its number. -/
def State.pushFar (s : State) (line part : Nat) (kind : FarKind) (owner : FarOwner) : Nat × State :=
  let id := s.co.nextCmd
  let o : FarOp := ⟨id, (s.homeOf line).1, line, part, kind, owner, false, TileWait.fresh⟩
  let s := { s with co := { s.co with nextCmd := id + 1 } }
  (id, { s with mem := { s.mem with farOps := s.mem.farOps ++ [o] } }.markAll (s.farAll o))

def State.dropFar (s : State) (o : FarOp) : State :=
  { s with mem := { s.mem with farOps := s.mem.farOps.filter (fun x => x.id != o.id) } }.markAll (s.farAll o)

def State.setFar (s : State) (o : FarOp) : State :=
  { s with mem := { s.mem with farOps := s.mem.farOps.map (fun x => if x.id == o.id then o else x) } }

/-- The first operation of a slice that may execute: the slice serves, none waits before it for its line, and no
request is in progress there (08 R285, R299). -/
def State.nextFar (s : State) (slice : Nat) (stalled : Bool) : Option FarOp :=
  let q := s.farQueue slice
  q.find? (fun o => o.stalled == stalled && s.sliceOn o.line && o.wait.opened.isNone && (SMap.find s.mem.txns o.line).isNone &&
    (q.takeWhile (fun x => x.id != o.id)).all (fun x => x.line != o.line))

/-- The line made ready for a far operation, which keeps it reduction-busy. -/
def State.farLine (s : State) (o : FarOp) (line : Nat) : Option State :=
  let remote := match o.owner with
    | .remote _ _ _ => true
    | _ => false
  (s.slicePlace o.part remote line).map (fun s => s.markBusy line)

def State.farLines (o : FarOp) : List Nat → State → Option State
  | [], s => some s
  | l :: ls, s =>
    match s.farLine o l with
    | none => none
    | some s => State.farLines o ls s

/-! ### Delivery -/

/-- The fault of a far operation, and the operation ended. -/
def State.farFault (s : State) (o : FarOp) (code : Nat) (a : W64) : State :=
  let s := s.dropFar o
  let s := if code == 0x0220 then s.countPoison o.line else s
  match o.owner with
  | .access id _ => s.faultAccess id code (a.truncate 32)
  | .xfer core cmd idx => s.faultXfer core cmd idx code (a.truncate 32)
  | .remote _ tag snode =>
    let type : BitVec 6 := match o.kind with
      | .atomic _ _ _ _ _ _ => 0x12
      | _ => 0x13
    s.respond snode.toNat tag o.part (failed 1 type code)

/-- Whether a far operation performs its update on an old value (04 R143). -/
def FarOp.hits (o : FarOp) (old : W64) : Bool :=
  match o.kind with
  | .atomic fn w64 _ _ _ c => atomicHit w64 fn old c
  | .reduce _ _ _ _ _ _ _ _ => true

/-- The old value of an atomic on its way back; an update performed retires work (04 R143). -/
def State.farAnswer (s : State) (o : FarOp) (w64 : Bool) (old : W64) (fl : FFlags) : State :=
  let n := if w64 then 8 else 4
  match o.owner with
  | .access id idx =>
    match SMap.find s.co.accesses id with
    | none => s
    | some a =>
      let a' := { a with got := a.got.set idx (some (leBytes n old.toNat)) }
      let s := ({ s with co := { s.co with accesses := SMap.put s.co.accesses id a' } }).postFlags a.gtag fl
      if o.hits old then s.retireWork a.gtag else s
  | .xfer core cmd idx =>
    match s.xfer core cmd idx with
    | none => s
    | some (c, x) => (s.setXfer core c { x with stage := .read old [] [] }).postFlags c.gtag fl
  | .remote _ tag snode =>
    s.respond snode.toNat tag o.part
      { Msg.empty with vc := 1, type := 0x12, head := leBytes 8 (old.toNat % 2 ^ (8 * n)) }

/-! ### Execution (08 R293) -/

/-- A far atomic on its line (02 R75, 05 R182; 08 R287): a poisoned line keeps its entry. -/
def State.farAtomic (s : State) (o : FarOp) (fn : Nat) (w64 sat : Bool) (a b c : W64) : State :=
  if s.poisoned o.line then s.farFault o 0x0220 a
  else
    let s := s.recallAll o.line true
    if s.poisoned o.line then s.farFault o 0x0220 a
    else
      match s.farLine o o.line with
      | none => s.setFar { o with stalled := true }
      | some s =>
        let n := if w64 then 8 else 4
        let at' := a.toNat % 128
        let d := s.curLine o.line
        let old := BitVec.ofNat 64 (leNat ((d.drop at').take n))
        let r := atomicResult w64 fn sat old b c
        ((s.putHome o.line (patch d at' (leBytes n r.1.toNat))).dropFar o).farAnswer o w64 old r.2

/-- The address that a far operation accesses, as CORE_FAULT_INFO holds it (08 R298). -/
def FarOp.addr (o : FarOp) : W64 :=
  match o.kind with
  | .atomic _ _ _ a _ _ => a
  | .reduce _ _ _ a _ _ _ _ => a

/-- The core whose number a reduction writes, or the port it arrived on, with its WRITER_CLASS (06 R231). -/
def FarOp.writer (o : FarOp) : Nat × Nat :=
  match o.owner with
  | .xfer core _ _ => (core, 1)
  | .remote port _ _ => (port, 4)
  | .access _ _ => (0, 0)

/-- A reduction landed. -/
def State.farLanded (s : State) (o : FarOp) (fl : FFlags) : State :=
  match o.owner with
  | .xfer core cmd idx =>
    match s.xfer core cmd idx with
    | none => s
    | some (c, x) => (s.setXfer core c { x with stage := .landed }).postFlags c.gtag fl
  | .remote _ tag snode =>
    s.respond snode.toNat tag o.part { Msg.empty with vc := 1, type := 0x13 }
  | .access _ _ => s

/-- A reduction contribution applied whole to its destination tile (06 R230, R231; 03 R102). -/
def State.farReduce (s : State) (o : FarOp) (op : Nat) (sat : Bool) (l : TLoc) (src : TileImage) : State :=
  match s.tileLines o.part l .copyDestination with
  | .error c => if c == 0 then s else s.farFault o c l.addr
  | .ok (t, s) =>
    match State.farLines o (t.hdr :: t.pay) s with
    | none => s.setFar { o with stalled := true }
    | some s =>
      match s.readTile 0xFFFF o.part l l.tf 0 false .copyDestination with
      | (.wait, s) => s.setFar { o with wait := s.openWait o.wait }
      | (.fault c, s) => s.farFault o c l.addr
      | (.good dst, s) =>
        let r := reduceTile op sat dst src
        match s.writeTile 0xFFFF o.part l 0 (hdrVrows dst.word0) (hdrVcols dst.word0) o.writer.1 o.writer.2
            r.1 [] .copyDestination with
        | .error c => s.farFault o c l.addr
        | .ok none => s.setFar { o with wait := s.openWait o.wait }
        | .ok (some s) => (s.dropFar o).farLanded o r.2
      | (_, s) => s

/-- A far operation executed. -/
def State.runFar (s : State) (o : FarOp) : State :=
  let o := { o with stalled := false }
  match o.kind with
  | .atomic fn w64 sat a b c => s.farAtomic o fn w64 sat a b c
  | .reduce op sat h a _ w p sc => s.farReduce o op sat ⟨hSpace h, hFormat h, a, 0⟩ ⟨w, p, sc⟩

/-- FAR_OPERATION (08 R293): the slice takes the oldest operation that no other precedes on its line. -/
def execFarOperation (slice : Nat) (s : State) : Host.Outcome State Fault Refusal :=
  command (.farOperation slice) (s.nextFar slice false).isSome s
    (match s.nextFar slice false with
     | some o => s.runFar o
     | none => s)

/-- A stalled operation whose lines are free to take (08 R294). -/
def State.canResume (s : State) (o : FarOp) : Bool :=
  match s.runFar o with
  | t => (t.mem.farOps.find? (fun x => x.id == o.id)).all (fun x => !x.stalled)

/-- FAR_OP_RESUME (08 R294). -/
def execFarOpResume (slice : Nat) (s : State) : Host.Outcome State Fault Refusal :=
  command (.farOpResume slice) ((s.nextFar slice true).any s.canResume) s
    (match s.nextFar slice true with
     | some o => s.runFar o
     | none => s)

/-- Whether every old value of an access has come back. -/
def State.accessDone (s : State) (i : Issuer) (id : Nat) : Bool :=
  match SMap.find s.co.accesses id with
  | some a => a.who == i && a.got.all Option.isSome
  | none => false

/-- The access closes (05 R185). -/
def State.doFarAtomicResponse (s : State) (id : Nat) : State := s.closeAccess id

/-- Whether a far atomic that a group sent to a line here earlier has not performed (07 R258). -/
def State.farAhead (s : State) (gtag line : Nat) : Bool :=
  s.mem.farOps.any (fun o => o.line == line &&
    match o.owner with
    | .access id _ => (SMap.find s.co.accesses id).any (fun a => a.gtag == gtag)
    | _ => false)

/-- Whether an operation that another node sent to a line here earlier has not performed (10 R353). -/
def State.farFrom (s : State) (snode : W16) (line : Nat) : Bool :=
  s.mem.farOps.any (fun o => (s.farAll o).contains line &&
    match o.owner with
    | .remote _ _ n => n == snode
    | _ => false)

/-- FAR_ATOMIC_RESPONSE (05 R185). -/
def execFarAtomicResponse (i : Issuer) (id : Nat) (s : State) : Host.Outcome State Fault Refusal :=
  command (.farAtomicResponse i id) (s.accessDone i id) s
    (s.doFarAtomicResponse id)

end Sys2Proof.Machine
end

