-- ==== Sys2Proof/Machine/Atomic.lean ====
section
/-!
DEFINITION. Where the words of a memory instruction lie (05 R178), atomics (05 R182 to R185) and locks
(04 R137 to R142; 05 R186): near ones in the core's L1 or in Local space, far ones at their slice, those
of other nodes at the node.
-/
namespace Sys2Proof.Machine

/-! ### Where a word lies (05 R178) -/

/-- The place of one access: Local space of the core, a line of this device, another node, a register. -/
inductive MemAt where
  | loc (a : Nat)
  | line (l byte : Nat)
  | away (cls node ofs : Nat)
  | regs (node ofs : Nat)
  deriving DecidableEq, Repr

/-- The checks of an access and its place; the error is a fault code, 0 for a stall. A command processor
has no Local space. -/
def State.memAt (s : State) (i : Issuer) (g : Group) (space size : Nat) (a : W64) (u : Use) :
    Except Nat (MemAt × State) :=
  if a.toNat % size != 0 then .error 0x0405
  else
    match space with
    | 0 => if localSize < a.toNat + size || i.isCp then .error 0x0406 else .ok (.loc a.toNat, s)
    | 1 =>
      if 2 ^ 32 ≤ a.toNat then .error 0x0406
      else
        match s.nearLine g.part a.toNat with
        | .error c => .error c
        | .ok l => .ok (.line l (a.toNat % 128), s)
    | _ =>
      match s.translate g.part a u with
      | .stall => .error 0
      | .fault c => .error c
      | .at (.own _ ofs) => .ok (.line (gLine ofs) (ofs % 128), s.noteXlat g.part a)
      | .at (.remote cls n o) => .ok (.away cls n o, s)
      | .at (.regs n o) => .ok (.regs n o, s)

/-- The places of several lanes, or the first lane that fails. -/
def State.memAll (s : State) (i : Issuer) (g : Group) (space size : Nat) (u : Use) :
    List (Nat × W64) → Except (Nat × Nat × W64) (List (Nat × MemAt) × State)
  | [] => .ok ([], s)
  | p :: ps =>
    match s.memAt i g space size p.2 u with
    | .error c => .error (c, p.1, p.2)
    | .ok (x, s) =>
      match s.memAll i g space size u ps with
      | .error e => .error e
      | .ok (xs, s) => .ok ((p.1, x) :: xs, s)

/-- The fault of a memory instruction at a lane of a space; a stall leaves the group at the instruction. -/
def State.laneFault (s : State) (i : Issuer) (g : Group) (space : Nat) (e : Nat × Nat × W64) : State :=
  s.addrFault i g space e.1 e.2.1 e.2.2

/-- Whether some lane's word lies on a line of this device where an earlier far atomic of the group waits: the
access is not performed before it (07 R258). -/
def State.behindFar (s : State) (g : Group) (ps : List (Nat × MemAt)) : Bool :=
  ps.any (fun p => match p.2 with
    | .line l _ => s.farAhead g.gtag l
    | _ => false)

/-- A copy of a word of this device as a core sees it: through its L1, or at the home of a line that no L1
holds (07 R250). -/
def State.ownWord (s : State) (core part l byte n : Nat) : Except Nat (List Byte × State) :=
  if core < 256 && s.cacheable l then
    match s.l1Own core part l with
    | .error c => .error c
    | .ok s => .ok (((s.curLine l).drop byte).take n, s)
  else
    match s.naRead l with
    | .error c => .error c
    | .ok (d, s) => .ok ((d.drop byte).take n, s)

/-- A word of this device written after `ownWord`. -/
def State.putWord (s : State) (core l byte : Nat) (d : List Byte) : Except Nat State :=
  if core < 256 && s.cacheable l then .ok (s.l1Write l byte d) else s.naWrite l byte d

/-- One indivisible update of a word on this device (08 R292). -/
def State.update (s : State) (core part : Nat) (x : MemAt) (n : Nat) (f : W64 → Option W64) :
    Except Nat (W64 × State) :=
  match x with
  | .loc a =>
    let old := BitVec.ofNat 64 (leNat (s.localRead core part a n))
    match f old with
    | some v => .ok (old, s.localWrite core part a (leBytes n v.toNat))
    | none => .ok (old, s)
  | .line l byte =>
    match s.ownWord core part l byte n with
    | .error c => .error c
    | .ok (d, s) =>
      let old := BitVec.ofNat 64 (leNat d)
      match f old with
      | none => .ok (old, s)
      | some v =>
        match s.putWord core l byte (leBytes n v.toNat) with
        | .error c => .error c
        | .ok s => .ok (old, s)
  | _ => .error 0x0213

/-- The address a lane of a format A instruction names (05 R182). -/
def laneAddrs (g : Group) (va : Nat) (lanes : List Nat) : List (Nat × W64) := lanes.map (fun k => (k, g.v64 va k))

/-- The issue of an atomic or a lock at the places of its lanes. -/
def State.atPlaces (s : State) (i : Issuer) (g : Group) (a : AForm) (size : Nat) (u : Use)
    (act : State → List (Nat × MemAt) → State) : State :=
  let lanes := lanesOf (g.parts a.g)
  match s.memAll i g a.sp size u (laneAddrs g a.va lanes) with
  | .error e => s.laneFault i g a.sp e
  | .ok (ps, t) =>
    match ps.find? (fun p => match p.2 with
      | .regs _ _ => true
      | _ => false) with
    | some p => s.refuse i g 0x0213 p.1 ((g.v64 a.va p.1).truncate 32)
    | none => act t ps

/-! ### Atomics (05 R182 to R185) -/

/-- The operand of a lane at the width of the atomic. -/
def Group.operand (g : Group) (w64 : Bool) (r lane : Nat) : W64 :=
  if w64 then g.v64 r lane else (g.v r lane).setWidth 64

/-- An old value returned to a lane. -/
def Group.setOld (g : Group) (w64 : Bool) (vd lane : Nat) (x : W64) : Group :=
  if w64 then g.setV64 vd lane x else g.setV vd lane (x.truncate 32)

/-- A near atomic's lanes in ascending order: the old values go to the group `g`, operands come from
`g0`. -/
def State.nearAtomics (s : State) (core : Nat) (g0 : Group) (fn : Nat) (a : AForm) :
    List (Nat × MemAt) → Group → Bool → Except (Nat × Nat × W64) (Group × Bool × State)
  | [], g, hit => .ok (g, hit, s)
  | p :: ps, g, hit =>
    let b := g0.operand a.w64 a.vb p.1
    let c := g0.operand a.w64 a.vc p.1
    let n := if a.w64 then 8 else 4
    match s.update core g0.part p.2 n (fun old => some (atomicResult a.w64 fn a.ov old b c).1) with
    | .error e => .error (e, p.1, g0.v64 a.va p.1)
    | .ok (old, s) =>
      let g := (g.setOld a.w64 a.vd p.1 old).addFlags (atomicResult a.w64 fn a.ov old b c).2
      s.nearAtomics core g0 fn a ps g (hit || fn != 9 || old == c)

/-- Whether an atomic's place makes it a far one: FAR, another node, or a region that is not cacheable
(05 R183, 07 R250). -/
def State.isFar (s : State) (a : AForm) : MemAt → Bool
  | .line l _ => a.far || !s.cacheable l
  | .away _ _ _ => true
  | _ => false

/-- The line and byte of a place in memory. -/
def MemAt.spot : MemAt → Nat × Nat
  | .loc a => (0, a)
  | .line l b => (l, b)
  | .away _ n o => (rLine n o, o % 128)
  | .regs _ o => (0, o)

/-- The access of a group's far lanes. -/
def farAccess (i : Issuer) (g : Group) (fn size vd count : Nat) (fp isStore : Bool) (ps : List (Nat × MemAt)) : Access :=
  { who := i, gtag := g.gtag, part := g.part, ctx := g.ctx, pc := g.pc, isStore := isStore, fp := fp,
    lanes := ps.map Prod.fst, scalar := false, vd := vd, regs := (List.range count).map (· + vd), size := size,
    signed := false, fn := fn, places := ps.map (fun p => p.2.spot), got := ps.map (fun _ => none) }

/-- A far atomic of one word, named by the address `va`, on its way: to its slice, or to its node (08 R293, R298;
10 R351). -/
def State.sendAtomic (s : State) (g : Group) (id idx fn : Nat) (w64 sat : Bool) (x : MemAt) (va b c : W64) : State :=
  match x with
  | .line l _ => (s.pushFar l g.part (.atomic fn w64 sat va b c) (.access id idx)).2
  | .away cls n o =>
    match (s.dropRemote (rLine n o)).request (.atomic id idx) g.part g.ctx n (atomMsg cls n o fn w64 sat b c) (rLine n o) with
    | some t => t
    | none => s.faultAccess id 0x0604 (BitVec.ofNat 32 (n % 65536 + 0x22 * 2 ^ 16))
  | _ => s

/-- The far lanes of an atomic sent in ascending order. -/
def State.sendAtomics (s : State) (g : Group) (id fn : Nat) (a : AForm) (ps : List (Nat × MemAt)) : State :=
  ps.zipIdx.foldl (fun s p =>
    s.sendAtomic g id p.2 fn a.w64 a.ov p.1.2 (g.v64 a.va p.1.1) (g.operand a.w64 a.vb p.1.1) (g.operand a.w64 a.vc p.1.1)) s

/-- Whether every slice has taken what it may hold (08 R294). -/
def State.farFits (s : State) : Bool := s.mem.farOps.all (fun o => (s.farQueue o.slice).length ≤ 64)

/-- ATOMIC (05 R182). -/
def State.doAtomic (s : State) (i : Issuer) (w : W64) : State :=
  s.issue i w (fun g =>
    let a := aForm w
    let fn := fnOf w
    let n := if a.w64 then 8 else 4
    s.atPlaces i g a n .atomic (fun s ps =>
      let far := ps.filter (fun p => s.isFar a p.2)
      let near := ps.filter (fun p => !s.isFar a p.2)
      if s.behindFar g near then s.stall i g
      else
      match s.nearAtomics i.core g fn a near g false with
      | .error e => s.laneFault i g a.sp e
      | .ok (g', hit, t) =>
        let t := t.retire i g'
        let t := if hit then t.retireWork g.gtag else t
        if far.isEmpty then t
        else
          let (id, t) := t.openAccess (farAccess i g fn n a.vd (if a.w64 then 2 else 1) (atomicFp fn) true far)
          let t := t.sendAtomics g id fn a far
          if t.farFits then t else s.stall i g))

def execAtomic (i : Issuer) (w : W64) (s : State) : Host.Outcome State Fault Refusal :=
  command (.atomic i w) (s.canIssue i) s (s.doAtomic i w)

/-! ### Lock words (04 R137 to R139) -/

def lkHeld (w : W64) : Bool := w.getLsbD 0
def lkLane (w : W64) : Nat := fld w 1 5
def lkGtag (w : W64) : Nat := fld w 6 26
def lkNode (w : W64) : Nat := fld w 32 16
def lkSeq (w : W64) : Nat := fld w 48 16

/-- The word of a lock that a thread has acquired (04 R137, R139). -/
def lkTaken (w : W64) (node : W16) (gtag lane : Nat) : W64 :=
  BitVec.ofNat 64 (1 + lane * 2 + gtag * 2 ^ 6 + node.toNat * 2 ^ 32 + (lkSeq w + 1) % 2 ^ 16 * 2 ^ 48)

/-- The word of a released lock: SEQ stays (04 R142). -/
def lkFree (w : W64) : W64 := BitVec.ofNat 64 (lkSeq w * 2 ^ 48)

/-- What an acquire meets: it takes the lock, ends with a status, waits, or meets a malformed word. -/
inductive LockMet where
  | take
  | status (n : Nat)
  | other
  | malformed
  deriving DecidableEq, Repr

/-- The table of 04 R139. -/
def lockMet (w : W64) (node : W16) (gtag lane : Nat) : LockMet :=
  if !lkHeld w then (if fld w 1 47 == 0 then .take else .malformed)
  else if lkNode w == node.toNat && lkGtag w == gtag then (if lkLane w == lane then .status 3 else .status 2)
  else .other

/-- One attempt on a lock word of this device (04 R139, R141); the error is a fault code with CORE_FAULT_INFO where
it is not the address (04 R148). -/
def State.tryLock (s : State) (core : Nat) (g : Group) (lane : Nat) (x : MemAt) :
    Except (Nat × Option W32) (Option Nat × State) :=
  match s.update core g.part x 8 (fun old =>
    if lockMet old g.node g.gtag lane == .take then some (lkTaken old g.node g.gtag lane) else none) with
  | .error c => .error (c, none)
  | .ok (old, s) =>
    match lockMet old g.node g.gtag lane with
    | .take => .ok (some 0, s)
    | .status n => .ok (some n, s)
    | .other => .ok (none, s)
    | .malformed => .error (0x0307, some (old.truncate 32))

/-- An attempt on a lock word of another node: one compare-and-swap that expects `seen`, a free word (04 R141; log
entry 34). -/
def State.askLock (s : State) (i : Issuer) (g : Group) (lane cls node ofs : Nat) (seen : W64) : State :=
  let x : MemAt := .away cls node ofs
  let (id, s) := s.openAccess (farAccess i g 18 8 0 0 false true [(lane, x)])
  s.sendAtomic g id 0 9 true false x (mkGa cls node ofs) (lkTaken seen g.node g.gtag lane) seen

/-- The SELF_HELD and HELD_OTHER statuses that a lock-acquire returns, counted (04 R150). -/
def State.countLocks (s : State) (i : Issuer) (lanes : List LockLane) : State :=
  let n (k : Nat) : Nat := (lanes.filter (fun l => l.status == some k)).length
  (s.countCore i 3 (n 2)).countCore i 4 (n 1)

/-- The lock-acquire ends when every lane has its status: the statuses are written and counted, and the group goes
on. -/
def State.endLock (s : State) (i : Issuer) : State :=
  match s.group? i with
  | none => s
  | some g =>
    match g.wait with
    | .lock _ vd lanes _ =>
      if lanes.all (fun l => l.status.isSome) then
        let g' := lanes.foldl (fun g (l : LockLane) => g.setV vd l.lane (BitVec.ofNat 32 (l.status.getD 1))) g
        (s.setGroup i { g' with wait := .none }).countLocks i lanes
      else s
    | _ => s

/-- The first attempts of a lock-acquire's lanes on this device, ascending; lanes of other nodes stay
open. -/
def State.firstTries (s : State) (core : Nat) (g : Group) :
    List (Nat × MemAt) → Except (Nat × Nat × Option W32) (List (Nat × Option Nat) × State)
  | [] => .ok ([], s)
  | (_, .away _ _ _) :: ps =>
    match s.firstTries core g ps with
    | .error e => .error e
    | .ok (xs, s) => .ok (xs, s)
  | (lane, x) :: ps =>
    match s.tryLock core g lane x with
    | .error (c, info) => .error (c, lane, info)
    | .ok (st, s) =>
      match s.firstTries core g ps with
      | .error e => .error e
      | .ok (xs, s) => .ok ((lane, st) :: xs, s)

/-- Whether some lane acquired. -/
def acquired (xs : List (Nat × Option Nat)) : Bool := xs.any (fun x => x.2 == some 0)

/-- A fault of a lock: CORE_FAULT_INFO is the word found, or the address (04 R148, 08 R298). -/
def State.lockFault (s : State) (i : Issuer) (g : Group) (space code lane : Nat) (info : Option W32) (a : W64) : State :=
  match info with
  | some w => s.refuse i g code lane w
  | none => s.laneFault i g space (code, lane, a)

/-- LACQ (04 R139 to R141). DESIGN CHOICE (log entry 133): a lane that faults undoes what lower lanes of the
instruction acquired. -/
def State.doLacq (s : State) (i : Issuer) (w : W64) : State :=
  s.issue i w (fun g =>
    let a := aForm w
    s.atPlaces i g a 8 .lock (fun t ps =>
      if t.behindFar g ps then s.stall i g
      else
      match t.firstTries i.core g ps with
      | .error (c, lane, info) => s.lockFault i g a.sp c lane info (g.v64 a.va lane)
      | .ok (xs, t) =>
        let status (lane : Nat) : Option Nat := ((xs.find? (fun x => x.1 == lane)).map Prod.snd).getD none
        let lanes := ps.map (fun p => (⟨p.1, g.v64 a.va p.1, status p.1, none⟩ : LockLane))
        let t := t.retire i { g with wait := .lock a.sp a.vd lanes w }
        let t := if acquired xs then t.retireWork g.gtag else t
        let t := ps.foldl (fun s (p : Nat × MemAt) =>
          match p.2 with
          | .away cls n o => s.askLock i { g with pc := g.pc } p.1 cls n o 0
          | _ => s) t
        t.endLock i))

def execLacq (i : Issuer) (w : W64) (s : State) : Host.Outcome State Fault Refusal :=
  command (.lacq i w) (s.canIssue i) s (s.doLacq i w)

/-- A lane's status set. -/
def setStatus (lanes : List LockLane) (lane n : Nat) : List LockLane :=
  lanes.map (fun l => if l.lane == lane then { l with status := some n } else l)

/-- One waiting lane tried again (04 R140, R141): at another node one compare-and-swap that expects the word last
seen, once it is free. The error is a fault code, with CORE_FAULT_INFO where it is not the address. -/
def State.retryLane (s : State) (i : Issuer) (space : Nat) (l : LockLane) : Except (Nat × Option W32) State :=
  match s.group? i with
  | none => .ok s
  | some g =>
    match s.memAt i g space 8 l.addr .lock with
    | .error 0 => .ok s
    | .error c => .error (c, none)
    | .ok (.away cls n o, t) =>
      if t.co.accesses.any (fun e => e.2.who == i && e.2.gtag == g.gtag && e.2.fn == 18 && e.2.lanes == [l.lane]) then .ok t
      else .ok (t.askLock i g l.lane cls n o (lkFree (l.seen.getD 0)))
    | .ok (x, t) =>
      match t.tryLock i.core g l.lane x with
      | .error c => .error c
      | .ok (none, t) => .ok t
      | .ok (some n, t) =>
        match t.group? i with
        | none => .ok t
        | some g =>
          match g.wait with
          | .lock sp vd lanes w =>
            let t := t.setGroup i { g with wait := .lock sp vd (setStatus lanes l.lane n) w }
            .ok (if n == 0 then t.retireWork g.gtag else t)
          | _ => .ok t

/-- A fault of a lock-acquire that waits: its address is that of the LACQ, one word back (04 R147, R148). -/
def State.raiseAtLock (s : State) (i : Issuer) (code lane : Nat) (info : W32) : State :=
  match s.group? i with
  | some g => (s.setGroup i { g with pc := g.pc - 8 }).raise i code lane info
  | none => s

/-- Every waiting lane tried again. -/
def State.retryLanes (s : State) (i : Issuer) (space : Nat) : List LockLane → State
  | [] => s.endLock i
  | l :: ls =>
    if l.status.isSome then s.retryLanes i space ls
    else
      match s.retryLane i space l with
      | .ok t => t.retryLanes i space ls
      | .error (c, info) =>
        let part := ((s.group? i).map Group.part).getD 0
        (if c == 0x0220 then s.countAt part space l.addr else s).raiseAtLock i c l.lane
          (info.getD (l.addr.truncate 32))

/-- Whether a group waits at a lock-acquire with some lane open. -/
def State.lockWaits (s : State) (i : Issuer) : Bool :=
  match s.group? i with
  | some g =>
    match g.wait with
    | .lock _ _ lanes _ => lanes.any (fun l => l.status.isNone)
    | _ => false
  | none => false

/-- LOCK_RETRY (04 R140). -/
def State.doLockRetry (s : State) (i : Issuer) : State :=
  match s.group? i with
  | some g =>
    match g.wait with
    | .lock space _ lanes _ => s.retryLanes i space lanes
    | _ => s
  | none => s

def execLockRetry (i : Issuer) (s : State) : Host.Outcome State Fault Refusal :=
  command (.lockRetry i) (s.lockWaits i) s (s.doLockRetry i)

/-- A beat boundary ends the wait of a lock-acquire: lanes still waiting return HELD_OTHER, and an attempt under way
at another node is no longer the instruction's (04 R140, log entry 34). -/
def State.lockBoundary (s : State) (i : Issuer) : State :=
  match s.group? i with
  | some g =>
    match g.wait with
    | .lock sp vd lanes w =>
      let lanes := lanes.map (fun (l : LockLane) => if l.status.isNone then { l with status := some 1 } else l)
      let s := { s with co := { s.co with
        accesses := SMap.keep (fun _ a => !(a.who == i && a.gtag == g.gtag && a.fn == 18)) s.co.accesses } }
      (s.setGroup i { g with wait := .lock sp vd lanes w }).endLock i
    | _ => s
  | none => s

/-! ### Release (04 R142) -/

/-- One release on this device; 0x0308 with the word found when it is not the thread's (04 R142, R148). -/
def State.tryRelease1 (s : State) (core : Nat) (g : Group) (lane : Nat) (x : MemAt) :
    Except (Nat × Option W32) State :=
  let mine (w : W64) : Bool := lkHeld w && lkNode w == g.node.toNat && lkGtag w == g.gtag && lkLane w == lane
  match s.update core g.part x 8 (fun old => if mine old then some (lkFree old) else none) with
  | .error c => .error (c, none)
  | .ok (old, s) => if mine old then .ok s else .error (0x0308, some (old.truncate 32))

/-- The releases in ascending lane order, with the fault of the lowest lane that has one: a lane that does not own
its word does not keep the owning lane from releasing it (04 R142). -/
def State.releases (s : State) (i : Issuer) (g : Group) :
    List (Nat × MemAt) → State × Option (Nat × Nat × Option W32)
  | [] => (s, none)
  | (lane, .away cls n o) :: ps =>
    let x : MemAt := .away cls n o
    let (id, s) := s.openAccess (farAccess i g 19 8 0 0 false true [(lane, x)])
    (s.sendAtomic g id 0 9 true false x (mkGa cls n o) 0 0).releases i g ps
  | (lane, x) :: ps =>
    match s.tryRelease1 i.core g lane x with
    | .ok s => (s.retireWork g.gtag).releases i g ps
    | .error (c, info) =>
      let r := s.releases i g ps
      (r.1, some (c, lane, info))

/-- Whether earlier accesses hold back a release: the global fence, and loads not performed (04 R142, 07
R260). -/
def State.releaseWaits (s : State) (i : Issuer) (g : Group) : Bool :=
  s.co.accesses.any (fun e => e.2.who == i && e.2.gtag == g.gtag)

/-- LREL (04 R142). -/
def State.doLrel (s : State) (i : Issuer) (w : W64) : State :=
  s.issue i w (fun g =>
    let a := aForm w
    if s.releaseWaits i g then s.stall i g
    else
      s.atPlaces i g a 8 .lock (fun t ps =>
        match t.releases i g ps with
        | (t, none) => t.retire i g
        | (t, some (c, lane, info)) => t.lockFault i g a.sp c lane info (g.v64 a.va lane)))

def execLrel (i : Issuer) (w : W64) (s : State) : Host.Outcome State Fault Refusal :=
  command (.lrel i w) (s.canIssue i) s (s.doLrel i w)

/-! ### Answers of other nodes to lock attempts (04 R141, log entry 34) -/

/-- A lane's outcome noted in the group's wait. -/
def State.noteLane (s : State) (i : Issuer) (lane n : Nat) : State :=
  match s.group? i with
  | some g =>
    match g.wait with
    | .lock sp vd lanes w => s.setGroup i { g with wait := .lock sp vd (setStatus lanes lane n) w }
    | _ => s
  | none => s

/-- Whether a lane of a waiting lock-acquire has no status yet. -/
def laneOpen (g : Group) (lane : Nat) : Bool :=
  match g.wait with
  | .lock _ _ lanes _ => lanes.any (fun l => l.lane == lane && l.status.isNone)
  | _ => false

def State.dropAccess (s : State) (id : Nat) : State :=
  { s with co := { s.co with accesses := SMap.drop s.co.accesses id } }

/-- The word that an attempt of a lane found, kept for its next retry. -/
def State.noteSeen (s : State) (i : Issuer) (lane : Nat) (w : W64) : State :=
  match s.group? i with
  | some g =>
    match g.wait with
    | .lock sp vd lanes x =>
      let lanes := lanes.map (fun (l : LockLane) => if l.lane == lane then { l with seen := some w } else l)
      s.setGroup i { g with wait := .lock sp vd lanes x }
    | _ => s
  | none => s

/-- Whether a lane has had an answer from the word's node. -/
def laneSeen (g : Group) (lane : Nat) : Bool :=
  match g.wait with
  | .lock _ _ lanes _ => lanes.any (fun l => l.lane == lane && l.seen.isSome)
  | _ => false

/-- The old word that an acquire's attempt brought back. A first attempt that finds the word free with another SEQ
is made again with it; a retry waits for the next one (04 R141, log entry 34). -/
def State.lockAnswer (s : State) (id : Nat) (a : Access) (old seen : W64) (cls node ofs : Nat) : State :=
  let s := s.dropAccess id
  let lane := a.lanes.headD 0
  match s.group? a.who with
  | none => s
  | some g =>
    if g.gtag != a.gtag then s
    else if old == seen then ((s.noteLane a.who lane 0).retireWork g.gtag).endLock a.who
    else if !laneOpen g lane then s
    else
      let t := s.noteSeen a.who lane old
      match lockMet old g.node g.gtag lane with
      | .take => if laneSeen g lane then t else t.askLock a.who g lane cls node ofs old
      | .status n => (s.noteLane a.who lane n).endLock a.who
      | .other => t
      | .malformed => s.raiseAtLock a.who 0x0307 lane (old.truncate 32)

/-- The fault of a lock operation in flight. -/
def State.lateFault (s : State) (a : Access) (code lane : Nat) (info : W32) : State :=
  match a.who with
  | .group core slot => s.raiseLate core slot a.part a.ctx code lane 0 info a.pc
  | .cp _ part ctx => s.teardown ⟨code, part, ctx, 3, 0xFFFF, a.pc, info⟩ false

/-- The old word that a release brought back: first the word is read, then it is released if it still
stands. -/
def State.releaseAnswer (s : State) (id : Nat) (a : Access) (old seen : W64) (cls node ofs : Nat) : State :=
  let lane := a.lanes.headD 0
  match s.group? a.who with
  | none => s.dropAccess id
  | some g =>
    let mine := lkHeld old && lkNode old == g.node.toNat && lkGtag old == g.gtag && lkLane old == lane
    if g.gtag != a.gtag then s.dropAccess id
    else if old == seen && lkHeld seen then (s.dropAccess id).retireWork g.gtag
    else if mine then s.sendAtomic g id 0 9 true false (.away cls node ofs) (mkGa cls node ofs) (lkFree old) old
    else (s.dropAccess id).lateFault a 0x0308 lane (old.truncate 32)

end Sys2Proof.Machine
end

