-- ==== Sys2Proof/Machine/RegWrite.lean ====
section
/-!
DEFINITION. What a write does to the fields of a register before the register's own effect: the access
codes of 00 R13, the enables and write-ignored flags of 16 R541 to R543 and R560.
-/
namespace Sys2Proof.Machine

/-- A word after a write reached one of its fields (00 R13); `held`: the enable is set. -/
def RField.after (x : RField) (held : Bool) (old v w : W32) : W32 :=
  match x.acc with
  | .rw => withBits w x.lo x.n (bitsOf v x.lo x.n)
  | .rwd => if held then w else withBits w x.lo x.n (bitsOf v x.lo x.n)
  | .w1c => withBits w x.lo x.n (bitsOf (old &&& ~~~v) x.lo x.n)
  | _ => w

/-- Whether a write would change an RWD field (16 R541). -/
def Reg.touches (r : Reg) (old v : W32) : Bool :=
  r.info.fields.any (fun x => x.acc == .rwd && bitsOf old x.lo x.n != bitsOf v x.lo x.n)

/-- The word after a write (00 R13). -/
def Reg.written (r : Reg) (held : Bool) (old v : W32) : W32 :=
  r.info.fields.foldl (fun w x => x.after held old v w) old

/-- Whether the enable that governs the RWD fields of a register word is set (16 R541, R560). -/
def State.held (s : State) (r : Reg) (i : Nat) : Bool :=
  match r.info.blk with
  | .tunBeat => s.b F.beatCtrl_ENABLE 0
  | .tunPart =>
    let n := if r == .partCores then i / 8 else i
    s.b F.partCfg_ENABLE n || s.f F.partCmd_STATE n != 0
  | .tunRing => s.b F.ringCtrl_ENABLE i
  | .tunXlat => s.b F.xlatCfg_ENABLE i
  | .core => s.b F.coreCtrl_ENABLE i
  | .llmRgn => s.b F.llmRgnDesc_VALID i || s.b F.llmRgnDesc_FILLING i
  | .llmCtl => s.b F.llmCtlCtrl_ENABLE 0
  | .hbmCtl => s.b F.hbmCtlCtrl_ENABLE 0
  | .hbmStack => s.b F.stackCtrl_ENABLE i
  | .bxfCtl => s.b F.bxfCtlCtrl_ENABLE 0
  | .bxfPort => s.b F.portCtrl_ENABLE i
  | .pciCtl => s.host.vfEnable
  | .pwrCtl => s.b F.pwrCtrl_ENABLE 0
  | .rasCtl => s.b F.rasCtrl_ENABLE 0
  | _ => false

/-- The write-ignored flag of a register word's block or entry (16 R543, R560). -/
def Reg.flag (r : Reg) (i : Nat) : Option (Fld × Nat) :=
  match r.info.blk with
  | .tunBeat => some (F.beatFlags_WRITE_IGNORED, 0)
  | .tunPart => some (F.partCmd_WI, if r == .partCores then i / 8 else i)
  | .tunRgnown => some (F.rgnown_WI, i)
  | .tunRing => some (F.ringStatus_WI, i)
  | .tunXlat => some (if r == .xlatInv || r == .xlatInvStatus then (F.xlatInvStatus_WI, 0) else (F.xlatCfg_WI, i))
  | .core => some (F.coreFlags_WRITE_IGNORED, i)
  | .llmRgn => some (F.llmRgnDesc_WI, i)
  | .llmSlice => some (if r == .sliceWay then (F.sliceWay_WI, i) else (F.sliceFlags_WRITE_IGNORED, i))
  | .llmCtl => some (F.llmCtlFlags_WRITE_IGNORED, 0)
  | .hbmCtl => some (F.hbmCtlFlags_WRITE_IGNORED, 0)
  | .hbmStack => some (F.stackFlags_WRITE_IGNORED, i)
  | .bxfCtl | .bxfBar => some (F.bxfCtlFlags_WRITE_IGNORED, 0)
  | .bxfPort => some (F.portFlags_WRITE_IGNORED, i)
  | .pciCtl => some (F.pciCtlFlags_WRITE_IGNORED, 0)
  | .secCtl => some (F.secFlags_WRITE_IGNORED, 0)
  | .secKey => some (F.keyStatus_WI, i)
  | .pwrCtl => some (F.pwrFlags_WRITE_IGNORED, 0)
  | .clkCtl => some (if r == .clkDom then (F.clkDom_WI, i) else (F.clkFlags_WRITE_IGNORED, 0))
  | .rasCtl => some (F.rasFlags_WRITE_IGNORED, 0)
  | _ => none

/-- The write-ignored flag set (16 R543). Descriptor 0 of TUN_PART sets none (11 R383). -/
def State.ignored (s : State) (r : Reg) (i : Nat) : State :=
  match r.flag i with
  | some (x, j) => if x.reg == .partCmd && j == 0 then s else s.setF x j 1
  | none => s

/-- A write applied by the access codes: while the enable is set every RWD field stays, and one that
would have changed sets the flag (00 R13, 16 R541 to R543). -/
def State.code (s : State) (r : Reg) (i : Nat) (v : W32) : State :=
  let old := s.rget r i
  let t := s.rset r i (r.written (s.held r i) old v)
  if s.held r i && r.touches old v then t.ignored r i else t

end Sys2Proof.Machine
end

