-- ==== Sys2Proof/Machine/Blocks.lean ====
section
/-!
DEFINITION. Register blocks (16 R536, R555, R560): type codes, instances, and the register word that a block
offset names.
-/
namespace Sys2Proof

/-- Every block, in the order of 16 R560. -/
def Block.all : List Block :=
  [.tunBeat, .tunPart, .tunCtx, .tunSeq, .tunRgnown, .tunRing, .tunXlat, .tunAon, .cd, .cl, .core, .llmRgn,
   .llmSlice, .llmCtl, .hbmCtl, .hbmStack, .bxfCtl, .bxfPort, .bxfBar, .bxfArrive, .pciFn, .pciCtl, .pciMsix,
   .secCtl, .secKey, .pwrCtl, .pwrTen, .clkCtl, .rasCtl, .rasD2d, .keg]

/-- BTYPE (16 R560). -/
def Block.code : Block → Nat
  | .tunBeat => 0x0001
  | .tunPart => 0x0002
  | .tunCtx => 0x0003
  | .tunSeq => 0x0004
  | .tunRgnown => 0x0005
  | .tunRing => 0x0006
  | .tunXlat => 0x0007
  | .tunAon => 0x0008
  | .cd => 0x0010
  | .cl => 0x0011
  | .core => 0x0012
  | .llmRgn => 0x0020
  | .llmSlice => 0x0021
  | .llmCtl => 0x0022
  | .hbmCtl => 0x0030
  | .hbmStack => 0x0031
  | .bxfCtl => 0x0040
  | .bxfPort => 0x0041
  | .bxfBar => 0x0042
  | .bxfArrive => 0x0043
  | .pciFn => 0x0050
  | .pciCtl => 0x0051
  | .pciMsix => 0x0052
  | .secCtl => 0x0060
  | .secKey => 0x0061
  | .pwrCtl => 0x0070
  | .pwrTen => 0x0071
  | .clkCtl => 0x0080
  | .rasCtl => 0x0090
  | .rasD2d => 0x0091
  | .keg => 0x00A0

/-- How many instances a block has (16 R560). -/
def Block.insts : Block → Nat
  | .cd => 8
  | .cl => 32
  | .core => 256
  | .llmSlice => 512
  | .hbmStack => 16
  | .bxfPort => 8
  | .bxfArrive => 64
  | .pciFn => 64
  | .pciMsix => 64
  | .pwrTen => 64
  | _ => 1

/-- Whether a block lies in the always-on domain (16 R546). -/
def Block.aon : Block → Bool
  | .tunAon | .keg => true
  | _ => false

end Sys2Proof

namespace Sys2Proof.Machine

/-- The pages of a block instance in the physical function's window (16 R560); those of PCI_MSIX follow
from its COUNT. -/
def State.pages (s : State) (b : Block) (inst : Nat) : Nat :=
  match b with
  | .tunRing => 16
  | .pciMsix =>
    let n := s.msixCount inst
    (16 * n + 8 * ((n + 63) / 64) + 4095) / 4096
  | _ => 1

/-- The word of a register at an offset of its block, counted within one instance (16 R536): descriptors
hold eight CORES words and barrier units four CHILD words, and ROUTE_DATA shows one entry. -/
def Reg.wordAt (r : Reg) (off : Nat) : Option Nat :=
  let i := r.info
  match r with
  | .partCores =>
    if off < 4096 && 8 ≤ off % 64 && off % 64 < 40 then some (8 * (off / 64) + (off % 64 - 8) / 4) else none
  | .barChild =>
    if off < 4096 && 32 ≤ off % 64 && off % 64 < 48 then some (4 * (off / 64) + (off % 64 - 32) / 4) else none
  | .bxfCtlRouteData => if off == i.off then some 0 else none
  | _ =>
    if i.count == 1 then (if off == i.off then some 0 else none)
    else if off < i.off || (off - i.off) % i.stride != 0 || i.count ≤ (off - i.off) / i.stride then none
    else some ((off - i.off) / i.stride)

/-- The register and index at an offset of a block instance. -/
def State.regAt (s : State) (b : Block) (inst off : Nat) : Option (Reg × Nat) :=
  if b.insts ≤ inst || off % 4 != 0 then none
  else
    Reg.all.findSome? (fun r =>
      if r.info.blk == b then
        (r.wordAt off).map (fun k => (r,
          if r == .bxfCtlRouteData then s.f F.bxfCtlRouteSel_DNODE 0 else inst * r.info.count + k))
      else none)

end Sys2Proof.Machine
end

