-- ==== Sys2Proof/Machine/Mover.lean ====
section
/-!
DEFINITION. The tile mover (06 R221 to R236): the commands COPY, TRED, TATOM and RANGE, their transfers
from start to completion, WAITGE, PHASE and the group watchdog.
-/
namespace Sys2Proof.Machine

/-! ### Runs of a command (06 R224) -/

/-- A signed 32-bit half of a scalar register. -/
def half (w : W64) (lo : Nat) : Int := (BitVec.ofNat 32 (fld w lo 32)).toInt

/-- Source tile i of a COPY or TRED. -/
def TmCmd.src (c : TmCmd) (i : Nat) : TLoc := hTile c.ta (i * half c.sb 0) (i * half c.sc 0)

/-- Destination tile i. -/
def TmCmd.dst (c : TmCmd) (i : Nat) : TLoc := hTile c.td (i * half c.sb 32) (i * half c.sc 32)

/-- A stride that breaks its required multiple (06 R224): the offending value. -/
def badStride (ta td : BitVec 128) (sb sc : W64) : Option Int :=
  let scl (h : BitVec 128) (x : Int) : Bool := x % 256 != 0 || (x != 0 && !tileIsMx (hFormat h))
  if half sb 0 % 2048 != 0 then some (half sb 0)
  else if half sb 32 % 2048 != 0 then some (half sb 32)
  else if scl ta (half sc 0) then some (half sc 0)
  else if scl td (half sc 32) then some (half sc 32)
  else none

/-- A handle on another node (06 R225). -/
def State.farHandle (s : State) (h : BitVec 128) : Bool := hSpace h == 2 && !s.ownNode (gaNode (hAddr h))

/-- The pairs of formats a COPY converts between (06 R226). -/
def convertible (a b : Nat) : Bool :=
  (a == 2 && b == 3) || (a == 3 && b == 2) || (a == 5 && b == 6) || (a == 6 && b == 5) ||
    (a == 7 && b == 8) || (a == 8 && b == 7)

/-! ### Issue (06 R221, R222, R584) -/

/-- A 8-byte word of Local space that lies outside it: fault 0x0406 (05 R195). -/
def localOut (a : W64) (n : Nat) : Bool := localSize < a.toNat + n

/-- The fault of a completion word (06 R222): code and info. A fault 0x0408 here names no handle, and
its handle number is a free value (log entry 27). -/
def State.wordFault (s : State) (w0 : W64) (glob : Bool) (a : W64) : Option (Nat × W32) :=
  if a.toNat % 8 != 0 then some (0x0405, a.truncate 32)
  else if glob && !s.ownNode (gaNode a) then some (0x0408, handleInfo s.draw.1.toNat w0)
  else if !glob && localOut a 8 then some (0x0406, a.truncate 32)
  else none

def State.postFault (s : State) (g : Group) (w0 : W64) (t : TForm) : Option (Nat × W32) :=
  if t.opt % 2 == 0 then none else s.wordFault w0 (t.opt / 2 % 2 == 1) (g.s t.sd)

/-- A fault that drew a free value advances its counter. -/
def State.refuseDrawn (s : State) (i : Issuer) (g : Group) (f : Nat × W32) : State :=
  (if f.1 == 0x0408 then s.draw.2 else s).refuse i g f.1 0xFF f.2

/-- The command that an instruction queues. -/
def mkCmd (id slot : Nat) (g : Group) (w0 w1 : W64) (sc : W64) (total : Nat) : TmCmd :=
  let t := tForm w0 w1
  { id := id, slot := slot, gtag := g.gtag, part := g.part, ctx := g.ctx, task := g.task, inst := g.inst,
    pc := g.pc, w0 := w0, w1 := w1, td := g.h t.td, ta := g.h t.ta, sa := g.s t.sa, sb := g.s t.sb,
    sc := sc, sd := g.s t.sd, total := total, cursor := 0, begun := false, faulted := false, draws := 0, used := 0,
    xfers := [] }

/-- Enters the tile mover's queue; a group that meets a full queue waits (04 R124). -/
def State.queueTm (s : State) (i : Issuer) (g : Group) (w0 w1 sc : W64) (total : Nat) : State :=
  match i with
  | .cp _ _ _ => s
  | .group core slot =>
    if !(s.core core).room 6 then s.stall i g
    else
      let c := mkCmd s.co.nextCmd slot g w0 w1 sc total
      let s := s.retire2 i g
      let s := { s with co := { s.co with nextCmd := s.co.nextCmd + 1 } }
      let x := s.core core
      s.setCore core { x with tm := x.tm ++ [c] }

/-- The first handle of a COPY that does not suit it (06 R201, R225 to R227); of a pair that does not suit, tD
(DESIGN CHOICE, log entry 131). -/
def State.copyBad (s : State) (g : Group) (t : TForm) : Option Nat :=
  let a := g.h t.ta
  let d := g.h t.td
  let conv := t.opt / 16 % 2 == 1
  if hFormat a == 0 then some t.ta
  else if hFormat d == 0 then some t.td
  else if s.farHandle a && s.farHandle d then some t.td
  else if hDr d then some t.td
  else if conv != (hFormat a != hFormat d) || (conv && !convertible (hFormat a) (hFormat d)) then some t.td
  else none

/-- The first tile of a run of n that breaks placement. -/
def badTile (n : Nat) (f : Nat → TLoc) : Option TLoc := ((List.range n).map f).find? (fun l => !l.placed)

/-- COPY and TRED past their handles: count, strides, completion word, placement, queue. -/
def State.queueRuns (s : State) (i : Issuer) (g : Group) (w0 w1 sc : W64) : State :=
  let t := tForm w0 w1
  let n := (g.s t.sa).toNat
  let c := mkCmd 0 0 g w0 w1 sc n
  if n == 0 || 4096 < n then s.refuse i g 0x0409 0xFF (valueInfo n w0)
  else
    match badStride c.ta c.td c.sb sc with
    | some v => s.refuse i g 0x0409 0xFF (valueInfo (BitVec.ofInt 16 v).toNat w0)
    | none =>
      match s.postFault g w0 t with
      | some f => s.refuseDrawn i g f
      | none =>
        match (badTile n c.src).orElse (fun _ => badTile n c.dst) with
        | some l => s.refuse i g 0x0106 0xFF (l.addr.truncate 32)
        | none => s.queueTm i g w0 w1 sc n

/-- COPY (06 R224 to R228). -/
def State.doCopy (s : State) (i : Issuer) (w0 w1 : W64) : State :=
  s.issue2Plain i w0 w1 (fun g =>
    let t := tForm w0 w1
    match s.copyBad g t with
    | some n => s.refuse i g 0x0408 0xFF (handleInfo n w0)
    | none => s.queueRuns i g w0 w1 (g.s t.sc))

def execCopy (i : Issuer) (w0 w1 : W64) (s : State) : Host.Outcome State Fault Refusal :=
  command (.copy i w0 w1) (s.canIssue i) s (s.doCopy i w0 w1)

/-- The first handle of a TRED that does not suit it (06 R230). DESIGN CHOICE (log entry 130): DR set in the
destination handle is refused as for COPY (R227), and a format that differs names tD. -/
def State.tredBad (s : State) (g : Group) (t : TForm) : Option Nat :=
  let a := g.h t.ta
  let d := g.h t.td
  let ok (h : BitVec 128) : Bool := 1 ≤ hFormat h && hFormat h ≤ 4 && hRole h == 0
  if !ok a || s.farHandle a then some t.ta
  else if !ok d || hFormat a != hFormat d || hDr d then some t.td
  else none

/-- TRED (06 R230 to R232). -/
def State.doTred (s : State) (i : Issuer) (w0 w1 : W64) : State :=
  s.issue2Plain i w0 w1 (fun g =>
    match s.tredBad g (tForm w0 w1) with
    | some n => s.refuse i g 0x0408 0xFF (handleInfo n w0)
    | none => s.queueRuns i g w0 w1 0)

def execTred (i : Issuer) (w0 w1 : W64) (s : State) : Host.Outcome State Fault Refusal :=
  command (.tred i w0 w1) (s.canIssue i) s (s.doTred i w0 w1)

/-- TATOM (06 R233). -/
def State.doTatom (s : State) (i : Issuer) (w0 w1 : W64) : State :=
  s.issue2Plain i w0 w1 (fun g =>
    let t := tForm w0 w1
    let a := g.s t.sa
    let n := if t.opt % 2 == 1 then 8 else 4
    if a.toNat % n != 0 then s.refuse i g 0x0405 0xFF (a.truncate 32)
    else
      match s.wordFault w0 false (g.s t.sd) with
      | some f => s.refuse i g f.1 0xFF f.2
      | none => s.queueTm i g w0 w1 (g.s t.sc) 1)

def execTatom (i : Issuer) (w0 w1 : W64) (s : State) : Host.Outcome State Fault Refusal :=
  command (.tatom i w0 w1) (s.canIssue i) s (s.doTatom i w0 w1)

/-- Whether a command must wait for earlier commands of its group (06 R221). -/
def State.ordWaits (s : State) (core : Nat) (c : TmCmd) : Bool :=
  (tForm c.w0 c.w1).opt / 8 % 2 == 1 &&
    ((s.core core).tm.takeWhile (fun x => x.id != c.id)).any (fun x => x.gtag == c.gtag && opcOf x.w0 != 1)

/-- RANGE (06 R234): a length of 0 posts at once where no ORD holds it back. -/
def State.doRange (s : State) (i : Issuer) (w0 w1 : W64) : State :=
  s.issue2Plain i w0 w1 (fun g =>
    let t := tForm w0 w1
    let a := g.s t.sa
    let n := (g.s t.sb).toNat
    if a.toNat % 128 != 0 || n % 128 != 0 then s.refuse i g 0x0405 0xFF (a.truncate 32)
    else
      match s.postFault g w0 t with
      | some f => s.refuseDrawn i g f
      | none =>
        let id := s.co.nextCmd
        let s := s.queueTm i g w0 w1 0 (n / 128)
        match s.tmCmd i.core id with
        | some c => if n == 0 && !s.ordWaits i.core c then s.postCommand i.core c else s
        | none => s)

/-- RANGE prefetch (06 R234). -/
def execRangePrefetch (i : Issuer) (w0 w1 : W64) (s : State) : Host.Outcome State Fault Refusal :=
  command (.rangePrefetch i w0 w1) (s.canIssue i) s (s.doRange i w0 w1)

/-- RANGE flush (06 R234). -/
def execRangeFlush (i : Issuer) (w0 w1 : W64) (s : State) : Host.Outcome State Fault Refusal :=
  command (.rangeFlush i w0 w1) (s.canIssue i) s (s.doRange i w0 w1)

/-- RANGE invalidate (06 R234). -/
def execRangeInvalidate (i : Issuer) (w0 w1 : W64) (s : State) : Host.Outcome State Fault Refusal :=
  command (.rangeInvalidate i w0 w1) (s.canIssue i) s (s.doRange i w0 w1)

/-- RANGE draff (06 R234). -/
def execRangeDraff (i : Issuer) (w0 w1 : W64) (s : State) : Host.Outcome State Fault Refusal :=
  command (.rangeDraff i w0 w1) (s.canIssue i) s (s.doRange i w0 w1)

/-! ### Tiles of other nodes (06 R225, 10 R335, R336, R355) -/

/-- Where a tile lies: on this device, or on another node by CLASS, node, payload offset and scale-lane
offset there. -/
inductive TileSite where
  | here (l : TLoc)
  | away (cls node ofs sofs : Nat)
  deriving DecidableEq, Repr

/-- Whether payload or scale lane crosses a granule of a span window (10 R355). -/
def State.crosses (s : State) (node ofs sofs : Nat) (tf : Nat) : Bool :=
  match s.spanWindow node with
  | none => false
  | some k =>
    let g := 2 ^ s.f F.bxfCtlSpanwinB_GSHIFT k
    ofs / g != (ofs + tilePayload tf - 1) / g || (tileIsMx tf && sofs / g != (sofs + 255) / g)

/-- The site of a tile; the error is a fault code, 0 for a stall. -/
def State.siteOf (s : State) (part : Nat) (l : TLoc) (u : Use) : Except Nat TileSite :=
  let node := gaNode l.addr
  if l.space != 2 || 2 ≤ gaClass l.addr || s.ownNode node then .ok (.here l)
  else
    let sofs := gaOfs l.sclAddr
    match s.translate part l.addr u with
    | .stall => .error 0
    | .fault c => .error c
    | .at p =>
      if s.crosses node (gaOfs l.addr) sofs l.tf then .error 0x0106
      else
        let (n, o) := s.memberOf node (gaOfs l.addr)
        let so := (s.memberOf node sofs).2
        match p with
        | .remote cls _ _ => .ok (.away cls n o so)
        | _ =>
          let a := mkGa (gaClass l.addr) 0xFFFF o
          .ok (.here ⟨2, l.tf, a, (so : Int) - (o / 2 ^ 30 * 2 ^ 30 : Nat)⟩)

/-- The place of a tile, by kind and address: two names of one tile give one place (07 R242). -/
def State.tilePlace (s : State) (part : Nat) (l : TLoc) : Nat × Nat :=
  match s.siteOf part l .copySource with
  | .ok (.away cls n o _) => (4 + cls, n * 2 ^ 44 + o)
  | .ok (.here l) =>
    if l.space != 2 then (l.space, l.addr.toNat)
    else
      match s.translate part l.addr .copySource with
      | .at (.own _ ofs) => (2, ofs)
      | _ => (3, l.addr.toNat)
  | .error _ => (3, l.addr.toNat)

/-- Whether two tiles of a partition are one. -/
def State.sameTile (s : State) (part : Nat) (a b : TLoc) : Bool :=
  (a.space == b.space && a.addr == b.addr) || s.tilePlace part a == s.tilePlace part b

/-- The lines of a tile on another node: header, payload, scale lane. -/
def awayLines (tf node ofs sofs : Nat) : TileLines :=
  let h := ofs / 2 ^ 30 * 2 ^ 30 + 0x3FC00000 + 16 * (ofs % 2 ^ 30 / 4096)
  ⟨rLine node h, h % 128, (List.range (tilePayload tf / 128)).map (fun k => rLine node (ofs + 128 * k)),
    if tileIsMx tf then [rLine node sofs, rLine node (sofs + 128)] else []⟩

/-- Header word 0 as messages carry it: BUSY and POISON zero. -/
def wireHeader (h : BitVec 128) : W64 := mkHeader false (hRole h) (hFormat h) (hVrows h) (hVcols h) 0 0 0

/-- The head payload of TRD, TWR and TRED (10 R336). -/
def tileHead (tf cls node ofs sofs : Nat) (word0 : W64) : List Byte :=
  headAddr cls node ofs ++ (if tileIsMx tf then headAddr cls node sofs else zeros 8) ++ leBytes 8 word0.toNat

/-- A TRD message. -/
def trdMsg (tf cls node ofs sofs : Nat) (word0 : W64) : Msg :=
  { Msg.empty with vc := 2, type := 0x23, head := tileHead tf cls node ofs sofs word0 }

/-- A TWR message. -/
def twrMsg (cls node ofs sofs : Nat) (word0 : W64) (payload scale : List Byte) : Msg :=
  { Msg.empty with
    vc := 3, type := 0x30, body := payload ++ scale,
    head := tileHead (hdrFormat word0) cls node ofs sofs word0 ++
      leBytes 8 (tileChecksum ⟨word0, payload, scale⟩).toNat }

/-- A TRED message. -/
def tredMsg (cls node ofs op : Nat) (ov : Bool) (word0 : W64) (payload : List Byte) : Msg :=
  { Msg.empty with
    vc := 3, type := 0x31, body := payload,
    head := tileHead (hdrFormat word0) cls node ofs 0 word0 ++
      leBytes 8 (tileChecksum ⟨word0, payload, []⟩).toNat ++ leBytes 1 (op + if ov then 8 else 0) }

/-- CORE_FAULT_INFO of 0x0601 and 0x0604 (10 R367). -/
def routeInfo (node type : Nat) : W32 := BitVec.ofNat 32 (node % 65536 + type * 2 ^ 16)

/-- The generation of a destination advanced with POISON set: what a failed tile read leaves (10 R354).
The transfer waits while BUSY is set. -/
def State.condemn (s : State) (core : Nat) (c : TmCmd) (x : Xfer) : State :=
  let l := c.dst x.idx
  match s.beginTile core c.part l (hRole c.td) (hVrows c.td) (hVcols c.td) core 1 .copyDestination with
  | .error _ => s.endXfer core c.id x.idx
  | .ok (none, _) => s.setXfer core c { x with stage := .condemned, wait := s.openWait x.wait }
  | .ok (some w, s) =>
    let w0 := (w &&& ~~~(1 : W64)) ||| 2
    let s := if l.space == 0 then
        s.setLocalTag core l.granule { s.localTag core l.granule with word0 := w0 }
      else
        match s.lineOf c.part l.space l.hdrAddr .copyDestination with
        | .ok (h, s) =>
          match s.naWrite h (l.hdrAddr.toNat % 128) (leBytes 8 w0.toNat) with
          | .ok s => s
          | .error _ => s
        | .error _ => s
    s.endXfer core c.id x.idx

/-- The fault of a command at a transfer that stays until its destination is condemned. -/
def State.faultRead (s : State) (core cmd idx code : Nat) (info : W32) : State :=
  match s.xfer core cmd idx with
  | none => s
  | some (c, x) =>
    let s := if c.faulted then s else s.raiseLate core c.slot c.part c.ctx code 0xFF 1 info c.pc
    match s.xfer core cmd idx with
    | none => s
    | some (c, _) => s.condemn core c x

/-- Sends a transfer's request; an unreachable node ends it with 0x0604 (10 R346, R354). -/
def State.sendXfer (s : State) (core : Nat) (c : TmCmd) (x : Xfer) (node : Nat) (m : Msg) (line : Nat) : State :=
  let s := s.setXfer core c x
  match s.request (.xfer core c.id x.idx) c.part c.ctx node m line with
  | some t => t.setXfer core c { x with stage := .awaiting }
  | none =>
    if m.type == 0x23 then s.faultRead core c.id x.idx 0x0604 (routeInfo node m.type.toNat)
    else s.faultXfer core c.id x.idx 0x0604 (routeInfo node m.type.toNat)

/-- Whether a command is an acquire copy (06 R227). -/
def TmCmd.acquire (c : TmCmd) : Bool := opcOf c.w0 == 0xE0 && (tForm c.w0 c.w1).opt / 4 % 2 == 1

/-- One tile requested from its node (10 R351). -/
def State.sendTrd (s : State) (core : Nat) (c : TmCmd) (x : Xfer) (cls node ofs sofs : Nat) : State :=
  s.sendXfer core c x node (trdMsg (hFormat c.ta) cls node ofs sofs (wireHeader c.ta)) (rLine node ofs)

/-- A tile of another node: one TRD, or line by line where some line is held here (10 R352). -/
def State.fetchAway (s : State) (core : Nat) (c : TmCmd) (x : Xfer) (cls node ofs sofs : Nat) : State :=
  let t := awayLines (hFormat c.ta) node ofs sofs
  if c.acquire || !t.all.any s.heldRemote then s.sendTrd core c x cls node ofs sofs
  else
    let held : SMap (List Byte) := t.all.foldl (fun m l => if s.heldRemote l then SMap.put m l (s.curLine l) else m) []
    let s := s.setXfer core c { x with stage := .gathering held }
    ((t.all.filter (fun l => (SMap.find held l).isNone)).eraseDups).foldl (fun s l =>
      match lineKind l with
      | .remote n o =>
        match s.request (.xfer core c.id x.idx) c.part c.ctx n (rdMsg cls n o) l with
        | some t => t
        | none => s.faultRead core c.id x.idx 0x0604 (routeInfo n 0x20)
      | _ => s) s

/-! ### Transfers start (06 R221, R227, R229) -/

/-- Transfers of a core in flight. -/
def CoreSt.inFlight (c : CoreSt) : Nat := c.tm.foldl (fun n x => n + x.xfers.length) 0

/-- Whether a group still has a load or atomic that has not performed. -/
def State.loadsOpen (s : State) (gtag : Nat) : Bool :=
  s.co.accesses.any (fun e => e.2.gtag == gtag && !(e.2.fn == 17))

/-- Whether a command's context runs on its core: not switched out, draining or torn down (06 R229). -/
def State.tmRuns (s : State) (core : Nat) (c : TmCmd) : Bool :=
  s.f F.tunCtx_STATE (16 * c.part + c.ctx) == 2 &&
    ((s.ctx (16 * c.part + c.ctx)).switching.all (fun w => w.1 != core))

/-- The command whose transfer starts next: the oldest with a transfer left (06 R221). -/
def State.nextTm (s : State) (core : Nat) : Option TmCmd :=
  (s.core core).tm.find? (fun c =>
    (c.cursor < c.total || (c.total == 0 && opcOf c.w0 != 1)) && s.tmRuns core c)

/-- The line i of a RANGE. -/
def TmCmd.rangeLine (c : TmCmd) (i : Nat) : W64 := c.sa + BitVec.ofNat 64 (128 * i)

/-- The space a RANGE acts in: 1 Near, 2 Global. -/
def TmCmd.rangeSpace (c : TmCmd) : Nat := if (tForm c.w0 c.w1).opt / 4 % 2 == 1 then 2 else 1

/-- The generator of a converting command under SR: a fresh step as it begins (06 R226). -/
def State.beginTm (s : State) (core : Nat) (c : TmCmd) : TmCmd × State :=
  let t := tForm c.w0 c.w1
  if c.begun then (c, s)
  else if opcOf c.w0 == 0xE0 && t.opt / 16 % 2 == 1 && Rm.ofCode t.rm == some .sr then
    let x := s.core core
    let g := Gen.start (x.gen 6)
    let c := { c with begun := true, draws := g.s, used := g.used }
    (c, (s.setCore core (x.setGen 6 g.s)).setTm core c)
  else ({ c with begun := true }, s.setTm core { c with begun := true })

/-- The draws of one converted tile: one for each element of the destination's extent (02 R58). -/
def TmCmd.tileDraws (c : TmCmd) : Nat :=
  let t := tForm c.w0 c.w1
  if opcOf c.w0 == 0xE0 && t.opt / 16 % 2 == 1 && Rm.ofCode t.rm == some .sr then
    (hVrows c.td + 1) * (hVcols c.td + 1)
  else 0

/-- What a transfer does as it starts. -/
def State.openXfer (s : State) (core : Nat) (c : TmCmd) (x : Xfer) : State :=
  match classOf c.w0 with
  | some .copy =>
    match s.siteOf c.part (c.src x.idx) .copySource with
    | .error 0 => s
    | .error e => s.faultXfer core c.id x.idx e ((c.src x.idx).addr.truncate 32)
    | .ok (.here _) => s
    | .ok (.away cls n o so) => s.fetchAway core c x cls n o so
  | some .tatom =>
    let t := tForm c.w0 c.w1
    match s.translate c.part c.sa .atomic with
    | .stall => s
    | .fault e => s.faultXfer core c.id x.idx e (c.sa.truncate 32)
    | .at (.own _ ofs) =>
      if s.farRoom (s.homeOf (gLine ofs)).1 then
        let r := (s.noteXlat c.part c.sa).pushFar (gLine ofs) c.part
          (.atomic (fnOf c.w0) (t.opt % 2 == 1) (t.opt / 2 % 2 == 1) c.sa c.sb c.sc) (.xfer core c.id x.idx)
        r.2.setXfer core c { x with stage := .atHome r.1 }
      else s
    | .at (.remote cls n o) =>
      (s.dropRemote (rLine n o)).sendXfer core c x n
        (atomMsg cls n o (fnOf c.w0) (t.opt % 2 == 1) (t.opt / 2 % 2 == 1) c.sb c.sc) (rLine n o)
    | .at (.regs _ _) => s.faultXfer core c.id x.idx 0x0213 (c.sa.truncate 32)
  | some .prefetch =>
    if c.rangeSpace == 1 then s
    else
      match s.translate c.part (c.rangeLine x.idx) .prefetch with
      | .at (.remote cls n o) =>
        if s.heldRemote (rLine n o) then s
        else s.sendXfer core c x n (rdMsg cls n o) (rLine n o)
      | _ => s
  | _ => s

/-- A far atomic whose start a full queue or a stalled translation held up, and which now can go on (06 R233). -/
def State.heldTatom (s : State) (core : Nat) : Option (TmCmd × Xfer) :=
  ((s.core core).tm.flatMap (fun c => c.xfers.map (fun x => (c, x)))).find? (fun p =>
    classOf p.1.w0 == some .tatom && p.2.stage == .reading && s.tmRuns core p.1 &&
      ((s.openXfer core p.1 p.2).xfer core p.1.id p.2.idx).all (fun y => y.2.stage != .reading))

/-- Whether TRANSFER_START can happen. -/
def State.canTransfer (s : State) (core : Nat) : Bool :=
  s.issuing && s.corePresent core && !s.fenced core && s.coreClocked core &&
    ((s.heldTatom core).isSome || (s.core core).inFlight < 3072 &&
      (match s.nextTm core with
       | none => false
       | some c => !s.ordWaits core c && (!c.acquire || c.begun || !s.loadsOpen c.gtag)))

/-- TRANSFER_START (06 R221): a far atomic that was held up, else the transfer at the cursor; a range of length 0
posts. -/
def State.doTransferStart (s : State) (core : Nat) : State :=
  match s.heldTatom core, s.nextTm core with
  | some (c, x), _ => s.openXfer core c x
  | none, none => s
  | none, some c =>
    if c.total == 0 then s.postCommand core c
    else
      let (c, s) := s.beginTm core c
      let x : Xfer := ⟨c.cursor, .reading, TileWait.fresh, c.draws, c.used, false⟩
      let g := Gen.skip .sr c.tileDraws ⟨c.draws, c.used⟩
      let sr := c.tileDraws != 0
      let c := { c with
        cursor := c.cursor + 1
        draws := if sr then g.s else c.draws
        used := if sr then g.used else c.used
        xfers := c.xfers ++ [x] }
      let s := s.setTm core c
      let s := if sr then s.setCore core ((s.core core).setGen 6 g.s) else s
      let s := s.openXfer core c x
      s.setCore core (drainTmSeeds (s.core core) (s.core core).tm)

def execTransferStart (core : Nat) (s : State) : Host.Outcome State Fault Refusal :=
  command (.transferStart core) (s.canTransfer core) s (s.doTransferStart core)

/-! ### The source is read (03 R98 to R102; 06 R226, R227, R231) -/

/-- The record of a cask-poison event (13 R477, R482). -/
def State.caskEvent (s : State) (a : W64) : State :=
  let r := regionOf (gaOfs a)
  let s := (s.setF F.secFlags_CASK_EVT 0 1).bump .secEvtLo .secEvtHi 5 1
  let s :=
    if s.b F.secCaskInfo_VALID 0 then s.setF F.secCaskInfo_MORE 0 1
    else
      (((s.setF F.secCaskInfo_REGION 0 r).setF F.secCaskInfo_UNMIRRORED 0
        (if s.f F.llmRgnDesc_MIRROR r == r then 1 else 0)).setF F.secCaskOfs_OFFSET 0 (regionOfs (gaOfs a))).setF
        F.secCaskInfo_VALID 0 1
  let fn := s.instanceOf (s.f F.rgnown_OWNER r)
  if fn == 0 then s.msix 0 0 else (s.msix 0 0).msix fn 0

/-- The physical address of a translated address of this device; itself where it does not translate. -/
def State.physical (s : State) (part : Nat) (a : W64) : W64 :=
  match s.translate part a .load with
  | .at (.own cls ofs) => mkGa cls 0xFFFF ofs
  | _ => a

/-- A contribution may go to its home only after the earlier ones of its group to the same tile
(06 R232). -/
def State.tredTurn (s : State) (core : Nat) (c : TmCmd) (x : Xfer) : Bool :=
  let waits (y : Xfer) : Bool :=
    match y.stage with
    | .reading | .gathering _ | .read _ _ _ | .cask _ => true
    | _ => false
  ((s.core core).tm.takeWhile (fun d => d.id != c.id)).all (fun d =>
    d.gtag != c.gtag || opcOf d.w0 != 0xE1 ||
      d.xfers.all (fun y => !waits y || !s.sameTile c.part (d.dst y.idx) (c.dst x.idx))) &&
    c.xfers.all (fun y => x.idx ≤ y.idx || !waits y || !s.sameTile c.part (c.dst y.idx) (c.dst x.idx))

/-- A verified contribution on its way to its home (06 R231): it stays where a queue is full, an earlier
one of the group is not on its way yet, or the destination is Local. -/
def State.sendTred (s : State) (core : Nat) (c : TmCmd) (x : Xfer) (w0 : W64) (p : List Byte) : State :=
  let t := tForm c.w0 c.w1
  let s := s.setXfer core c { x with stage := .read w0 p [] }
  if (c.dst x.idx).space == 0 || !s.tredTurn core c x then s
  else
    match s.siteOf c.part (c.dst x.idx) .copyDestination with
    | .error 0 => s
    | .error e => s.faultXfer core c.id x.idx e ((c.dst x.idx).addr.truncate 32)
    | .ok (.away cls n o so) =>
      let s := (awayLines (hFormat c.td) n o so).all.foldl (fun s l => s.dropRemote l) s
      s.sendXfer core c x n (tredMsg cls n o (fnOf c.w0) t.ov w0 p) (rLine n o)
    | .ok (.here l) =>
      match s.lineOf c.part l.space l.hdrAddr .copyDestination with
      | .error 0 => s
      | .error e => s.faultXfer core c.id x.idx e (l.addr.truncate 32)
      | .ok (h, s) =>
        if s.farRoom (s.homeOf h).1 then
          let r := s.pushFar h c.part (.reduce (fnOf c.w0) t.ov c.td l.addr 0 w0 p []) (.xfer core c.id x.idx)
          r.2.setXfer core c { x with stage := .atHome r.1 }
        else s

/-- The bytes a COPY writes and the flags of its conversion (06 R224, R226; 03 R80). -/
def TmCmd.product (c : TmCmd) (x : Xfer) (img : TileImage) : List Byte × List Byte × FFlags :=
  let t := tForm c.w0 c.w1
  let tf := hFormat c.td
  if t.opt / 16 % 2 == 1 then
    let m := makeTile tf (hVrows c.td) (hVcols c.td) ((Rm.ofCode t.rm).getD .rne) t.ov (tileVals img) ⟨x.draws, x.used⟩
    (m.payload, m.scale, m.flags)
  else (maskPayload tf (hVrows c.td) (hVcols c.td) img.payload, maskScale tf (hVrows c.td) (hVcols c.td) img.scale, 0)

/-- A COPY's tile sent to another node (10 R337): its copies here are dropped first (07 R263). -/
def State.sendTwr (s : State) (core : Nat) (c : TmCmd) (x : Xfer) (cls n o so : Nat) (p sc : List Byte) : State :=
  let s := (awayLines (hFormat c.td) n o so).all.foldl (fun s l => s.dropRemote l) s
  s.sendXfer core c x n (twrMsg cls n o so (wireHeader c.td) p sc) (rLine n o)

/-- The lines of a transfer's source, draffed (06 R227, 08 R282). -/
def State.draffSource (s : State) (c : TmCmd) (x : Xfer) : State :=
  let l := c.src x.idx
  if !hDr c.ta || l.space == 0 then s
  else
    match s.siteOf c.part l .copySource with
    | .ok (.here l) =>
      match s.tileLines c.part l .copySource with
      | .ok (t, s) => t.all.foldl (fun s k => s.draffLine k) s
      | .error _ => s
    | .ok (.away _ n o so) => (awayLines l.tf n o so).all.foldl (fun s k => s.draffLine k) s
    | .error _ => s

/-- A verified source tile used. -/
def State.takeTile (s : State) (core : Nat) (c : TmCmd) (x : Xfer) (img : TileImage) : State :=
  let x := { x with wait := TileWait.fresh }
  let s := s.draffSource c x
  if opcOf c.w0 == 0xE1 then s.sendTred core c x (img.word0 &&& ~~~(3 : W64)) img.payload
  else
    let r := c.product x img
    let s := s.postFlags c.gtag r.2.2
    match s.siteOf c.part (c.dst x.idx) .copyDestination with
    | .error 0 => s
    | .error e => s.faultXfer core c.id x.idx e ((c.dst x.idx).addr.truncate 32)
    | .ok (.away cls n o so) => s.sendTwr core c x cls n o so r.1 r.2.1
    | .ok (.here _) => s.setXfer core c { x with stage := .read (wireHeader c.td) r.1 r.2.1 }

/-- POISON set at the home of another node's tile where word 0 still is the one verified (03 R100): a compare-and-swap
sent there, but for a read-only class. -/
def State.poisonAway (s : State) (part ctx cls node ofs : Nat) (w0 : W64) : State :=
  let h := ofs / 2 ^ 30 * 2 ^ 30 + 0x3FC00000 + 16 * (ofs % 2 ^ 30 / 4096)
  if cls == 1 then s
  else
    (s.request .posted part ctx node (atomMsg cls node h 9 true false (w0 ||| 2) w0) (rLine node h)).getD s

/-- A tile that came from another node judged (03 R98 to R101, 10 R338, 13 R478). `w0b` is the second read
of word 0. -/
def State.judgeAway (s : State) (core : Nat) (c : TmCmd) (x : Xfer) (v : Seen) (w0b : W64)
    (cls node ofs sofs : Nat) : State :=
  let again (s : State) (x : Xfer) : State := s.sendTrd core c x cls node ofs sofs
  let torn := !hNv c.ta && !hdrPoison v.word0 && (hdrBusy v.word0 || hdrBusy w0b || hdrGen w0b != hdrGen v.word0)
  if torn then again s { x with wait := s.openWait x.wait }
  else
    match judge { v with word0 := if hdrPoison w0b && !hNv c.ta then w0b else v.word0 } (hFormat c.ta) (hRole c.ta) (hNv c.ta) with
    | .busy => again s { x with wait := s.openWait x.wait }
    | .fault e => (if e == 0x0103 then s.rasCount 4 else s).faultXfer core c.id x.idx e 0
    | .good img =>
      let s := if hNv c.ta then s.rasCount 5 else s
      let s := if x.wait.mismatch == some (hdrGen img.word0) then (s.rasCount 0).rasCount 1 else s
      s.takeTile core c x img
    | .mismatch g =>
      if x.wait.mismatch == some g then
        let s := (((s.rasCount 0).rasCount 0).rasCount 2).poisonAway c.part c.ctx cls node ofs v.word0
        s.faultXfer core c.id x.idx 0x0101 0
      else
        let s := (awayLines (hFormat c.ta) node ofs sofs).all.foldl (fun s l => s.dropRemote l) s
        again s { x with wait := { x.wait with mismatch := some g } }

/-- The tile that gathered lines spell. -/
def gathered (t : TileLines) (got : SMap (List Byte)) : Seen :=
  let line (l : Nat) : List Byte := (SMap.find got l).getD (zeros 128)
  let h := (line t.hdr).drop t.hofs
  ⟨BitVec.ofNat 64 (leNat (h.take 8)), BitVec.ofNat 64 (leNat ((h.drop 8).take 8)), t.pay.flatMap line, t.scl.flatMap line⟩

/-- TILE_READ_COMPLETE of a transfer. -/
def State.xferRead (s : State) (core : Nat) (c : TmCmd) (x : Xfer) : State :=
  match s.siteOf c.part (c.src x.idx) .copySource, x.stage with
  | .error 0, _ => s
  | .error e, _ => s.faultXfer core c.id x.idx e ((c.src x.idx).addr.truncate 32)
  | .ok (.away cls n o so), .gathering got =>
    let v := gathered (awayLines (hFormat c.ta) n o so) got
    s.judgeAway core c x v v.word0 cls n o so
  | .ok (.away cls n o so), _ => s.fetchAway core c x cls n o so
  | .ok (.here l), _ =>
    match s.readTile core c.part l (hFormat c.ta) (hRole c.ta) (hNv c.ta) .copySource with
    | (.stall, s) => s
    | (.wait, s) => s.setXfer core c { x with wait := s.openWait x.wait }
    | (.fault e, s) => s.faultXfer core c.id x.idx e (l.addr.truncate 32)
    | (.caskPoison, s) => (s.caskEvent (s.physical c.part l.addr)).setXfer core c { x with stage := .cask 0 }
    | (.good img, s) => s.takeTile core c x img

/-- Whether a transfer's reads can complete. -/
def State.xferReadable (s : State) (core cmd idx : Nat) : Bool :=
  match s.xfer core cmd idx with
  | none => false
  | some (c, x) =>
    (opcOf c.w0 == 0xE0 || opcOf c.w0 == 0xE1) &&
      (match x.stage with
       | .reading => true
       | .gathering got =>
         match s.siteOf c.part (c.src x.idx) .copySource with
         | .ok (.away _ n o so) => (awayLines (hFormat c.ta) n o so).all.all (fun l => (SMap.find got l).isSome)
         | _ => true
       | .atHome id => s.mem.farOps.any (fun o => o.id == id && o.wait.opened.isSome)
       | _ => false)

/-- The far operation of an agent that waits for its destination to come free. -/
def State.farWaiting (s : State) (a : TileAgent) : Option FarOp :=
  s.mem.farOps.find? (fun o => o.wait.opened.isSome &&
    (match a with
     | .xfer core cmd idx => o.owner == .xfer core cmd idx
     | .landing port snode tag => o.owner == .remote port tag (BitVec.ofNat 16 snode)
     | _ => false))

/-! ### The destination is written (03 R93 to R95; 06 R228) -/

/-- Whether a destination tile is still to be read as a source of its own command (06 R228). -/
def State.unread (s : State) (c : TmCmd) (x : Xfer) : Bool :=
  let d := c.dst x.idx
  opcOf c.w0 == 0xE0 &&
    (c.xfers.any (fun y => y.idx != x.idx && s.sameTile c.part (c.src y.idx) d &&
      (match y.stage with
       | .reading | .awaiting | .gathering _ | .cask _ => true
       | _ => false)) ||
     (List.range (c.total - c.cursor)).any (fun k => s.sameTile c.part (c.src (c.cursor + k)) d))

/-- Whether TILE_WRITE_BEGIN can act for a transfer. -/
def State.xferBegins (s : State) (core cmd idx : Nat) : Bool :=
  match s.xfer core cmd idx with
  | none => false
  | some (c, x) =>
    match x.stage with
    | .read _ _ _ => opcOf c.w0 == 0xE1 || (opcOf c.w0 == 0xE0 && !s.unread c x)
    | .condemned => true
    | _ => false

/-- Step 1 at a destination on this device; a Local reduction is computed here (06 R231). -/
def State.beginXfer (s : State) (core : Nat) (c : TmCmd) (x : Xfer) (l : TLoc) (vr vc : Nat) (p sc : List Byte) : State :=
  match s.beginTile core c.part l (hRole c.td) vr vc core 1 .copyDestination with
  | .error 0 => s
  | .error e => s.faultXfer core c.id x.idx e (l.addr.truncate 32)
  | .ok (none, _) => s.setXfer core c { x with wait := s.openWait x.wait }
  | .ok (some w, s) => s.setXfer core c { x with stage := .writing w p sc }

/-- TILE_WRITE_BEGIN of a transfer. -/
def State.xferBegin (s : State) (core : Nat) (c : TmCmd) (x : Xfer) : State :=
  match x.stage with
  | .condemned => s.condemn core c x
  | .read w0 p sc =>
    if opcOf c.w0 == 0xE1 then
      let l := c.dst x.idx
      if l.space != 0 then s.sendTred core c x w0 p
      else if !s.tredTurn core c x then s
      else
        match s.readTile core c.part l l.tf 0 false .copyDestination with
        | (.wait, s) => s.setXfer core c { x with wait := s.openWait x.wait }
        | (.fault e, s) => s.faultXfer core c.id x.idx e (l.addr.truncate 32)
        | (.good dst, s) =>
          let r := reduceTile (fnOf c.w0) (tForm c.w0 c.w1).ov dst ⟨w0, p, sc⟩
          (s.postFlags c.gtag r.2).beginXfer core c x l (hdrVrows dst.word0) (hdrVcols dst.word0) r.1 []
        | (_, s) => s
    else
      match s.siteOf c.part (c.dst x.idx) .copyDestination with
      | .ok (.here l) => s.beginXfer core c x l (hVrows c.td) (hVcols c.td) p sc
      | .ok (.away cls n o so) => s.sendTwr core c x cls n o so p sc
      | .error 0 => s
      | .error e => s.faultXfer core c.id x.idx e ((c.dst x.idx).addr.truncate 32)
  | _ => s

/-! ### Completion (06 R222, R233, R234; 08 R281) -/

/-- The line of a RANGE on this device's memories or a remote line's copies. -/
def State.rangeTarget (s : State) (c : TmCmd) (i : Nat) (u : Use) : Except Nat (Nat × State) :=
  if c.rangeSpace == 1 then s.lineOf c.part 1 (c.rangeLine i) u
  else
    match s.translate c.part (c.rangeLine i) u with
    | .stall => .error 0
    | .fault e => .error e
    | .at (.own _ ofs) => .ok (gLine ofs, s.noteXlat c.part (c.rangeLine i))
    | .at (.remote _ n o) => .ok (rLine n o, s)
    | .at (.regs _ _) => .error 0x0213

/-- The use a RANGE makes of its lines. -/
def rangeUse (w0 : W64) : Use :=
  match fnOf w0 with
  | 0 => .prefetch
  | 1 => .flush
  | 2 => .invalidate
  | _ => .draff

/-- The effect of a range operation on one line (08 R281): prefetch, flush, invalidate, draff as 0 to 3. -/
def State.rangeOn (s : State) (part fn line : Nat) : State :=
  let own := line < 2 ^ 33
  if own && !s.cacheable line then s
  else
    match fn with
    | 0 =>
      if (own || (SMap.find s.mem.remote line).isSome) && (s.cacheAt line).isNone then s.supply line (some part) false else s
    | 1 => if line < 2 ^ 40 then s.flushLine line else s
    | 2 =>
      match lineKind line with
      | .near _ _ => s.recallAll line true
      | _ => s.dropLine line true
    | _ => s.draffLine line

/-- Whether a fill of a remote line is on its way (07 R266). -/
def State.fillOpen (s : State) (line : Nat) : Bool :=
  s.fab.reqs.any (fun r => r.2.line == line && r.2.msg.type == 0x20)

/-- Whether a command's transfers have all completed and its completion waits to be posted (06 R222). -/
def State.postable (s : State) (core : Nat) (c : TmCmd) : Bool :=
  c.xfers.isEmpty && c.total ≤ c.cursor && opcOf c.w0 != 1 && !c.faulted && !s.ordWaits core c

/-- TRANSFER_COMPLETE can happen: of a transfer, or of a command whose completion waits. -/
def State.canFinish (s : State) (core cmd idx : Nat) : Bool :=
  match s.xfer core cmd idx with
  | none => (s.tmCmd core cmd).any (s.postable core)
  | some (c, x) =>
    match classOf c.w0, x.stage with
    | some .tatom, .read _ _ _ => true
    | some .tatom, _ => false
    | some .invalidate, .reading =>
      match s.rangeTarget c x.idx .invalidate with
      | .ok (l, _) => !s.fillOpen l
      | .error _ => true
    | some .prefetch, .reading | some .flush, .reading | some .draff, .reading => true
    | _, .writing _ _ _ => true
    | _, .landed => true
    | _, _ => false

/-- One line of a RANGE (08 R281): a line that is not cacheable completes at once (07 R250), and a prefetch of
another node's line that is not held here sends its read. -/
def State.finishRange (s : State) (core : Nat) (c : TmCmd) (x : Xfer) : State :=
  match s.rangeTarget c x.idx (rangeUse c.w0) with
  | .error 0 => s
  | .error e => s.faultXfer core c.id x.idx e ((c.rangeLine x.idx).truncate 32)
  | .ok (l, s) =>
    if l < 2 ^ 33 && !s.cacheable l then s.endXfer core c.id x.idx
    else if fnOf c.w0 == 0 && 2 ^ 40 ≤ l && !s.heldRemote l then s.openXfer core c x
    else if fnOf c.w0 == 0 && s.poisoned l then
      (s.countPoison l).faultXfer core c.id x.idx 0x0220 ((c.rangeLine x.idx).truncate 32)
    else (s.rangeOn c.part (fnOf c.w0) l).endXfer core c.id x.idx

/-- TRANSFER_COMPLETE (06 R221 to R223): steps 2 to 4 of a tile, the result word of a TATOM, a line of a
range; with the last transfer the command posts. -/
def State.doFinish (s : State) (core cmd idx : Nat) : State :=
  match s.xfer core cmd idx with
  | none => ((s.tmCmd core cmd).filter (s.postable core)).elim s (s.postCommand core)
  | some (c, x) =>
    match x.stage with
    | .writing w p sc =>
      let l := match s.siteOf c.part (c.dst x.idx) .copyDestination with
        | .ok (.here l) => l
        | _ => c.dst x.idx
      match s.finishTile core c.part l w p sc .copyDestination with
      | .error 0 => s
      | .error e => s.faultXfer core cmd idx e (l.addr.truncate 32)
      | .ok s => s.endXfer core cmd idx
    | .read old _ _ => (s.localWrite core c.part c.sd.toNat (leBytes 8 old.toNat)).endXfer core cmd idx
    | .landed => s.endXfer core cmd idx
    | .reading => s.finishRange core c x
    | _ => s

def execTransferComplete (core cmd idx : Nat) (s : State) : Host.Outcome State Fault Refusal :=
  command (.transferComplete core cmd idx) (s.canFinish core cmd idx) s
    (s.doFinish core cmd idx)

/-! ### Timeouts of a transfer (15 R514, 13 R477) -/

/-- A far operation that a transfer has at its home, withdrawn. -/
def State.withdrawFar (s : State) (owner : FarOwner) : State :=
  match s.mem.farOps.find? (fun o => o.owner == owner) with
  | some o => s.dropFar o
  | none => s

/-- The copy timeout of a transfer (15 R513, R514): a destination past step 1 completes. -/
def State.xferTimeout (s : State) (core cmd idx : Nat) : State :=
  match s.xfer core cmd idx with
  | none => s
  | some (c, x) =>
    let s := s.rasCount 10
    let s := match x.stage with
      | .writing w p sc =>
        let l := match s.siteOf c.part (c.dst x.idx) .copyDestination with
          | .ok (.here l) => l
          | _ => c.dst x.idx
        match s.finishTile core c.part l w p sc .copyDestination with
        | .ok s => s
        | .error _ => s
      | .atHome _ => s.withdrawFar (.xfer core cmd idx)
      | _ => s
    s.faultXfer core cmd idx 0x0803 (BitVec.ofNat 32 (idx % 4096))

/-! ### WAITGE, PHASE, the watchdog (06 R235, R236; 04 R144) -/

/-- The word a WAITGE reads: 1 Global, else Local. -/
def State.waitWord (s : State) (i : Issuer) (g : Group) (space : Nat) (a : W64) : Except Nat (W64 × State) :=
  if space == 0 then .ok (BitVec.ofNat 64 (leNat (s.localRead i.core g.part a.toNat 8)), s)
  else
    match s.lineOf g.part 2 a .load with
    | .error e => .error e
    | .ok (l, s) =>
      match s.giuLine i.core g.part l with
      | .error e => .error e
      | .ok (d, s) => .ok (BitVec.ofNat 64 (leNat ((d.drop (a.toNat % 128)).take 8)), s)

/-- WAITGE (06 R235): REACHED at once, or the group waits. -/
def State.doWaitge (s : State) (i : Issuer) (w0 w1 : W64) : State :=
  s.issue2Plain i w0 w1 (fun g =>
    let t := tForm w0 w1
    let a := g.s t.sa
    let space := t.opt % 2
    match s.wordFault w0 (space == 1) a with
    | some f => s.refuseDrawn i g f
    | none =>
      match s.waitWord i g space a with
      | .error e => s.addrFault i g (if space == 1 then 2 else 0) e 0xFF a
      | .ok (v, s) =>
        if (g.s t.sb).ule v then s.retire2 i (g.setS t.sd 0)
        else s.retire2 i { g with wait := .waitge space a (g.s t.sb) t.sd })

def execWaitge (i : Issuer) (w0 w1 : W64) (s : State) : Host.Outcome State Fault Refusal :=
  command (.waitge i w0 w1) (s.canIssue i) s (s.doWaitge i w0 w1)

/-- What WAITGE_REACHED finds: the group, its result register and the state after the read. -/
def State.waitReached (s : State) (i : Issuer) : Option (Group × Nat × State) :=
  match s.group? i with
  | none => none
  | some g =>
    match g.wait with
    | .waitge space a bound sd =>
      match s.waitWord i g space a with
      | .ok (v, t) => if bound.ule v then some (g, sd, t) else none
      | .error _ => none
    | _ => none

/-- WAITGE_REACHED (06 R235). -/
def execWaitgeReached (i : Issuer) (s : State) : Host.Outcome State Fault Refusal :=
  command (.waitgeReached i) (s.waitReached i).isSome s
    (match s.waitReached i with
     | some (g, sd, t) => t.setGroup i { g.setS sd 0 with wait := .none }
     | none => s)

/-- A phase hint (06 R236, 14 R504): it replaces the context's hints whose phase has not begun. -/
def State.addHint (s : State) (part ctx imm : Nat) : State :=
  let now := s.tun.num.toNat
  let a := now + imm % 1024
  let h : Hint := ⟨part, ctx, a, a + imm / 1024 % 1024, imm / 2 ^ 20 % 16, imm / 2 ^ 24 % 256⟩
  let kept := s.tun.hints.filter (fun x => !(x.part == part && x.ctx == ctx && now < x.starts))
  { s with tun := { s.tun with hints := kept ++ [h] } }

/-- PHASE (06 R236). -/
def State.doPhase (s : State) (i : Issuer) (w0 w1 : W64) : State :=
  s.issue2Plain i w0 w1 (fun g => (s.retire2 i g).addHint g.part g.ctx (tForm w0 w1).imm)

def execPhase (i : Issuer) (w0 w1 : W64) (s : State) : Host.Outcome State Fault Refusal :=
  command (.phase i w0 w1) (s.canIssue i) s (s.doPhase i w0 w1)

/-- Whether a group is the lowest slot of its core whose watchdog count has reached 4,096: of the groups that a
boundary expires together the lowest faults first, and is recorded (04 R144, R147). -/
def State.watchdogDue (s : State) (i : Issuer) : Bool :=
  !i.isCp && (s.group? i).any (fun g => 4096 ≤ g.wdog) &&
    s.co.groups.all (fun e => e.1 / 64 != i.core || i.key ≤ e.1 || e.2.wdog < 4096)

/-- GROUP_WATCHDOG_EXPIRY (04 R144): the count that beat boundaries advance has reached 4,096. -/
def execGroupWatchdogExpiry (i : Issuer) (s : State) : Host.Outcome State Fault Refusal :=
  command (.groupWatchdogExpiry i) (!s.b F.clkStatus_SAFE 0 && s.watchdogDue i)
    s ((s.countCore i 7 1).raise i 0x0306 0xFF 0)

end Sys2Proof.Machine
end

