-- ==== Sys2Proof/Machine/Regions.lean ====
section
/-!
DEFINITION. Regions and the HBM subsystem (07 R246 to R249; 08 R273 to R278, R300, R302, R303; 09 R304 to
R327; 11 R387, R390): descriptors, allotments, drains and fills, ways, the host's range operations,
scrub, memory errors, repair and retirement.
-/
namespace Sys2Proof

/-- Whether a burst makes its word uncorrectable (09 R307). -/
def BurstReport.bad (r : BurstReport) : Bool := r.odUncorrected || r.doubleBit || r.metaBits != 0

end Sys2Proof

namespace Sys2Proof.Machine

/-! ### What the Ploro tables show of a region (16 R551, R556, R557) -/

/-- The partitions whose tables list a region: its owner, or all while it is lent. -/
def State.regionTables (s : State) (n : Nat) : List Nat :=
  if s.b F.rgnown_LEND n then List.range 64 else [s.f F.rgnown_OWNER n]

/-- An update of the tables when a region's words have changed. -/
def State.noteRegion (before after : State) (n : Nat) : State :=
  if before.rget .llmRgnDesc n == after.rget .llmRgnDesc n &&
      before.rget .rgnown n == after.rget .rgnown n &&
      SMap.find before.hbm.allot n == SMap.find after.hbm.allot n then after
  else after.ploro (before.regionTables n ++ after.regionTables n)

/-! ### Allotment (07 R249, 08 R271, R272, 09 R322) -/

/-- The bytes of a region on each pseudo-channel of its set: 1 GiB / N. -/
def shareOf (inter : Nat) : Nat := 2 ^ (30 - interBits inter)

/-- The pseudo-channels of a set, ascending (08 R271). -/
def setOf (inter place : Nat) : List Nat :=
  (List.range (2 ^ interBits inter)).map (fun i => interBase inter place + i)

/-- The dies of a set. -/
def diesOf (inter place : Nat) : List Nat :=
  match inter with
  | 0 => [place / 2]
  | 1 => [place]
  | 2 => [4 * place, 4 * place + 1, 4 * place + 2, 4 * place + 3]
  | _ => List.range 8

/-- Whether a pseudo-channel is retired (HBM_CTL_RETIREDn). -/
def State.retiredPc (s : State) (pc : Nat) : Bool := (s.rget .hbmCtlRetired (pc / 32)).getLsbD (pc % 32)

/-- Whether a region's share is in use: valid, or being zero-filled. -/
def State.inUse (s : State) (n : Nat) : Bool := s.b F.llmRgnDesc_VALID n || s.hbm.fills.contains n

/-- The pieces that the regions in use hold: pseudo-channel, base, bytes. -/
def State.pieces (s : State) (but : Nat) : List (Nat × Nat × Nat) :=
  (s.hbm.allot.filter (fun e => e.1 != but && s.inUse e.1)).flatMap (fun e =>
    e.2.spots.map (fun x => (x.1, x.2, shareOf e.2.inter)))

/-- The lowest multiple of a share that is free on a pseudo-channel. -/
def freeAt (used : List (Nat × Nat × Nat)) (pc share : Nat) : Option Nat :=
  ((List.range (2 ^ 31 / share)).map (fun k => k * share)).find? (fun b =>
    used.all (fun u => u.1 != pc || u.2.1 + u.2.2 ≤ b || b + share ≤ u.2.1))

/-- The substitute of a pseudo-channel for a share: the first of its stack, searching upward from the
next, that is not retired and has room (09 R322). -/
def State.substitute (s : State) (used : List (Nat × Nat × Nat)) (pc share : Nat) : Option (Nat × Nat) :=
  let cands := (List.range 31).map (fun k => pc / 32 * 32 + (pc % 32 + 1 + k) % 32)
  cands.findSome? (fun q => if s.retiredPc q then none else (freeAt used q share).map (fun b => (q, b)))

/-- The shares of a set placed one after another. -/
def State.placeShares (s : State) (share : Nat) :
    List (Nat × Nat × Nat) → List Nat → Option (List (Nat × Nat))
  | _, [] => some []
  | used, pc :: pcs =>
    let spot := if s.retiredPc pc then s.substitute used pc share
      else (freeAt used pc share).map (fun b => (pc, b))
    match spot with
    | none => none
    | some x => (s.placeShares share ((x.1, x.2, share) :: used) pcs).map (fun xs => x :: xs)

/-- Previous allotments of regions out of use that newly taken pieces (pseudo-channel, base, bytes) overlap are
forgotten (07 R249). -/
def State.forgetPieces (s : State) (ps : List (Nat × Nat × Nat)) (al : SMap Allot) : SMap Allot :=
  let hit (x : Nat × Nat) (sh : Nat) : Bool :=
    ps.any (fun y => y.1 == x.1 && y.2.1 < x.2 + sh && x.2 < y.2.1 + y.2.2)
  SMap.keep (fun k b => s.inUse k || !b.spots.any (fun x => hit x (shareOf b.inter))) al

/-- Those that a new allotment of region n takes capacity of. -/
def State.forgetOverlaps (s : State) (n : Nat) (a : Allot) : SMap Allot :=
  s.forgetPieces (a.spots.map (fun x => (x.1, x.2, shareOf a.inter))) (SMap.drop s.hbm.allot n)

/-- The allotment a region would take now. -/
def State.newAllot (s : State) (n : Nat) : Option Allot :=
  let inter := s.f F.llmRgnDesc_INTERLEAVE n
  let place := s.f F.llmRgnDesc_PLACE n
  (s.placeShares (shareOf inter) (s.pieces n) (setOf inter place)).map (fun xs =>
    ⟨inter, s.b F.llmRgnDesc_HASH n, place, xs⟩)

/-- Whether the previous allotment serves again: the layout is the one with which the region was last
valid (the other conditions forget the allotment when they fail). -/
def State.oldAllotFits (s : State) (n : Nat) : Bool :=
  match SMap.find s.hbm.allot n with
  | some a =>
    a.inter == s.f F.llmRgnDesc_INTERLEAVE n && a.hash == s.b F.llmRgnDesc_HASH n &&
      a.place == s.f F.llmRgnDesc_PLACE n
  | none => false

/-- VALID 1 carried out (07 R249): the previous allotment again, a new one and its zero-fill, or
NOSPACE. -/
def State.enableRegion (s : State) (n : Nat) : State :=
  if s.oldAllotFits n then (s.setF F.llmRgnDesc_VALID n 1).setF F.llmRgnDesc_FILLING n 0
  else
    match s.newAllot n with
    | none => (s.setF F.llmRgnDesc_NOSPACE n 1).setF F.llmRgnDesc_FILLING n 0
    | some a =>
      let t := { s with hbm := { s.hbm with
        allot := SMap.put (s.forgetOverlaps n a) n a
        fills := n :: s.hbm.fills } }
      t.setF F.llmRgnDesc_FILLING n 1

/-! ### Descriptor writes (07 R247 to R249) -/

/-- PLACE, POLICY and MIRROR hold values that the table defines (07 R246). -/
def descLegal (v : W32) : Bool :=
  let inter := bitsOf v 1 2
  let place := bitsOf v 8 4
  bitsOf v 4 2 != 3 && (bitsOf v 4 2 == 2 || bitsOf v 12 10 == 0) &&
    (match inter with
     | 0 => true
     | 1 => place < 8
     | 2 => place < 2
     | _ => place == 0)

/-- The mirror of a cask region meets its conditions (13 R475). -/
def State.mirrorOk (s : State) (n : Nat) : Bool :=
  let m := s.f F.llmRgnDesc_MIRROR n
  s.f F.llmRgnDesc_POLICY n != 2 || m == n ||
    (s.f F.llmRgnDesc_POLICY m == 2 && s.f F.llmRgnDesc_MIRROR m == n &&
      s.f F.llmRgnDesc_INTERLEAVE m == s.f F.llmRgnDesc_INTERLEAVE n &&
      s.f F.llmRgnDesc_HASH m == s.f F.llmRgnDesc_HASH n &&
      (diesOf (s.f F.llmRgnDesc_INTERLEAVE n) (s.f F.llmRgnDesc_PLACE n)).all (fun d =>
        !(diesOf (s.f F.llmRgnDesc_INTERLEAVE m) (s.f F.llmRgnDesc_PLACE m)).contains d))

/-- The VALID bit of a write, after its other fields (07 R247). While a retirement moves, it is carried
out afterwards and FILLING sets at once (09 R324). -/
def State.writeValid (s : State) (n : Nat) (valid : Bool) : State :=
  if valid == s.b F.llmRgnDesc_VALID n then s
  else if s.b F.llmRgnDesc_FILLING n then s.ignored .llmRgnDesc n
  else if !valid then
    { s with hbm := { s.hbm with drains := n :: s.hbm.drains } }.setF F.llmRgnDesc_FILLING n 1
  else if !s.mirrorOk n then s.ignored .llmRgnDesc n
  else if s.hbm.move.isSome then
    { s with hbm := { s.hbm with deferred := s.hbm.deferred ++ [n] } }.setF F.llmRgnDesc_FILLING n 1
  else s.enableRegion n

/-- A write of a descriptor. -/
def State.writeDesc (s : State) (n : Nat) (v : W32) : State :=
  let old := s.rget .llmRgnDesc n
  let change := Reg.llmRgnDesc.touches old v
  let held := s.held .llmRgnDesc n || !descLegal v
  let w := withBits (Reg.llmRgnDesc.written held old v) 0 1 (bitsOf old 0 1)
  let t := s.rset .llmRgnDesc n w
  let t := if held && change then t.ignored .llmRgnDesc n else t
  s.noteRegion (t.writeValid n (bitsOf v 0 1 == 1)) n

/-- REGION_DISABLE (07 R248). -/
def execRegionDisable (n : Nat) (v : W32) (s : State) : Host.Outcome State Fault Refusal :=
  command (.regionDisable n v) (bitsOf v 0 1 == 0) s (s.writeDesc n v)

/-- REGION_ENABLE (07 R249). -/
def execRegionEnable (n : Nat) (v : W32) (s : State) : Host.Outcome State Fault Refusal :=
  command (.regionEnable n v) (bitsOf v 0 1 == 1) s (s.writeDesc n v)

/-! ### Drains and fills (07 R248, R249; 09 R316; 11 R388) -/

/-- The lines held on this device that satisfy a test. -/
def State.heldLines (s : State) (p : Nat → Bool) : List Nat :=
  ((s.mem.dir.map Prod.fst ++ s.mem.cache.map (fun e => e.2.line) ++ s.mem.remote.map Prod.fst).filter p).eraseDups

/-- A line of a region of this device. -/
def inRegion (n line : Nat) : Bool := line < 2 ^ 33 && line / 2 ^ 23 == n

/-- Every copy of a region's lines dropped, dirty data written back or lost. -/
def State.dropRegion (s : State) (n : Nat) (writeBack : Bool) : State :=
  (s.heldLines (inRegion n)).foldl (fun s l => s.dropLine l writeBack) s

/-- The region returns to the pool, its contents never read again (11 R388 step 4). -/
def State.releaseRegion (s : State) (n : Nat) : State :=
  let t := ((s.setF F.llmRgnDesc_VALID n 0).setF F.llmRgnDesc_FILLING n 0).setF F.rgnown_OWNER n 0
  { t with hbm := { t.hbm with
    allot := SMap.drop t.hbm.allot n
    wiping := t.hbm.wiping.filter (· != n)
    destroying := t.hbm.destroying.filter (fun x => x.1 != n) } }

/-- Step 4 of a destruction for a region that no operation fills (11 R388). -/
def State.wipeRegion (s : State) (n : Nat) : State :=
  if s.b F.llmRgnDesc_VALID n then
    let t := (s.dropRegion n false).setF F.llmRgnDesc_FILLING n 1
    { t with hbm := { t.hbm with wiping := n :: t.hbm.wiping.filter (· != n), fills := n :: t.hbm.fills } }
  else s.releaseRegion n

/-- A region operation has ended: a destruction that waited for it goes on. -/
def State.regionIdle (s : State) (n : Nat) : State :=
  if s.hbm.destroying.any (fun x => x.1 == n) then s.wipeRegion n else s

/-- Nothing uses a line of a region at its home. -/
def State.regionQuiet (s : State) (n : Nat) : Bool :=
  s.mem.farOps.all (fun o => !inRegion n o.line) && s.mem.txns.all (fun t => !inRegion n t.1)

/-- The end of a drain (07 R248). -/
def State.endDrain (s : State) (n : Nat) : State :=
  let t := s.dropRegion n true
  let t := (t.setF F.llmRgnDesc_VALID n 0).setF F.llmRgnDesc_FILLING n 0
  let t := { t with hbm := { t.hbm with drains := t.hbm.drains.filter (· != n) } }
  s.noteRegion (t.regionIdle n) n

/-- REGION_DRAIN_COMPLETE (07 R248). -/
def execRegionDrainComplete (n : Nat) (s : State) : Host.Outcome State Fault Refusal :=
  command (.regionDrainComplete n) (s.hbm.drains.contains n && s.hbm.move.isNone && s.regionQuiet n)
    s (s.endDrain n)

/-- Every byte of a region zero and no line of it poisoned (09 R316). -/
def State.zeroRegion (s : State) (n : Nat) : State :=
  { s with mem := { s.mem with
    hbm := Memory.clear s.mem.hbm (n * 2 ^ 30) (2 ^ 30)
    poison := s.mem.poison.filter (fun l => !inRegion n l) } }

/-- The end of a zero-fill: the region is valid, or released when its owner's destruction filled it. -/
def State.endFill (s : State) (n : Nat) : State :=
  let t := s.zeroRegion n
  let t := { t with hbm := { t.hbm with fills := t.hbm.fills.filter (· != n) } }
  let t := if s.hbm.wiping.contains n then t.releaseRegion n
    else ((t.setF F.llmRgnDesc_VALID n 1).setF F.llmRgnDesc_FILLING n 0).regionIdle n
  s.noteRegion t n

/-- REGION_ZERO_FILL_COMPLETE (09 R316). -/
def execRegionZeroFillComplete (n : Nat) (s : State) : Host.Outcome State Fault Refusal :=
  command (.regionZeroFillComplete n) (s.hbm.fills.contains n) s (s.endFill n)

/-! ### Ownership (11 R390) -/

/-- Whether a partition can own: the pool or an enabled one. -/
def State.canOwn (s : State) (p : Nat) : Bool := p == 0 || s.b F.partCfg_ENABLE p

/-- A write of a TUN_RGNOWN word (11 R390). -/
def State.writeOwner (s : State) (n : Nat) (v : W32) : State :=
  let old := s.rget .rgnown n
  if bitsOf old 0 7 == bitsOf v 0 7 then s.code .rgnown n v
  else if s.held .llmRgnDesc n || !s.canOwn (bitsOf v 0 6) then
    (s.code .rgnown n (withBits v 0 7 (bitsOf old 0 7))).ignored .rgnown n
  else s.noteRegion (s.code .rgnown n v) n

/-- REGION_OWNER_WRITE (11 R390). -/
def execRegionOwnerWrite (n : Nat) (v : W32) (s : State) : Host.Outcome State Fault Refusal :=
  command (.regionOwnerWrite n v) true s (s.writeOwner n v)

/-! ### Ways (08 R273 to R278, R300; 11 R387) -/

/-- The lines of one way. -/
def State.waySlots (s : State) (w : Nat) : List Nat :=
  (s.mem.cache.filter (fun e => e.1 / 4096 == w)).map Prod.fst

/-- A tag release of a way: every line bearing the tag of partition n takes tag 0 (11 R387). -/
def State.releaseWay (s : State) (w n : Nat) : State :=
  { s with mem := { s.mem with
    cache := SMap.keep (fun k c => k / 4096 != w || c.tag != n) s.mem.cache
    scratchTags := SMap.keep (fun k t => k / 4096 != w || t.tag != n) s.mem.scratchTags } }

/-- A way takes its new word: lines of a way that leaves CACHE mode are gone, and an owner that gives
the way up has its tags released; NIDX is kept in SCRATCH mode alone, and a word that names the same MODE and OWNER
changes nothing else (08 R276, R300, 11 R387; log entry 28). -/
def State.takeWay (s : State) (w : Nat) (v : W32) : State :=
  let old := s.rget .sliceWay w
  let oldOwner := bitsOf old 2 6
  let s := if bitsOf old 0 2 == 1 && bitsOf old 0 8 != bitsOf v 0 8 then (s.waySlots w).foldl (fun s k => s.dropSlot k true) s else s
  let s := if oldOwner != 0 && oldOwner != bitsOf v 2 6 then s.releaseWay w oldOwner else s
  let word := if bitsOf v 0 2 == 2 then bitsOf v 0 21 else bitsOf v 0 8
  let t := ((s.rset .sliceWay w (withBits old 0 21 word)).setF F.sliceWay_BUSY w 0)
  t.ploro [oldOwner, bitsOf v 2 6]

/-- A write of LLM_SLICE_WAYn (08 R276, R300). -/
def State.writeWay (s : State) (w : Nat) (v : W32) : State :=
  let old := s.rget .sliceWay w
  let s1 := s.setF F.sliceWay_WI w (bitsOf (old &&& ~~~v) 31 1)
  if bitsOf old 30 1 == 1 || bitsOf v 0 2 == 3 || !s.canOwn (bitsOf v 2 6) then s1.ignored .sliceWay w
  else if bitsOf old 0 2 == 1 && bitsOf old 0 8 != bitsOf v 0 8 then
    { s1 with mem := { s1.mem with reassign := SMap.put s1.mem.reassign w v } }.setF F.sliceWay_BUSY w 1
  else s1.takeWay w v

/-- WAY_REASSIGN (08 R276). -/
def execWayReassign (slice way : Nat) (v : W32) (s : State) : Host.Outcome State Fault Refusal :=
  command (.wayReassign slice way v) true s (s.writeWay (slice * 16 + way) v)

/-- The lines of a way are not reduction-busy. -/
def State.wayFree (s : State) (w : Nat) : Bool := s.mem.cache.all (fun e => e.1 / 4096 != w || e.2.busy == 0)

def State.endReassign (s : State) (w : Nat) : State :=
  match SMap.find s.mem.reassign w with
  | none => s
  | some v => { s with mem := { s.mem with reassign := SMap.drop s.mem.reassign w } }.takeWay w v

/-- WAY_REASSIGN_COMPLETE (08 R276): dirty lines are written back, then the new values take effect. -/
def execWayReassignComplete (slice way : Nat) (s : State) : Host.Outcome State Fault Refusal :=
  command (.wayReassignComplete slice way)
    ((SMap.find s.mem.reassign (slice * 16 + way)).isSome && s.wayFree (slice * 16 + way))
    s (s.endReassign (slice * 16 + way))

/-! ### Range operations of the host (08 R281, R302, R303) -/

/-- The operation that LLM_CTL names. -/
def State.rangeNamed (s : State) : RangeOp :=
  { fn := s.f F.llmCtlRangeOp_FN 0, space := s.f F.llmCtlRangeOp_SPACE 0,
    part := s.f F.llmCtlRangeOp_PARTITION 0, addr := s.pair .llmCtlRangeAddrLo .llmCtlRangeAddrHi 0,
    len := (s.pair .llmCtlRangeLenLo .llmCtlRangeLenHi 0).toNat }

/-- The refusal of an operation; 0 for none (08 R302): reserved FN or SPACE, then misalignment, then an
address outside the space (log entry 29). -/
def State.rangeRefusal (s : State) (r : RangeOp) : Nat :=
  let cls := gaClass r.addr
  let node := gaNode r.addr
  if r.fn == 0 || 2 ≤ r.space then 0x0401
  else if r.addr.toNat % 128 != 0 || r.len % 128 != 0 then 0x0405
  else if r.space == 0 then (if r.addr.toNat + r.len ≤ 2 ^ 32 then 0 else 0x0212)
  else if 2 ≤ cls || (!s.ownNode node && s.nodeId.isNone) then 0x0212
  else if gaOfs r.addr + r.len ≤ (if s.ownNode node then 2 ^ 40 else 2 ^ 44) then 0 else 0x0212

/-- The first line of an operation. -/
def State.rangeLine (s : State) (r : RangeOp) : Nat :=
  if r.space == 0 then nLine r.part r.addr.toNat
  else if s.ownNode (gaNode r.addr) then gLine (gaOfs r.addr)
  else rLine (gaNode r.addr) (gaOfs r.addr)

/-- A write of LLM_CTL_RANGE_OP. -/
def State.writeRangeOp (s : State) (v : W32) : State :=
  let t := s.code .llmCtlRangeOp 0 v
  if bitsOf v 30 1 == 0 then t
  else if t.hbm.rangeOp.isSome then s.ignored .llmCtlRangeOp 0
  else
    let r := t.rangeNamed
    let e := t.rangeRefusal r
    if e == 0 then { t with hbm := { t.hbm with rangeOp := some r } }.setF F.llmCtlRangeStatus_BUSY 0 1
    else (t.setF F.llmCtlRangeStatus_ERR 0 1).setF F.llmCtlRangeStatus_CODE 0 e

/-- A write that starts a range operation of a kind. -/
def goesRange (fn : Nat) (v : W32) : Bool := bitsOf v 30 1 == 1 && bitsOf v 0 2 == fn

/-- HOST_RANGE_FLUSH (08 R303). -/
def execHostRangeFlush (v : W32) (s : State) : Host.Outcome State Fault Refusal :=
  command (.hostRangeFlush v) (goesRange 1 v) s (s.writeRangeOp v)

/-- HOST_RANGE_INVALIDATE (08 R303). -/
def execHostRangeInvalidate (v : W32) (s : State) : Host.Outcome State Fault Refusal :=
  command (.hostRangeInvalidate v) (goesRange 2 v) s (s.writeRangeOp v)

/-- HOST_RANGE_DRAFF (08 R303). -/
def execHostRangeDraff (v : W32) (s : State) : Host.Outcome State Fault Refusal :=
  command (.hostRangeDraff v) (goesRange 3 v) s (s.writeRangeOp v)

/-- The lines on which an operation acts: all of the range for a draff, which also enters lines that no
copy is held of, else those held here. -/
def State.rangeLines (s : State) (r : RangeOp) : List Nat :=
  let lo := s.rangeLine r
  let n := r.len / 128
  if r.fn == 3 then (List.range n).map (fun k => lo + k)
  else s.heldLines (fun l => lo ≤ l && l < lo + n)

/-- The operation on every line of its range. -/
def State.endRange (s : State) (r : RangeOp) : State :=
  let t := (s.rangeLines r).foldl (fun s l => s.rangeOn r.part r.fn l) s
  ({ t with hbm := { t.hbm with rangeOp := none } }.setF F.llmCtlRangeStatus_BUSY 0 0).setF
    F.llmCtlRangeStatus_DONE 0 1

/-- Whether the operation can complete: no fill of a line in an invalidated range is on its way (07 R266). -/
def State.rangeDone (s : State) : Bool :=
  match s.hbm.rangeOp with
  | none => false
  | some r =>
    let lo := s.rangeLine r
    r.fn != 2 || s.fab.reqs.all (fun q => !(q.2.msg.type == 0x20 && lo ≤ q.2.line && q.2.line < lo + r.len / 128))

/-- HOST_RANGE_DONE (08 R302). -/
def execHostRangeDone (s : State) : Host.Outcome State Fault Refusal :=
  command .hostRangeDone s.rangeDone s
    (match s.hbm.rangeOp with
     | some r => s.endRange r
     | none => s)

/-! ### Memory errors (09 R307 to R310, R318 to R320) -/

def State.stackCount (s : State) (stack n : Nat) : State := s.bump .stackEvtLo .stackEvtHi (stack * 6 + n) 1

/-- HBM_STACK_ERR: the first event stays while VALID is 1 (09 R326). -/
def State.recordHbm (s : State) (pc line kind : Nat) (scrub : Bool) : State :=
  let k := pc / 32
  if s.b F.stackErrInfo_VALID k then s.setF F.stackErrInfo_MORE k 1
  else
    let w := pc % 32 + kind * 32 + (if scrub then 128 else 0) + 2 ^ 31 + s.f F.stackErrInfo_MORE k * 2 ^ 30
    (s.rset .stackErrInfo k (BitVec.ofNat 32 w)).setF F.stackErrLine_LINE k line

/-- ADVISE of a pseudo-channel (09 R320). -/
def State.advise (s : State) (pc : Nat) : State := s.setF F.stackPcStatus_ADVISE pc 1

/-- The beat number. -/
def State.beat (s : State) : Nat := s.tun.num.toNat

/-- The beats of the events of the last 65,536 beats, one more among them (00 R8). -/
def recent (now : Nat) (bs : List Nat) : List Nat := (now :: bs).filter (fun b => now ≤ b + 65536)

/-- A corrected word: HBM_EVT_CE, and ADVISE past the limit, when it is in force, within 65,536 beats (09 R320,
R325). -/
def State.countCe (s : State) (pc : Nat) : State :=
  let s := s.stackCount (pc / 32) 0
  let bs := recent s.beat (SMap.get [] s.hbm.ceWindow pc)
  let s := { s with hbm := { s.hbm with ceWindow := SMap.put s.hbm.ceWindow pc bs } }
  if s.b F.hbmCtlCtrl_ENABLE 0 && s.f F.hbmCtlCfg_CE_LIMIT 0 < bs.length then s.advise pc else s

/-- A row needs repair: a soft repair starts, or ADVISE when none is left (09 R318, R320). -/
def State.repairRow (s : State) (pc row : Nat) : State :=
  if s.f F.stackPcStatus_PPR_LEFT pc == 0 then s.advise pc
  else { s with hbm := { s.hbm with pprStall := s.hbm.pprStall ++ [(pc, row)] } }

/-- A corrected word at a bit position: the second position in a row within 65,536 beats starts a
repair (09 R318). -/
def State.noteBit (s : State) (pc row bit : Nat) : State :=
  let k := pc * 2 ^ 24 + row
  match SMap.find s.hbm.rowHits k with
  | some x =>
    if s.beat ≤ x % 2 ^ 64 + 65536 && x / 2 ^ 64 != bit then
      { s with hbm := { s.hbm with rowHits := SMap.drop s.hbm.rowHits k } }.repairRow pc row
    else { s with hbm := { s.hbm with rowHits := SMap.put s.hbm.rowHits k (bit * 2 ^ 64 + s.beat) } }
  | none => { s with hbm := { s.hbm with rowHits := SMap.put s.hbm.rowHits k (bit * 2 ^ 64 + s.beat) } }

/-- The checks of a read burst of a channel line (09 R307, R308, R318): counts, repairs, the error
record, and the poison marker in the line the address holds. -/
def State.readBurst (s : State) (pc addr : Nat) (line : Option Nat) (scrub : Bool) (r : BurstReport) : State :=
  let s := if r.odCorrected then s.stackCount (pc / 32) 2 else s
  let row := Config.rowOf addr
  if r.bad then
    let s := (s.stackCount (pc / 32) 1).recordHbm pc addr (if r.odUncorrected then 1 else 0) scrub
    let s := s.repairRow pc row
    match line with
    | none => s
    | some l => s.poisonMem l 1 0x1FF
  else
    match r.singleBit with
    | some b => (s.countCe pc).noteBit pc row b
    | none => s

/-- The line of this device that a channel line address holds (08 R271 inverted), of a region in use or of one that
keeps its allotment (07 R249). -/
def State.lineAt (s : State) (pc addr : Nat) : Option Nat :=
  s.hbm.allot.findSome? (fun e =>
    let n := interBits e.2.inter
    let sh := shareOf e.2.inter
    (e.2.spots.zipIdx.find? (fun x => x.1.1 == pc && x.1.2 ≤ addr * 128 && addr * 128 < x.1.2 + sh)).map
      (fun x =>
        let c := addr * 128 - x.1.2
        let hi := c / 4096
        let low := x.2 ^^^ (if e.2.hash then foldXor n 18 hi else 0)
        gLine (e.1 * 2 ^ 30 + (hi * 2 ^ n + low) * 4096 + c % 4096)))

/-- SCRUB_READ's effect (09 R314, R315). -/
def State.doScrub (s : State) (pc : Nat) (r : BurstReport) : State :=
  match s.hbm.scrubDue.find? (fun x => x.1 == pc) with
  | none => s
  | some x =>
    let t := { s with hbm := { s.hbm with scrubDue := s.hbm.scrubDue.erase x } }.stackCount (pc / 32) 3
    s.service (t.readBurst pc x.2 (t.lineAt pc x.2) true r)

/-- SCRUB_READ (09 R314). -/
def execScrubRead (pc : Nat) (r : BurstReport) (s : State) : Host.Outcome State Fault Refusal :=
  command (.scrubRead pc r) (s.hbm.scrubDue.any (fun x => x.1 == pc) && !s.chanStalled pc) s
    (s.doScrub pc r)

/-- The end of a soft repair (09 R318, R319). -/
def State.endPpr (s : State) (pc : Nat) : State :=
  match s.hbm.pprStall.find? (fun x => x.1 == pc) with
  | none => s
  | some x =>
    let left := SMap.get 0 s.hbm.pprLeft pc - 1
    let t := { s with
      hbm := { s.hbm with pprStall := s.hbm.pprStall.erase x, pprLeft := SMap.set 0 s.hbm.pprLeft pc left }
      sec := { s.sec with repairs := s.sec.repairs ++ [BitVec.ofNat 32 (pc + 512 * x.2)] } }
    ((t.stackCount (pc / 32) 4).setF F.stackPcStatus_PPR_PENDING pc 1).setF F.stackPcStatus_PPR_LEFT pc (min 15 left)

/-- SOFT_PPR_COMPLETE (09 R318). -/
def execSoftPprComplete (pc : Nat) (s : State) : Host.Outcome State Fault Refusal :=
  command (.softPprComplete pc) (s.hbm.pprStall.any (fun x => x.1 == pc) && !s.hbm.training.contains (pc / 2))
    s
    (s.endPpr pc)

/-- CA_PARITY_ERROR (09 R310): one retry, and retraining of the channel when it fails. -/
def State.doParity (s : State) (stack chan : Nat) (ok : Bool) : State :=
  let t := s.stackCount stack 5
  if ok then t else { t with hbm := { t.hbm with training := (stack * 16 + chan) :: t.hbm.training } }

def execCaParityError (stack chan : Nat) (ok : Bool) (s : State) : Host.Outcome State Fault Refusal :=
  command (.caParityError stack chan ok)
    (s.b F.stackStatus_TRAINED stack && !s.hbm.training.contains (stack * 16 + chan) &&
      s.f F.stackStatus_FAILED_CH stack / 2 ^ chan % 2 == 0)
    s (s.doParity stack chan ok)

/-- The end of a channel's retraining (09 R310). The spec names no line for a channel failure in
HBM_STACK_ERR_LINE, so it is a free value. -/
def State.endRetrain (s : State) (stack chan : Nat) (ok : Bool) : State :=
  let t := { s with hbm := { s.hbm with training := s.hbm.training.filter (· != stack * 16 + chan) } }
  if ok then t
  else
    let pc := 32 * stack + 2 * chan
    let (x, t) := t.draw
    let t := t.setF F.stackStatus_FAILED_CH stack (t.f F.stackStatus_FAILED_CH stack ||| 2 ^ chan)
    s.service ((((t.advise pc).advise (pc + 1)).recordHbm pc x.toNat 2 false).ploro (List.range 64))

/-- CHANNEL_RETRAIN_END (09 R310). -/
def execChannelRetrainEnd (stack chan : Nat) (ok : Bool) (s : State) : Host.Outcome State Fault Refusal :=
  command (.channelRetrainEnd stack chan ok) (s.hbm.training.contains (stack * 16 + chan)) s
    (s.endRetrain stack chan ok)

/-! ### Retirement (09 R321 to R324) -/

/-- The shares that lie on a pseudo-channel: region × 512 + position and bytes, ascending. -/
def State.sharesOn (s : State) (pc : Nat) : List (Nat × Nat) :=
  (s.hbm.allot.filter (fun e => s.inUse e.1)).flatMap (fun e =>
    (e.2.spots.zipIdx.filter (fun x => x.1.1 == pc)).map (fun x => (e.1 * 512 + x.2, shareOf e.2.inter)))

/-- New places for shares, one after another; `first` counts the lines of those before. -/
def State.moveShares (s : State) (pc : Nat) :
    Nat → List (Nat × Nat × Nat) → List (Nat × Nat) → Option (List MoveShare)
  | _, _, [] => some []
  | first, used, x :: xs =>
    match s.substitute used pc x.2 with
    | none => none
    | some p => (s.moveShares pc (first + x.2 / 128) ((p.1, p.2, x.2) :: used) xs).map (fun r =>
        ⟨x.1, first, x.2 / 128, p.1, p.2⟩ :: r)

/-- The lines of a retirement. -/
def RetireMove.total (m : RetireMove) : Nat := m.shares.foldl (fun n x => n + x.lines) 0

/-- Whether some region whose set or shares include a pseudo-channel is FILLING (09 R321). -/
def State.fillingOn (s : State) (pc : Nat) : Bool :=
  (List.range 1024).any (fun n => s.b F.llmRgnDesc_FILLING n &&
    ((setOf (s.f F.llmRgnDesc_INTERLEAVE n) (s.f F.llmRgnDesc_PLACE n)).contains pc ||
      ((SMap.find s.hbm.allot n).map (fun a => a.spots.any (fun x => x.1 == pc))).getD false))

def State.refuseRetire (s : State) (reason : Nat) : State :=
  (s.setF F.hbmCtlRetire_STATE 0 3).setF F.hbmCtlRetire_REASON 0 reason

/-- An allotment with one share moved. -/
def Allot.move (a : Allot) (i : Nat) (p : Nat × Nat) : Allot := { a with spots := a.spots.set i p }

/-- A pseudo-channel enters the retired set (09 R323, R324): registers, and the record in flash. -/
def State.markRetired (s : State) (pc : Nat) : State :=
  let s := s.rset .hbmCtlRetired (pc / 32) (s.rget .hbmCtlRetired (pc / 32) ||| BitVec.ofNat 32 (2 ^ (pc % 32)))
  let s := (s.setF F.hbmCtlStatus_RETIRED 0 (s.f F.hbmCtlStatus_RETIRED 0 + 1)).setF F.stackPcStatus_RETIRED pc 1
  { s with sec := { s.sec with retired := pc :: s.sec.retired.filter (· != pc) } }

/-- Whether a line is still homed at a pseudo-channel. -/
def State.homedOn (s : State) (pc l : Nat) : Bool :=
  l < 2 ^ 33 && (s.spot (regionOf (l * 128)) (regionOfs (l * 128))).1 == pc

/-- The cursor of a retirement at a line: the copies of the lines it passes are recalled and written back, and they
are homed at the substitute from then on (09 R323). A word found uncorrectable as a line is copied is reported by
MEMORY_READ_COMPLETE (log entry 142); poison stays with the line. -/
def State.moveTo (s : State) (m : RetireMove) (n : Nat) : State :=
  let next (s : State) : State := { s with hbm := { s.hbm with move := some { m with cursor := n } } }
  let t := ((s.heldLines (s.homedOn m.pc)).filter (fun l => !(next s).homedOn m.pc l)).foldl (fun s l => s.dropLine l true) s
  (next t).setF F.hbmCtlRetireMoved_LINES 0 n

/-- Time passes in a retirement: the cursor moves on by a free number of lines, while it does not pause and no request
is in progress (09 R323, 15 R531; log entry 142). -/
def State.moveOn (s : State) : State :=
  match s.hbm.move with
  | none => s
  | some m =>
    if s.hbm.training.contains (m.pc / 2) || s.hbm.pprStall.any (fun x => x.1 == m.pc) || !s.mem.farOps.isEmpty ||
        !s.mem.txns.isEmpty then s
    else s.draw.2.moveTo m (m.cursor + s.draw.1.toNat % (m.total - m.cursor + 1))

/-- The new map in force: copies of the moved lines are dropped with write-back first, previous
allotments that the moved shares overlap or that have a part on the pseudo-channel are forgotten, VALID writes that
waited are carried out (09 R323, R324; 07 R249). -/
def State.endMove (s : State) (m : RetireMove) : State :=
  let t := (s.heldLines (s.homedOn m.pc)).foldl (fun s l => s.dropLine l true) s
  let allot := m.shares.foldl (fun al x =>
    match SMap.find al (x.share / 512) with
    | some a => SMap.put al (x.share / 512) (a.move (x.share % 512) (x.pc, x.base))
    | none => al) t.hbm.allot
  let allot := t.forgetPieces (m.shares.map (fun x => (x.pc, x.base, 128 * x.lines))) allot
  let allot := SMap.keep (fun k a => t.inUse k || !a.spots.any (fun x => x.1 == m.pc)) allot
  let waits := t.hbm.deferred
  let t := { t with hbm := { t.hbm with allot := allot, move := none, deferred := [] } }
  let t := (t.markRetired m.pc).setF F.hbmCtlRetire_STATE 0 2
  let t := t.setF F.hbmCtlRetireMoved_LINES 0 (t.f F.hbmCtlRetireTotal_LINES 0)
  (waits.foldl (fun s n => (s.enableRegion n).regionIdle n) t).ploro (List.range 64)

/-- A write of HBM_CTL_RETIRE (09 R321, R322, R325). On an isolated die nothing is moved (15 R530). -/
def State.writeRetire (s : State) (v : W32) : State :=
  if bitsOf v 9 1 == 0 then s.code .hbmCtlRetire 0 v
  else if s.f F.hbmCtlRetire_STATE 0 == 1 then s.ignored .hbmCtlRetire 0
  else
    let s := s.code .hbmCtlRetire 0 v
    let pc := bitsOf v 0 9
    let shares := s.sharesOn pc
    if s.retiredPc pc then s.refuseRetire 1
    else if s.fillingOn pc then s.refuseRetire 3
    else
      match s.moveShares pc 0 (s.pieces 1024) shares with
      | none => s.refuseRetire 2
      | some ts =>
        let m : RetireMove := ⟨pc, ts, 0⟩
        let s := { s with hbm := { s.hbm with move := some m } }
        let lines := m.total
        let t := (((s.setF F.hbmCtlRetire_STATE 0 1).setF F.hbmCtlRetire_REASON 0 0).setF
          F.hbmCtlRetireMoved_LINES 0 0).setF F.hbmCtlRetireTotal_LINES 0 lines
        if s.ras.isolated.contains (pc / 64) then t.endMove m else t

/-- PSEUDO_CHANNEL_RETIRE (09 R321). -/
def execPseudoChannelRetire (v : W32) (s : State) : Host.Outcome State Fault Refusal :=
  command (.pseudoChannelRetire v) (bitsOf v 9 1 == 1) s (State.service s (s.writeRetire v))

/-- Whether a retirement runs: its reads pause while the channel retrains or a soft repair runs (15 R531). -/
def State.moveRuns (s : State) : Bool :=
  match s.hbm.move with
  | some m => !s.hbm.training.contains (m.pc / 2) && !s.hbm.pprStall.any (fun x => x.1 == m.pc)
  | none => false

/-- RETIREMENT_MOVE_COMPLETE (09 R323). -/
def execRetirementMoveComplete (s : State) : Host.Outcome State Fault Refusal :=
  command .retirementMoveComplete (s.moveRuns && s.mem.farOps.isEmpty) s
    (match s.hbm.move with
     | some m => State.service s (s.endMove m)
     | none => s)

end Sys2Proof.Machine
end

