-- ==== Sys2Proof/Machine/Sched.lean ====
section
/-!
DEFINITION. Partitions, contexts and placement (11 R383 to R412; 12 R431): creation and destruction, what a
context's enable does, where a task is placed and how its groups start, switches, freeze and restore.
-/
namespace Sys2Proof.Config

/-- A byte of the core-state area of a save slot, of which 11 R401 gives the place and size but no layout. -/
opaque saveByte : Sys2Proof.Machine.SavedCore → Nat → Byte

/-- What a save slot's core-state area holds for a context that is restored from an image. -/
opaque restoreSlot : List Byte → Option Sys2Proof.Machine.SavedCore

end Sys2Proof.Config

namespace Sys2Proof.Machine

/-! ### Partitions (11 R383 to R385) -/

/-- STATE of TUN_PART_CMD. -/
def State.partState (s : State) (p : Nat) : Nat := s.f F.partCmd_STATE p

/-- The logical cores named in a descriptor, ascending. -/
def State.namedCores (s : State) (p : Nat) : List Nat :=
  (List.range 256).filter (fun c => (s.rget .partCores (8 * p + c / 32)).getLsbD (c % 32))

/-- The cores a partition holds (11 R383, R384). -/
def State.coresOf (s : State) (p : Nat) : List Nat :=
  if p == 0 then
    (List.range 256).filter (fun c => s.corePresent c && (List.range 64).all (fun q =>
      q == 0 || !s.b F.partCfg_ENABLE q || !(s.rget .partCores (8 * q + c / 32)).getLsbD (c % 32)))
  else if s.b F.partCfg_ENABLE p then s.namedCores p else []

/-- The enabled partitions other than p and the pool. -/
def State.others (s : State) (p : Nat) : List Nat :=
  (List.range 64).filter (fun q => q != 0 && q != p && s.b F.partCfg_ENABLE q)

/-- REASON of a refused creation; 0 for none (11 R385). -/
def State.createRefusal (s : State) (p : Nat) : Nat :=
  let base := s.f F.partSeq_BASE p
  let n := s.f F.partSeq_COUNT p
  let inst := s.f F.partCfg_INSTANCE p
  let overlap (q : Nat) : Bool :=
    base < s.f F.partSeq_BASE q + s.f F.partSeq_COUNT q && s.f F.partSeq_BASE q < base + n && n != 0
  if (s.namedCores p).any (fun c => !s.corePresent c || s.unitOff 0 (s.physIdx c / 9) || (s.others p).any (fun q => (s.namedCores q).contains c)) then 1
  else if 256 < base + n || (s.others p).any overlap then 2
  else if inst != 0 && (s.others p).any (fun q => s.f F.partCfg_INSTANCE q == inst) then 3
  else 0

/-- A refusal reported in TUN_PART_CMD. -/
def State.refusePart (s : State) (p reason : Nat) : State :=
  (s.setF F.partCmd_REFUSED p 1).setF F.partCmd_REASON p reason

/-- Creation (11 R385). -/
def State.createPart (s : State) (p : Nat) : State :=
  let r := s.createRefusal p
  if r != 0 then s.refusePart p r
  else
    let t := ((s.setF F.partCfg_ENABLE p 1).setF F.partCmd_STATE p 1).setF F.partCmd_REASON p 0
    let mine (m : SMap Nat) : SMap Nat := SMap.keep (fun k _ => k / 8192 != p) m
    let t := { t with views := ⟨mine t.views.work, mine t.views.shown, mine t.views.stamps⟩ }
    ({ t with ras := { t.ras with tables := p :: t.ras.tables.filter (· != p) } }).ploro [p]

/-! ### Destruction (11 R388) -/

/-- A context that is not IDLE, or whose ring is enabled, is torn down with FAULT 0 (log entry 32). -/
def State.stopIdle (s : State) (p c : Nat) : State :=
  let key := 16 * p + c
  if s.f F.tunCtx_STATE key == 0 && !s.b F.ringCtrl_ENABLE key then s
  else s.teardown ⟨0, p, c, 3, 0xFFFF, 0, 0⟩ false

/-- A core gives up the tags of a partition (11 R387). -/
def State.releaseCore (s : State) (c p : Nat) : State :=
  { s with mem := { s.mem with tags := SMap.keep (fun k t => k / 1024 != c || t.part != p) s.mem.tags } }

/-- A way of a destroyed partition: its lines lost, its tags released, UNASSIGNED with OWNER 0. -/
def State.loseWay (s : State) (w p : Nat) : State :=
  let s := (s.waySlots w).foldl (fun s k => s.dropSlot k false) s
  let s := s.releaseWay w p
  let s := { s with mem := { s.mem with reassign := SMap.drop s.mem.reassign w } }
  s.rset .sliceWay w (withBits (withBits (s.rget .sliceWay w) 0 21 0) 30 1 0)

/-- The L1 copies of a partition's Near lines are dropped with its ways. -/
def State.loseNear (s : State) (p : Nat) : State :=
  (s.heldLines (fun l => match lineKind l with
    | .near q _ => q == p
    | _ => false)).foldl (fun s l => s.dropLine l false) s

/-- The sequence slots of a partition. -/
def State.slotsOf (s : State) (p : Nat) : List Nat :=
  (List.range (s.f F.partSeq_COUNT p)).map (fun j => (s.f F.partSeq_BASE p + j) % 256)

/-- A sequence slot cleared. -/
def State.clearSlot (s : State) (j : Nat) : State :=
  ((s.rset .seqCtl j 0).rset .seqPos j 0).rset .seqLimit j 0

/-- The circle keys of a partition cleared (13 R471). -/
def State.dropCircles (s : State) (p : Nat) : State :=
  let s := { s with sec := { s.sec with
    circles := SMap.keep (fun _ c => c.part != p) s.sec.circles
    keyBusy := SMap.drop s.sec.keyBusy p } }
  (s.rset .keyHeld p 0).setF F.keyStatus_BUSY p 0

/-- Steps 1 to 5 of a destruction (11 R388). -/
def State.destroyPart (s : State) (p : Nat) : State :=
  let s := s.setF F.partCmd_STATE p 5
  let s := (List.range 16).foldl (fun s c => s.stopIdle p c) s
  let s := s.loseNear p
  let ways := (s.words .sliceWay).filter (fun w => bitsOf w.2 0 2 != 0 && bitsOf w.2 2 6 == p)
  let s := ways.foldl (fun (s : State) (w : Nat × W32) => s.loseWay w.1 p) s
  let s := (s.namedCores p).foldl (fun s c => s.releaseCore c p) s
  let rs := (s.words .rgnown).filter (fun w => bitsOf w.2 0 6 == p)
  let s := { s with hbm := { s.hbm with destroying := s.hbm.destroying ++ rs.map (fun (w : Nat × W32) => (w.1, p)) } }
  let s := rs.foldl (fun (s : State) (w : Nat × W32) => if s.b F.llmRgnDesc_FILLING w.1 then s else s.wipeRegion w.1) s
  let s := (s.slotsOf p).foldl State.clearSlot s
  let s := s.setF F.bxfCtlPkey_ENABLE p 0
  let s := (List.range 64).foldl (fun s b =>
    if s.f F.barOwner_PARTITION b == p then s.setF F.barCfg_ENABLE b 0 else s) s
  let s := s.dropCircles p
  let s := { s with tun := { s.tun with
    xlat := s.tun.xlat.filter (fun x => x.part != p)
    freezing := SMap.drop s.tun.freezing p } }
  s.ploro [p]

/-- A STOPPED ring returns to IDLE (12 R434). -/
def State.idleRing (s : State) (key : Nat) : State :=
  if s.f F.ringStatus_STATE key == 2 then s.setF F.ringStatus_STATE key 0 else s

/-- Step 6 of a destruction. -/
def State.endDestroy (s : State) (p : Nat) : State :=
  let s := (List.range 16).foldl (fun s c =>
    ((s.rset .tunCtx (16 * p + c) 0).idleRing (16 * p + c)).setCtx (16 * p + c)
      { CtxSt.reset with draining := (s.ctx (16 * p + c)).draining, returning := (s.ctx (16 * p + c)).returning }) s
  let s := s.rset .partCtxmask p 0
  let s := (s.setF F.partCfg_ENABLE p 0).setF F.partCmd_STATE p 0
  ({ s with ras := { s.ras with tables := s.ras.tables.filter (· != p), gens := SMap.drop s.ras.gens p } }).ploro []

/-- A write of TUN_PART_CFG (11 R383, R385, R388, R411). -/
def State.writePartCfg (s : State) (p : Nat) (v : W32) : State :=
  if p == 0 then s
  else
    let on := s.b F.partCfg_ENABLE p
    let t := (s.code .partCfg p v).setF F.partCfg_ENABLE p (if on then 1 else 0)
    if bitsOf v 0 1 == 1 then (if !on && s.partState p == 0 then t.createPart p else t)
    else if on && s.partState p != 5 then t.destroyPart p
    else t

/-- PARTITION_CREATE (11 R385). -/
def execPartitionCreate (part : Nat) (v : W32) (s : State) : Host.Outcome State Fault Refusal :=
  command (.partitionCreate part v) (bitsOf v 0 1 == 1) s (s.writePartCfg part v)

/-- PARTITION_DESTROY (11 R388). -/
def execPartitionDestroy (part : Nat) (v : W32) (s : State) : Host.Outcome State Fault Refusal :=
  command (.partitionDestroy part v) (bitsOf v 0 1 == 0) s (s.writePartCfg part v)

/-- PARTITION_DESTROY_END (11 R388). -/
def execPartitionDestroyEnd (part : Nat) (s : State) : Host.Outcome State Fault Refusal :=
  command (.partitionDestroyEnd part)
    (s.partState part == 5 && s.hbm.destroying.all (fun x => x.2 != part))
    s (s.endDestroy part)

/-! ### Contexts (11 R393, R404, R412) -/

/-- A write of TUN_CTX. Partition 0 runs no context (11 R383). -/
def State.writeCtx (s : State) (key : Nat) (v : W32) : State :=
  let t := s.code .tunCtx key v
  let st := s.f F.tunCtx_STATE key
  if bitsOf v 0 1 == 1 then
    if st == 5 then ((t.setF F.tunCtx_FAULT key 0).setCtxState key 0).idleRing key else t
  else if st == 0 || st == 5 then t
  else t.teardown ⟨0, key / 16, key % 16, 3, 0xFFFF, 0, 0⟩ false

/-- CONTEXT_ENABLE (11 R404). -/
def execContextEnable (part ctx : Nat) (v : W32) (s : State) : Host.Outcome State Fault Refusal :=
  command (.contextEnable part ctx v) (bitsOf v 0 1 == 1) s (s.writeCtx (16 * part + ctx) v)

/-- CONTEXT_DISABLE (11 R393). -/
def execContextDisable (part ctx : Nat) (v : W32) (s : State) : Host.Outcome State Fault Refusal :=
  command (.contextDisable part ctx v) (bitsOf v 0 1 == 0) s (s.writeCtx (16 * part + ctx) v)

/-- Whether a context has transfers in flight on some core. -/
def State.ctxDrained (s : State) (part ctx : Nat) : Bool :=
  s.co.cores.all (fun e => e.2.tm.all (fun c => !(c.part == part && c.ctx == ctx) || c.xfers.isEmpty)) &&
    s.tun.copies.all (fun e => !(e.2.part == part && e.2.ctx == ctx)) &&
    s.tun.aes.all (fun e => !(e.2.part == part && e.2.ctx == ctx))

/-- TEARDOWN_DRAIN_END (11 R403): the cores return at the next boundary. -/
def execTeardownDrainEnd (part ctx : Nat) (s : State) : Host.Outcome State Fault Refusal :=
  command (.teardownDrainEnd part ctx) ((s.ctx (16 * part + ctx)).draining && s.ctxDrained part ctx)
    s
    (s.setCtx (16 * part + ctx) { s.ctx (16 * part + ctx) with draining := false })

/-! ### Placement (11 R395 to R398) -/

/-- The groups resident on a core. -/
def State.coreGroups (s : State) (core : Nat) : List (Nat × Group) :=
  s.co.groups.filter (fun e => e.1 < 256 * 64 && e.1 / 64 == core)

/-- Whether another context holds a core, or its return from a teardown is awaited (11 R393, R403). -/
def State.coreTaken (s : State) (key core : Nat) : Bool :=
  s.tun.ctxs.any (fun e => e.2.returning.contains core || (e.1 != key && e.2.resident.contains core))

/-- Whether a core has room for G groups of rpt registers of a context (11 R395, 15 R517). -/
def State.room (s : State) (key core g rpt : Nat) : Bool :=
  let gs := s.coreGroups core
  let used := gs.foldl (fun n e => n + e.2.rpt / 8) 0
  let tasks := (gs.map (fun e => (e.2.task, e.2.inst))).eraseDups
  s.corePresent core && !s.fenced core && !s.coreTaken key core && gs.length + g ≤ 64 &&
    used + g * (rpt / 8) ≤ 256 && tasks.length < 8

/-- AKEY of a core slot. -/
def Task.akey (t : Task) (i : Nat) : Nat := (t.slots.getD i 0).toNat % 2 ^ 32

/-- The die hint of a core slot: 15 where the command gives no slot table. -/
def Task.hint (t : Task) (i : Nat) : Nat :=
  match t.slots[i]? with
  | some w => w.toNat / 2 ^ 32 % 16
  | none => 15

/-- The core of slot i among the cores with room that no earlier slot took (11 R395). -/
def State.pickCore (s : State) (part ctx : Nat) (t : Task) (free : List Nat) (i : Nat) : Option Nat :=
  let byKey := if t.akey i == 0 then none
    else free.find? (fun c => (s.core c).affinity == some (part, ctx, t.akey i))
  let byDie := if t.hint i < 8 then free.find? (fun c => c / 32 == t.hint i) else none
  (byKey.orElse (fun _ => byDie)).orElse (fun _ => free.head?)

/-- The cores of a task's slots i, i + 1, …; none when some slot finds no core. -/
def State.pickCores (s : State) (part ctx : Nat) (t : Task) : Nat → List Nat → Nat → Option (List Nat)
  | _, _, 0 => some []
  | i, free, n + 1 =>
    match s.pickCore part ctx t free i with
    | none => none
    | some c => (s.pickCores part ctx t (i + 1) (free.erase c) n).map (fun cs => c :: cs)

/-- Where a task can be placed whole. -/
def State.placement (s : State) (part ctx : Nat) (t : Task) : Option (List Nat) :=
  let free := (s.coresOf part).filter (fun c => s.room (16 * part + ctx) c t.g t.rpt)
  s.pickCores part ctx t 0 free t.k

/-- Whether a task can never be placed (11 R397). -/
def State.neverPlaced (s : State) (part : Nat) (t : Task) : Bool :=
  (s.coresOf part).length < t.k || 256 < t.g * (t.rpt / 8)

/-! ### Launch (04 R138, 12 R431) -/

/-- The register granules of a core that no group holds (04 R112). -/
def State.freeGranules (s : State) (core : Nat) : List Nat :=
  let used := (s.coreGroups core).flatMap (fun e => e.2.granules)
  (List.range 256).filter (fun k => !used.contains k)

/-- A group placed in a slot of a core, on the lowest free granules (04 R112; DESIGN CHOICE, log entry 140). -/
def State.seatGroup (s : State) (core slot : Nat) (g : Group) : State :=
  let g := { g with granules := (s.freeGranules core).take (g.rpt / 8) }
  { s with co := { s.co with groups := SMap.put s.co.groups (core * 64 + slot) g } }

/-- The next group tag (04 R138). -/
def nextTag (g : Nat) : Nat := if (g + 1) % 2 ^ 26 == 0 then 1 else (g + 1) % 2 ^ 26

/-- The state of a launched group. -/
def State.launched (s : State) (part ctx : Nat) (t : Task) (tag i j : Nat) : Group :=
  let seq := t.inst < 256
  let g := { Group.idle part ctx with
    task := t.n
    inst := t.inst
    node := BitVec.ofNat 16 (s.nodeId.getD 0xFFFF)
    gtag := tag
    rpt := t.rpt
    pc := t.entry
    launch := BitVec.allOnes 32
    active := BitVec.allOnes 32 }
  let g := if seq then (g.setS 0 (BitVec.ofNat 64 t.inst)).setS 1 ((s.rget .seqPos t.inst).setWidth 64) else g
  (((g.setS 2 t.arg).setS 3 (BitVec.ofNat 64 t.k)).setS 4 (BitVec.ofNat 64 i)).setS 5 (BitVec.ofNat 64 j)

/-- The lowest vacant group slot of a core. -/
def State.vacant (s : State) (core : Nat) : Nat :=
  ((List.range 64).find? (fun j => (SMap.find s.co.groups (core * 64 + j)).isNone)).getD 0

/-- One group launched; its tag joins the task's. -/
def State.launchOne (s : State) (part ctx : Nat) (t : Task) (core i j : Nat) : State × Nat :=
  let tag := nextTag s.co.gtag
  let s := { s with co := { s.co with gtag := tag } }
  (s.seatGroup core (s.vacant core) (s.launched part ctx t tag i j), tag)

/-- Every group of a task launched on its cores, in slot order. -/
def State.launchTask (s : State) (part ctx : Nat) (t : Task) (cores : List Nat) : State × List Nat :=
  cores.zipIdx.foldl (fun x c =>
    (List.range t.g).foldl (fun x j =>
      let r := x.1.launchOne part ctx t c.1 c.2 j
      (r.1, r.2 :: x.2)) x) (s, [])

/-- A task of a context replaced. -/
def CtxSt.setTask (x : CtxSt) (t : Task) : CtxSt :=
  { x with tasks := x.tasks.map (fun y => if y.n == t.n && y.inst == t.inst then t else y) }

/-- A ring command marked started. -/
def State.markStarted (s : State) (key n : Nat) : State :=
  let r := s.ring key
  s.setRing key { r with cmds := r.cmds.map (fun c => if c.idx == n then { c with started := true } else c), stalled := 0 }

/-- A task placed: its groups run and its command has started (11 R395, 12 R426). The generators of a core stand as
the last context left them (DESIGN CHOICE, log entry 135): the spec resets them at reset, and seeds, saves and restores
them (02 R59). -/
def State.placeTask (s : State) (part ctx : Nat) (t : Task) (cores : List Nat) : State :=
  let key := 16 * part + ctx
  let (s, tags) := s.launchTask part ctx t cores
  let x := s.ctx key
  let live := cores.zipIdx.map (fun c => (c.1, t.akey c.2))
  let s := s.setCtx key ({ x with resident := (x.resident ++ cores).eraseDups }.setTask
    { t with placed := true, live := live, tags := tags })
  let s := s.markStarted key t.n
  if s.f F.tunCtx_STATE key == 2 then s
  else (s.setCtx key { s.ctx key with ran := 0 }).setCtxState key 2

/-- The state of a context that neither faulted nor switches, from its tasks (11 R412). -/
def State.settleCtx (s : State) (key : Nat) : State :=
  let st := s.f F.tunCtx_STATE key
  let x := s.ctx key
  if 3 ≤ st then s
  else if x.tasks.any (fun t => t.placed) then s.setCtxState key 2
  else if !x.tasks.isEmpty then s.setCtxState key 1
  else s.setCtxState key 0

/-- The address of a ring's entry n (12 R422). -/
def State.entryAddr (s : State) (key n : Nat) : W64 :=
  s.pair .ringBaseLo .ringBaseHi key + BitVec.ofNat 64 (64 * (n % 2 ^ s.f F.ringCtrl_LOG2N key))

/-- Fault 0x030A and its information (11 R397, R409). -/
def State.faultNever (s : State) (key : Nat) (t : Task) : State :=
  s.raiseRing key 0x030A 5 (s.entryAddr key t.n)
    (BitVec.ofNat 32 (t.k % 512 + t.g % 128 * 2 ^ 9 + t.rpt % 512 * 2 ^ 16)) false

/-! ### Switches (11 R398 to R402) -/

/-- A RUNNING context chosen as victim stops issuing and drains, core by core (11 R400). -/
def State.beginSwitch (s : State) (key : Nat) : State :=
  let x := s.ctx key
  ((s.setCtx key { x with switching := x.resident.map (fun c => (c, .draining)) }).setCtxState key 3).dropHints
    (key / 16) (key % 16)

/-- A SAVED context whose cores are free is read back (11 R400 stage 4). -/
def State.beginRestore (s : State) (key : Nat) : State :=
  let x := s.ctx key
  let held := s.coresOf (key / 16)
  let cores := x.saved.map (fun y => held.getD y.core 256)
  (s.setCtx key { x with switching := cores.map (fun c => (c, .restoring)), resident := cores }).setCtxState key 3

/-- Whether every core of a SAVED context is free for it. -/
def State.canRestore (s : State) (key : Nat) : Bool :=
  let held := s.coresOf (key / 16)
  (s.ctx key).saved.all (fun y =>
    match held[y.core]? with
    | some c => s.corePresent c && !s.fenced c && !s.coreTaken key c && (s.coreGroups c).isEmpty
    | none => false)

/-- The tags of a context's groups on a core. -/
def State.tagsOn (s : State) (part ctx core : Nat) : List Nat :=
  ((s.coreGroups core).filter (fun e => e.2.part == part && e.2.ctx == ctx)).map (fun e => e.2.gtag)

/-- Whether a transfer stalls at a cask tile: at preemption it counts as not started (13 R477), and is kept with
its count of beats. -/
def Xfer.atCask (x : Xfer) : Bool :=
  match x.stage with
  | .cask _ => true
  | _ => false

/-- Whether nothing of a context is outstanding on a core: its accesses, engine instructions and
transfers (11 R400 stages 1 and 2). -/
def State.coreQuiet (s : State) (part ctx core : Nat) : Bool :=
  let tags := s.tagsOn part ctx core
  s.co.accesses.all (fun e => !(e.2.who.core == core && tags.contains e.2.gtag)) &&
    (s.core core).mats.all (fun m => !tags.contains m.gtag) &&
    (s.core core).tm.all (fun c => !(c.part == part && c.ctx == ctx) || c.xfers.all Xfer.atCask)

/-- The stage of a core in a context's switch. -/
def State.stageOf (s : State) (key core : Nat) : Option SwitchStage :=
  ((s.ctx key).switching.find? (fun w => w.1 == core)).map Prod.snd

def State.setStage (s : State) (key core : Nat) (st : SwitchStage) : State :=
  let x := s.ctx key
  s.setCtx key { x with switching := x.switching.map (fun w => if w.1 == core then (core, st) else w) }

/-- SWITCH_DRAIN_END (11 R400). -/
def execSwitchDrainEnd (part ctx core : Nat) (s : State) : Host.Outcome State Fault Refusal :=
  command (.switchDrainEnd part ctx core)
    (s.stageOf (16 * part + ctx) core == some .draining && s.coreQuiet part ctx core)
    s
    (s.setStage (16 * part + ctx) core .saving)

/-- The save slot of a context on a core: its number and its physical offset (11 R401). -/
def State.saveSlot (s : State) (part ctx core : Nat) : Nat × Nat :=
  let cs := s.coresOf part
  let n := ctx * cs.length + (cs.findIdx? (· == core)).getD 0
  (n, (s.f F.partSave_SAVE_RGN part + n / 226) * 2 ^ 30 + n % 226 * 0x480000)

/-- Whether a region can take a partition's save or Near image: owned, POLICY 0 or 1 (11 R401, R411). -/
def State.saveRegion (s : State) (part r : Nat) : Bool :=
  r < 1024 && s.f F.rgnown_OWNER r == part && s.f F.llmRgnDesc_POLICY r < 2

/-- Whether a save write of a slot meets poison or a fault (11 R401). -/
def State.saveFails (s : State) (part ofs : Nat) : Bool :=
  let r := regionOf ofs
  !s.saveRegion part r || !s.b F.llmRgnDesc_VALID r || s.chanFailed (gLine ofs) ||
    s.mem.poison.any (fun l => gLine ofs ≤ l && l < gLine (ofs + 0x480000))

/-- The lines of a physical range lose their copies on this device, then take bytes. -/
def State.dropRange (s : State) (ofs n : Nat) : State :=
  (s.heldLines (fun l => gLine ofs ≤ l && l < gLine (ofs + n))).foldl (fun s l => s.dropLine l false) s

/-- Bytes written at a physical offset, wherever they are not zero. -/
def putBytes (m : Memory) (ofs : Nat) (f : Nat → Byte) (lo n : Nat) : Memory :=
  (List.range n).foldl (fun m i => m.write (ofs + lo + i) (f (lo + i))) m

/-- The 1,600 bytes of a group slot, in the order of the table of 04 R146 (DEDUCED, log entry 141): scalar registers,
predicates, handles, masks and program counter, mask stack, status with the stack's depth, watchdog count, rpt,
identity. -/
def Group.image (g : Group) : List Byte :=
  let entry (e : MaskEntry) : List Byte :=
    leBytes 8 e.rpc.toNat ++ leBytes 4 e.saved.toNat ++ leBytes 4 e.pend.toNat ++ leBytes 8 e.ppc.toNat
  let stack := g.stack.flatMap entry
  (List.range 64).flatMap (fun n => leBytes 8 (g.s n).toNat) ++ (List.range 8).flatMap (fun n => leBytes 4 (g.p n).toNat) ++
    (List.range 16).flatMap (fun n => leBytes 16 (g.h n).toNat) ++ leBytes 4 g.launch.toNat ++ leBytes 4 g.active.toNat ++
    leBytes 8 g.pc.toNat ++ stack ++ zeros (768 - stack.length) ++ leBytes 1 g.fp.toNat ++ leBytes 1 g.stack.length ++
    leBytes 2 g.wdog ++ leBytes 2 g.rpt ++ leBytes 2 g.node.toNat ++ leBytes 4 g.gtag ++ zeros 4

/-- The vector registers of a group, lane by lane of each (04 R146). -/
def Group.file (g : Group) : List Byte :=
  (List.range (32 * g.rpt)).flatMap (fun k => leBytes 4 (SMap.get 0 g.vregs k).toNat)

/-- Numbers of n bytes each, read from bytes. -/
def numsIn (n : Nat) (d : List Byte) (count : Nat) : List Nat :=
  (List.range count).map (fun k => leNat ((d.drop (n * k)).take n))

/-- A register map of words that are not zero. -/
def mapOf (w : Nat) (xs : List Nat) : SMap (BitVec w) :=
  xs.zipIdx.filterMap (fun x => if BitVec.ofNat w x.1 == 0 then none else some (x.2, BitVec.ofNat w x.1))

/-- A group as its slot holds it; `g` gives what the slot has no place for. -/
def Group.load (g : Group) (d file : List Byte) : Group :=
  let at' (o n : Nat) : Nat := leNat ((d.drop o).take n)
  let entry (k : Nat) : MaskEntry :=
    let o := 816 + 24 * k
    ⟨BitVec.ofNat 64 (at' o 8), BitVec.ofNat 32 (at' (o + 8) 4), BitVec.ofNat 32 (at' (o + 12) 4),
      BitVec.ofNat 64 (at' (o + 16) 8)⟩
  let rpt := at' 1588 2
  { g with
    sregs := mapOf 64 (numsIn 8 d 64)
    preds := mapOf 32 (numsIn 4 (d.drop 512) 8)
    handles := mapOf 128 (numsIn 16 (d.drop 544) 16)
    launch := BitVec.ofNat 32 (at' 800 4)
    active := BitVec.ofNat 32 (at' 804 4)
    pc := BitVec.ofNat 64 (at' 808 8)
    stack := (List.range (at' 1585 1)).map entry
    fp := BitVec.ofNat 5 (at' 1584 1)
    wdog := at' 1586 2
    rpt := rpt
    node := BitVec.ofNat 16 (at' 1590 2)
    gtag := at' 1592 4
    vregs := mapOf 32 (numsIn 4 file (32 * rpt)) }

/-- The groups of a core written into a save slot: their registers one after another in slot order, and the rest at
their slots (11 R401). -/
def putGroups (ofs : Nat) : List (Nat × Group) → Nat → Memory → Memory
  | [], _, m => m
  | (j, g) :: gs, at', m =>
    putGroups ofs gs (at' + 128 * g.rpt)
      ((Memory.writeN m (ofs + 0x400000 + at') g.file).writeN (ofs + 0x444000 + 1600 * j) g.image)

/-- The groups of a core read back from a save slot. -/
def takeGroups (m : Memory) (ofs : Nat) : List (Nat × Group) → Nat → List (Nat × Group)
  | [], _ => []
  | (j, g) :: gs, at' =>
    let d := Memory.readN m (ofs + 0x444000 + 1600 * j) 1600
    let n := 128 * leNat ((d.drop 1588).take 2)
    (j, g.load d (Memory.readN m (ofs + 0x400000 + at') n)) :: takeGroups m ofs gs (at' + n)

/-- A save slot in memory: Local space of the partition's granules, the registers and the state of the groups, the
header entries, core state, of which the spec gives no layout, and zeros (11 R401). -/
def State.slotImage (s : State) (part core ofs : Nat) (x : SavedCore) : Memory :=
  let m := Memory.clear s.mem.hbm ofs 0x480000
  let cells := s.mem.loc.filter (fun c => c.1 / 2 ^ 22 == core && (s.localTag core (c.1 % 2 ^ 22 / 4096)).part == part)
  let m := cells.foldl (fun m c => m.write (ofs + c.1 % 2 ^ 22) c.2) m
  let tags := s.mem.tags.filter (fun t => t.1 / 1024 == core && t.2.part == part)
  let m := tags.foldl (fun m t =>
    m.writeN (ofs + 0x440000 + 16 * (t.1 % 1024)) (leBytes 8 t.2.word0.toNat ++ leBytes 8 t.2.word1.toNat)) m
  putBytes (putGroups ofs x.groups 0 m) ofs (Config.saveByte x) 0x45D000 0x3000

/-- The dirty lines of a core's L1 written back to their homes (11 R400 stage 3). -/
def State.flushCore (s : State) (core : Nat) : State :=
  ((s.l1Lines core).filter (fun l => s.l1State core l == some .m)).foldl (fun s l => s.flushLine l) s

/-- What of a context a core holds beside Local space. -/
def State.savedOn (s : State) (part ctx core : Nat) : SavedCore :=
  let c := s.core core
  { core := ((s.coresOf part).findIdx? (· == core)).getD 0
    groups := (s.coreGroups core).map (fun e => (e.1 % 64, e.2))
    tms := c.tm.filter (fun t => t.part == part && t.ctx == ctx)
    arrivals := c.arrivals
    gens := c.gens
    affinity := c.affinity }

/-- The save of a core (11 R401): the slot is written and the core is free. After the last core the
context is SAVED. -/
def State.saveCore (s : State) (part ctx core : Nat) : State :=
  let key := 16 * part + ctx
  let (n, ofs) := s.saveSlot part ctx core
  if s.saveFails part ofs then s.teardown ⟨0x030B, part, ctx, 0, core, 0, BitVec.ofNat 32 n⟩ false
  else
    let s := (s.flushCore core).dropRange ofs 0x480000
    let x := s.savedOn part ctx core
    let s := { s with mem := { s.mem with hbm := s.slotImage part core ofs x } }
    let c := s.core core
    let s := s.setCore core { c with tm := c.tm.filter (fun t => !(t.part == part && t.ctx == ctx)), arrivals := [] }
    let s := { s with co := { s.co with groups := SMap.keep (fun k _ => k / 64 != core) s.co.groups } }
    let y := s.ctx key
    let left := y.switching.filter (fun w => w.1 != core)
    let s := s.setCtx key { y with switching := left, saved := y.saved ++ [x], resident := y.resident.filter (· != core) }
    if left.isEmpty then s.setCtxState key 4 else s

/-- Whether the save region of a slot takes writes now: an access to a FILLING region stalls. -/
def State.saveReady (s : State) (part ctx core : Nat) : Bool :=
  !s.b F.llmRgnDesc_FILLING (regionOf (s.saveSlot part ctx core).2)

/-- SWITCH_SAVE_COMPLETE (11 R401). -/
def execSwitchSaveComplete (part ctx core : Nat) (s : State) : Host.Outcome State Fault Refusal :=
  command (.switchSaveComplete part ctx core)
    (s.stageOf (16 * part + ctx) core == some .saving && s.saveReady part ctx core)
    s (s.saveCore part ctx core)

/-- Local space of a core as a slot holds it, every granule with the partition's tag (11 R400 stage 4). -/
def State.loadLocal (s : State) (part core ofs : Nat) : State :=
  let old := SMap.keep (fun k _ => k / 2 ^ 22 != core) s.mem.loc
  let cells := s.mem.hbm.filter (fun c => ofs ≤ c.1 && c.1 < ofs + 0x400000)
  let loc := cells.foldl (fun m c => Memory.write m (core * 2 ^ 22 + (c.1 - ofs)) c.2) old
  let tags := (List.range 1024).foldl (fun ts g =>
    SMap.set LocalTag.reset ts (core * 1024 + g)
      ⟨BitVec.ofNat 64 (leNat (Memory.readN s.mem.hbm (ofs + 0x440000 + 16 * g) 8)),
       BitVec.ofNat 64 (leNat (Memory.readN s.mem.hbm (ofs + 0x440000 + 16 * g + 8) 8)), part⟩) s.mem.tags
  { s with mem := { s.mem with loc := loc, tags := tags } }

/-- A window opened before a switch runs on after it: beats switched out do not count (06 R207). -/
def State.reopen (s : State) (g : Group) : Group :=
  match g.wait with
  | .tile w w0 w1 => { g with wait := .tile { w with opened := w.opened.map (fun _ => s.tun.num.toNat) } w0 w1 }
  | _ => g

/-- The groups of a saved core put back, as its save slot holds them: identity, registers and masks are what was
saved, on this device or another (04 R138, R146). -/
def State.loadCore (s : State) (part ctx core : Nat) (x : SavedCore) : State :=
  let gs := takeGroups s.mem.hbm (s.saveSlot part ctx core).2 x.groups 0
  let s := gs.foldl (fun s g => s.seatGroup core g.1 (s.reopen { g.2 with part := part, ctx := ctx })) s
  let c := s.core core
  s.setCore core { c with tm := c.tm ++ x.tms, arrivals := x.arrivals, gens := x.gens, affinity := x.affinity }

/-- SWITCH_RESTORE_COMPLETE's effect (11 R400 stage 4). -/
def State.restoreCore (s : State) (part ctx core : Nat) : State :=
  let key := 16 * part + ctx
  let held := s.coresOf part
  let y := s.ctx key
  match y.saved.find? (fun z => held.getD z.core 256 == core) with
  | none => s
  | some x =>
    let s := (s.loadLocal part core (s.saveSlot part ctx core).2).loadCore part ctx core x
    s.setCtx key { y with switching := y.switching.filter (fun w => w.1 != core), saved := y.saved.erase x }

/-- SWITCH_RESTORE_COMPLETE (11 R400). -/
def execSwitchRestoreComplete (part ctx core : Nat) (s : State) : Host.Outcome State Fault Refusal :=
  command (.switchRestoreComplete part ctx core)
    (s.stageOf (16 * part + ctx) core == some .restoring && s.saveReady part ctx core)
    s (s.restoreCore part ctx core)

/-- A context whose every core has been restored issues from this boundary (11 R400 stage 5). -/
def State.resumeRestored (s : State) : State :=
  s.tun.ctxs.foldl (fun s e =>
    if s.f F.tunCtx_STATE e.1 == 3 && e.2.switching.isEmpty && e.2.saved.isEmpty then
      (s.setCtx e.1 { s.ctx e.1 with ran := 0 }).setCtxState e.1 2
    else s) s

/-! ### Victims (11 R398) -/

/-- PRIO of a context. -/
def State.prio (s : State) (key : Nat) : Nat := s.f F.tunCtx_PRIO key

/-- The RUNNING contexts of a partition that hold cores. -/
def State.holders (s : State) (part : Nat) : List Nat :=
  ((List.range 16).map (fun c => 16 * part + c)).filter (fun k =>
    s.f F.tunCtx_STATE k == 2 && !(s.ctx k).resident.isEmpty)

/-- The first of a list that no other beats; `better a b`: a comes before b. -/
def firstBest (better : Nat → Nat → Bool) : List Nat → Option Nat
  | [] => none
  | k :: ks => some (ks.foldl (fun b x => if better x b then x else b) k)

/-- The victim for a context that cannot place its next task: of the lower priorities the lowest, then
the longest run; else, for a context not running, an equal one that has run QUANTUM beats. None while a
victim of the partition is already being switched out (log entry 33). -/
def State.victimFor (s : State) (key : Nat) : Option Nat :=
  let part := key / 16
  let hs := (s.holders part).filter (· != key)
  let low := hs.filter (fun k => s.prio k < s.prio key)
  let ran (k : Nat) : Nat := (s.ctx k).ran
  let q := s.f F.partCfg_QUANTUM part
  let busy := (List.range 16).any (fun c => (s.ctx (16 * part + c)).switching.any (fun w => w.2 != .restoring))
  if busy then none
  else if !low.isEmpty then
    firstBest (fun a b => s.prio a < s.prio b || (s.prio a == s.prio b && ran b < ran a)) low
  else if q != 0 && s.f F.tunCtx_STATE key != 2 then
    firstBest (fun a b => ran b < ran a) (hs.filter (fun k => s.prio k == s.prio key && q ≤ ran k))
  else none

/-- Preemption for a context that finds no room. -/
def State.preempt (s : State) (key : Nat) : State :=
  match s.victimFor key with
  | some v => s.beginSwitch v
  | none => s

/-! ### Freeze, thaw, restore (11 R405 to R408, R411) -/

/-- The scratch ways of a partition, m. -/
def State.wayCount (s : State) (p : Nat) : Nat := (s.scratchWays p).length

/-- The save and Near image regions of a partition (11 R401, R405). -/
def State.imageRegions (s : State) (p : Nat) : List Nat :=
  let k := (s.coresOf p).length
  (List.range ((16 * k + 225) / 226)).map (fun i => s.f F.partSave_SAVE_RGN p + i) ++
    (List.range ((127 * s.wayCount p + 261119) / 261120)).map (fun i => s.f F.partSave_NEAR_RGN p + i)

/-- The contexts of a partition. -/
def ctxKeys (p : Nat) : List Nat := (List.range 16).map (fun c => 16 * p + c)

/-- The byte offset of the freeze record (11 R405). -/
def State.recordAt (s : State) (p : Nat) : Nat := s.f F.partSave_SAVE_RGN p * 2 ^ 30 + 0x3F900000

/-- The freeze record in memory does not match the partition (11 R407). -/
def State.recordBad (s : State) (p : Nat) : Bool :=
  let d := Memory.readN s.mem.hbm (s.recordAt p) 20
  let fieldAt (o n : Nat) : Nat := leNat ((d.drop o).take n)
  fieldAt 0 8 != 0x5A454552_46565A4E || fieldAt 8 4 != 1 || fieldAt 12 2 != (s.coresOf p).length ||
    fieldAt 14 2 != s.wayCount p || fieldAt 16 2 != s.f F.partSeq_COUNT p

/-- The freeze record is poisoned. -/
def State.recordPoisoned (s : State) (p : Nat) : Bool :=
  (List.range 64).any (fun i => s.poisoned (gLine (s.recordAt p) + i))

/-- REASON of a refused operation; 0 for none (11 R407, R411). -/
def State.opRefusal (s : State) (p op : Nat) : Nat :=
  let st := s.partState p
  let idle := (ctxKeys p).all (fun k => s.f F.tunCtx_STATE k == 0)
  let regions := (s.imageRegions p).all (s.saveRegion p)
  match op with
  | 0 => if st != 1 then 6 else if !regions then 4 else 0
  | 1 => if st != 3 then 6 else 0
  | 2 =>
    if st != 1 || !idle then 6 else if !regions then 4
    else if s.recordPoisoned p then 7 else if s.recordBad p then 5 else 0
  | _ => 8

/-- A write of TUN_PART_CMD (11 R405, R407, R411). -/
def State.writePartCmd (s : State) (p : Nat) (v : W32) : State :=
  if p == 0 then s
  else
    let t := s.code .partCmd p v
    if bitsOf v 2 1 == 0 then t
    else
      let op := bitsOf v 0 2
      let r := t.opRefusal p op
      if r != 0 then t.refusePart p r
      else
        let t := (t.setF F.partCmd_REASON p 0).ploro [p]
        match op with
        | 0 => { t with tun := { t.tun with freezing := SMap.put t.tun.freezing p 1 } }.setF F.partCmd_STATE p 2
        | 1 => { t with tun := { t.tun with freezing := SMap.put t.tun.freezing p 2 } }
        | _ => t.setF F.partCmd_STATE p 4

/-- A write that starts an operation. -/
def goesOp (op : Nat) (v : W32) : Bool := bitsOf v 2 1 == 1 && bitsOf v 0 2 == op

/-- FREEZE (11 R405). -/
def execPartFreeze (part : Nat) (v : W32) (s : State) : Host.Outcome State Fault Refusal :=
  command (.partFreeze part v) (goesOp 0 v) s (s.writePartCmd part v)

/-- THAW (11 R405). -/
def execPartThaw (part : Nat) (v : W32) (s : State) : Host.Outcome State Fault Refusal :=
  command (.partThaw part v) (goesOp 1 v) s (s.writePartCmd part v)

/-- RESTORE (11 R407). -/
def execPartRestore (part : Nat) (v : W32) (s : State) : Host.Outcome State Fault Refusal :=
  command (.partRestore part v) (goesOp 2 v) s (s.writePartCmd part v)

/-- At a boundary: RUNNING contexts of a freezing partition are switched out, and a thawed partition is
ACTIVE again (11 R405). -/
def State.freezeStep (s : State) : State :=
  s.tun.freezing.foldl (fun s e =>
    if e.2 == 2 then
      ({ s with tun := { s.tun with freezing := SMap.drop s.tun.freezing e.1 } }.setF F.partCmd_STATE e.1 1).ploro [e.1]
    else
      (ctxKeys e.1).foldl (fun s k =>
        if s.f F.tunCtx_STATE k == 2 then
          if (s.ctx k).resident.isEmpty then s.setCtxState k 4 else s.beginSwitch k
        else s) s) s

/-- The 16 bytes of a Near header entry, or the 128 of a payload line, copied to a Near image region. -/
def State.copyNear (s : State) (p a n : Nat) : State :=
  let d := ((s.curLine (nLine p (a / 128 * 128))).drop (a % 128)).take n
  let dst := (s.f F.partSave_NEAR_RGN p + a / 2 ^ 30) * 2 ^ 30 + a % 2 ^ 30
  { s with mem := { s.mem with hbm := Memory.writeN s.mem.hbm dst d } }

/-- One Near granule and its header entry copied. -/
def State.copyGranule (s : State) (p gg : Nat) : State :=
  let w := gg / 261120
  let g := gg % 261120
  let s := (List.range 32).foldl (fun s i => s.copyNear p (w * 2 ^ 30 + g * 4096 + 128 * i) 128) s
  s.copyNear p (w * 2 ^ 30 + 0x3FC00000 + 16 * g) 16

/-- The Near image written: zeros, then every backed granule (11 R405 step 3). -/
def State.saveNear (s : State) (p : Nat) : State :=
  let m := s.wayCount p
  let n := (127 * m + 261119) / 261120
  let s := (List.range n).foldl (fun s i =>
    let r := s.f F.partSave_NEAR_RGN p + i
    let s := s.dropRegion r false
    { s with mem := { s.mem with hbm := Memory.clear s.mem.hbm (r * 2 ^ 30) 0x3FFFC000 } }) s
  (List.range (127 * m)).foldl (fun s gg => s.copyGranule p gg) s

/-- The freeze record (11 R406). -/
def State.freezeRecord (s : State) (p : Nat) : List Byte :=
  let casks := ((s.words .rgnown).filter (fun w => bitsOf w.2 0 6 == p &&
    s.f F.llmRgnDesc_POLICY w.1 == 2)).map Prod.fst
  let cask (i : Nat) : Nat := casks.getD i 0xFFFF
  let head := leBytes 8 0x5A454552_46565A4E ++ leBytes 4 1 ++ leBytes 2 (s.coresOf p).length ++
    leBytes 2 (s.wayCount p) ++ leBytes 2 (s.f F.partSeq_COUNT p) ++ zeros 2 ++
    leBytes 4 (s.f F.beatCfg_LEN 0) ++ leBytes 8 s.beat ++ leBytes 2 (s.nodeId.getD 0xFFFF) ++ zeros 6
  let ctxs := (ctxKeys p).flatMap (fun k => leBytes 4 (s.rget .tunCtx k).toNat)
  let cs := (List.range 64).flatMap (fun i => leBytes 2 (cask i))
  let seqs := (s.slotsOf p).flatMap (fun j => leBytes 4 (s.rget .seqCtl j).toNat ++
    leBytes 4 (s.rget .seqPos j).toNat ++ leBytes 4 (s.rget .seqLimit j).toNat ++ zeros 4)
  let first := head ++ ctxs ++ cs
  first ++ zeros (4096 - first.length) ++ seqs ++ zeros (4096 - seqs.length)

/-- Steps 2 to 5 of a freeze (11 R405). -/
def State.endFreeze (s : State) (p : Nat) : State :=
  let mine (l : Nat) : Bool := match lineKind l with
    | .global ofs => s.f F.rgnown_OWNER (regionOf ofs) == p
    | .near q _ => q == p
    | .remote _ _ => false
  let s := (s.heldLines mine).foldl (fun s l => s.flushLine l) s
  let s := s.saveNear p
  let s := s.dropRange (s.recordAt p) 8192
  let s := { s with mem := { s.mem with hbm := Memory.writeN s.mem.hbm (s.recordAt p) (s.freezeRecord p) } }
  let s := { s with tun := { s.tun with freezing := SMap.drop s.tun.freezing p } }
  (s.setF F.partCmd_STATE p 3).ploro [p]

/-- Whether a freeze can complete: a boundary has passed and no context runs or switches. -/
def State.freezeReady (s : State) (p : Nat) : Bool :=
  s.partState p == 2 && (ctxKeys p).all (fun k => s.f F.tunCtx_STATE k != 2 && s.f F.tunCtx_STATE k != 3)

/-- FREEZE_COMPLETE (11 R405). -/
def execPartFreezeComplete (part : Nat) (s : State) : Host.Outcome State Fault Refusal :=
  command (.partFreezeComplete part) (s.freezeReady part) s (s.endFreeze part)

/-- One backed Near granule and its header entry taken from the Near image. -/
def State.loadGranule (s : State) (p gg : Nat) : State :=
  let w := gg / 261120
  let g := gg % 261120
  let base := (s.f F.partSave_NEAR_RGN p + w) * 2 ^ 30
  let s := (List.range 32).foldl (fun s i =>
    let o := g * 4096 + 128 * i
    s.writeMemLine (nLine p (w * 2 ^ 30 + o)) (s.curLine (gLine (base + o)))) s
  let o := 0x3FC00000 + 16 * g
  let l := nLine p (w * 2 ^ 30 + o / 128 * 128)
  let d := ((s.curLine (gLine (base + o))).drop (o % 128)).take 16
  s.writeMemLine l (patch (s.curLine l) (o % 128) d)

/-- A context of a restored partition: its word, and what its save slots hold when it was SAVED. -/
def State.loadCtx (s : State) (p c : Nat) : State :=
  let key := 16 * p + c
  let w := BitVec.ofNat 32 (leNat (Memory.readN s.mem.hbm (s.recordAt p + 40 + 4 * c) 4))
  let s := s.rset .tunCtx key w
  if bitsOf w 3 3 != 4 then s
  else
    let cores := s.coresOf p
    let image (core : Nat) : List Byte :=
      let ofs := (s.saveSlot p c core).2
      Memory.readN s.mem.hbm (ofs + 0x45D000) 0x3000
    let saved := cores.zipIdx.filterMap (fun x => (Config.restoreSlot (image x.1)).map (fun y => { y with core := x.2 }))
    s.setCtx key { s.ctx key with saved := saved }

/-- A sequence slot of a restored partition. -/
def State.loadSlot (s : State) (p i j : Nat) : State :=
  let at' := s.recordAt p + 4096 + 16 * i
  let w (o : Nat) : W32 := BitVec.ofNat 32 (leNat (Memory.readN s.mem.hbm (at' + o) 4))
  ((s.rset .seqCtl j (w 0)).rset .seqPos j (w 4)).rset .seqLimit j (w 8)

/-- The image loaded and the partition ACTIVE (11 R407). -/
def State.endRestorePart (s : State) (p : Nat) : State :=
  let s := s.loseNear p
  let s := (List.range (127 * s.wayCount p)).foldl (fun s gg => s.loadGranule p gg) s
  let s := (List.range 16).foldl (fun s c => s.loadCtx p c) s
  let s := (s.slotsOf p).zipIdx.foldl (fun s x => s.loadSlot p x.2 x.1) s
  (s.setF F.partCmd_STATE p 1).ploro [p]

/-- RESTORE_COMPLETE (11 R407). -/
def execPartRestoreComplete (part : Nat) (s : State) : Host.Outcome State Fault Refusal :=
  command (.partRestoreComplete part) (s.partState part == 4) s
    (s.endRestorePart part)

end Sys2Proof.Machine
end

