-- ==== Sys2Proof/Machine/Rings.lean ====
section
/-!
DEFINITION. Submission rings (12 R422 to R434): enabling and disabling, polling and fetching, the ring
commands, task completion and sequence slots (11 R399), the scheduling pass (11 R395 to R398), and the
failures of host requests (12 R414).
-/
namespace Sys2Proof.Machine

/-! ### The ring's state (12 R422, R434, R444) -/

/-- HEAD. -/
def State.head (s : State) (key : Nat) : Nat := (s.pair .ringHeadLo .ringHeadHi key).toNat

def State.setHead (s : State) (key n : Nat) : State := s.setPair .ringHeadLo .ringHeadHi key (BitVec.ofNat 64 n)

/-- The entries of a ring, 2^LOG2N. -/
def State.ringSize (s : State) (key : Nat) : Nat := 2 ^ s.f F.ringCtrl_LOG2N key

/-- RUNNING while fetched commands are incomplete, else IDLE; STOPPED and ERROR stay (log entry 30). -/
def State.settleRing (s : State) (key : Nat) : State :=
  if 2 ≤ s.f F.ringStatus_STATE key then s
  else s.setF F.ringStatus_STATE key (if (s.ring key).cmds.isEmpty then 0 else 1)

/-- A command that has ended leaves the ring. -/
def State.dropCmd (s : State) (key idx : Nat) : State :=
  let r := s.ring key
  (s.setRing key { r with cmds := r.cmds.filter (fun c => c.idx != idx), stalled := 0 }).settleRing key

/-- A command of a ring by its number. -/
def State.ringCmd (s : State) (key idx : Nat) : Option RingCmd := (s.ring key).cmds.find? (fun c => c.idx == idx)

/-- A command ends: its record is written, then it leaves the ring (12 R433). The error is a fault code,
0 for a stall. -/
def State.finishCmd (s : State) (key idx status : Nat) : Except Nat State :=
  match s.ringCmd key idx with
  | none => .ok s
  | some c =>
    match s.putRecord key c status with
    | .error e => .error e
    | .ok t => .ok (t.dropCmd key idx)

/-- A fault of a ring command (source 5). -/
def State.faultCmd (s : State) (key idx code : Nat) (info : W32) : State :=
  s.raiseRing key code 5 (s.entryAddr key idx) info false

/-- A command that has ended with a status and whose record is still to be written (12 R433). -/
def State.awaitRecord (s : State) (key idx status : Nat) : State :=
  let r := s.ring key
  s.setRing key { r with cmds := r.cmds.map (fun c =>
    if c.idx == idx then { c with started := true, ended := some status } else c) }

/-- A command ends: with its record, which waits while its write stalls; the context is torn down when it faults. -/
def State.endCmd (s : State) (key idx status : Nat) : State :=
  match s.finishCmd key idx status with
  | .ok t => t
  | .error 0 => s.awaitRecord key idx status
  | .error e => s.faultCmd key idx e 0

/-! ### Writes of TUN_RING_CTRL (12 R434, R444) -/

/-- The fields that a write must not set (12 R444). -/
def State.ringBad (s : State) (key : Nat) (v : W32) : Bool :=
  bitsOf v 3 5 < 6 || 16 < bitsOf v 3 5 || s.msixCount (s.instanceOf (key / 16)) ≤ bitsOf v 8 11

/-- ENABLE 0: the fetched commands that have not started end with 0x030D (12 R434). -/
def State.abandon (s : State) (key : Nat) : State :=
  let r := s.ring key
  let idle := (r.cmds.filter (fun c => !c.started)).map RingCmd.idx
  let x := s.ctx key
  let s := (s.setCtx key { x with tasks := x.tasks.filter (fun t => t.placed || !idle.contains t.n) }).settleCtx key
  let s := s.setRing key { r with fetched := s.head key }
  (idle.foldl (fun s n => s.endCmd key n 0x030D) s).settleRing key

/-- ENABLE 1: HEAD 0, the ring starts afresh (12 R422, R434). -/
def State.startRing (s : State) (key : Nat) : State :=
  let r := s.ring key
  let s := (s.setHead key 0).setRing key { r with base := r.base + 2 ^ 64, fetched := 0, stalled := 0 }
  let s := if s.f F.ringStatus_STATE key == 3 then s.setF F.ringStatus_STATE key 0 else s
  s.settleRing key

/-- A write of TUN_RING_CTRL. -/
def State.writeRing (s : State) (key : Nat) (v : W32) : State :=
  let on := s.b F.ringCtrl_ENABLE key
  let t := if !on && s.ringBad key v then
      (s.setF F.ringCtrl_ENABLE key (bitsOf v 0 1)).ignored .ringCtrl key
    else s.code .ringCtrl key v
  if bitsOf v 0 1 == 1 then (if on then t else t.startRing key)
  else if on then t.abandon key else t

/-- RING_ENABLE (12 R422). -/
def execRingEnable (part ctx : Nat) (v : W32) (s : State) : Host.Outcome State Fault Refusal :=
  command (.ringEnable part ctx v) (bitsOf v 0 1 == 1) s (s.writeRing (16 * part + ctx) v)

/-- RING_DISABLE (12 R434). -/
def execRingDisable (part ctx : Nat) (v : W32) (s : State) : Host.Outcome State Fault Refusal :=
  command (.ringDisable part ctx v) (bitsOf v 0 1 == 0) s (s.writeRing (16 * part + ctx) v)

/-! ### Polling and fetching (12 R424, R425) -/

/-- Whether a ring is polled (12 R424). -/
def State.polled (s : State) (key : Nat) : Bool :=
  s.b F.ringCtrl_ENABLE key && s.f F.ringStatus_STATE key < 2 && s.b F.tunCtx_ENABLE key &&
    s.f F.tunCtx_STATE key != 5 && s.partState (key / 16) == 1

/-- The number of the ring's oldest command that has not completed, among those since its enable. -/
def State.oldest (s : State) (key : Nat) : Nat :=
  let r := s.ring key
  match r.cmds.find? (fun c => r.base ≤ c.idx) with
  | some c => c.idx - r.base
  | none => s.head key

/-- How many entries are to be fetched now: at most 64, and none whose place an incomplete command still
holds (12 R425). -/
def State.toFetch (s : State) (key avail : Nat) : Nat :=
  min (min 64 avail) (s.oldest key + s.ringSize key - s.head key)

/-- The words of 64 bytes. -/
def entryWords (d : List Byte) : List W64 := (chunksOf 8 8 d).map (fun b => BitVec.ofNat 64 (leNat b))

/-- Fetches n entries from device memory (ESPACE 0). -/
def State.fetchDevice (s : State) (key : Nat) : Nat → State
  | 0 => s
  | n + 1 =>
    let h := s.head key
    let a := s.entryAddr key h
    match s.devRead (key / 16) a 64 with
    | .error 0 => s
    | .error e => s.raiseRing key e 5 a (a.truncate 32) false
    | .ok (d, s) =>
      let r := s.ring key
      let c : RingCmd := ⟨r.base + h, s.beat, entryWords d, false, none⟩
      ((s.setRing key { r with cmds := r.cmds ++ [c], fetched := h + 1 }).setHead key (h + 1)).fetchDevice key n

/-- The tail word read and entries fetched or asked for (12 R424, R425). -/
def State.pollRing (s : State) (key : Nat) : State :=
  if !s.polled key then s
  else
    let a := s.pair .ringTailLo .ringTailHi key
    match s.devRead (key / 16) a 8 with
    | .error 0 => s
    | .error e => s.raiseRing key e 5 0 (a.truncate 32) false
    | .ok (d, s) =>
      let avail := (BitVec.ofNat 64 (leNat d) - BitVec.ofNat 64 (s.head key)).toNat
      if s.ringSize key < avail then s.raiseRing key 0x030E 5 0 0 true
      else
        let n := s.toFetch key avail
        if !s.b F.ringCtrl_ESPACE key then (s.fetchDevice key n).settleRing key
        else if n == 0 || (s.ring key).fetched != s.head key then s
        else if !s.host.linkUp then s.raiseRing key 0x0207 5 0 0 false
        else if !s.hostReady then s
        else s.setRing key { s.ring key with fetched := s.head key + n }

/-- Whether a fetch from host memory runs. -/
def State.fetching (s : State) (key : Nat) : Bool := (s.ring key).fetched != s.head key

/-- The entries that a fetch from host memory brought; they are considered at the next boundary. -/
def State.takeEntries (s : State) (key : Nat) (entries : List (List W64)) : State :=
  let r := s.ring key
  let cs := entries.zipIdx.map (fun e => (⟨r.base + s.head key + e.2, s.beat + 1, e.1, false, none⟩ : RingCmd))
  ((s.setRing key { r with cmds := r.cmds ++ cs }).setHead key r.fetched).settleRing key

/-- COMMAND_FETCH_COMPLETE (12 R425). -/
def execCommandFetchComplete (part ctx : Nat) (entries : List (List W64)) (s : State) :
    Host.Outcome State Fault Refusal :=
  command (.commandFetchComplete part ctx entries)
    (s.fetching (16 * part + ctx) && s.polled (16 * part + ctx) && s.hostReady &&
      entries.length + s.head (16 * part + ctx) == (s.ring (16 * part + ctx)).fetched)
    s (s.takeEntries (16 * part + ctx) entries)

/-! ### Entries (12 R428 to R430, 13 R473) -/

/-- Words from j on are zero. -/
def RingCmd.zeroFrom (c : RingCmd) (j : Nat) : Bool := (List.range 8).all (fun i => i < j || c.w i == 0)

/-- Bits [hi:lo] of a word are zero. -/
def RingCmd.clear (c : RingCmd) (j lo hi : Nat) : Bool := fld (c.w j) lo (hi + 1 - lo) == 0

def RingCmd.hsrc (c : RingCmd) : Bool := bitOf (c.w 0) 11
def RingCmd.hdst (c : RingCmd) : Bool := bitOf (c.w 0) 12

/-- A word that is a multiple of n. -/
def RingCmd.aligned (c : RingCmd) (j n : Nat) : Bool := (c.w j).toNat % n == 0

/-- A side of a tile copy: a record run in host memory is 8 KiB-aligned and has no scale address. -/
def RingCmd.sideOk (c : RingCmd) (host : Bool) (addr stride scale : Nat) : Bool :=
  !host || (c.aligned addr 8192 && (fld (c.w 4) stride 16 % 4 == 0 || (c.w 3).toNat < 2) && c.w scale == 0)

/-- A well-formed COPY. -/
def RingCmd.copyOk (c : RingCmd) : Bool :=
  c.clear 4 2 15 && c.clear 4 48 63 && c.w 7 == 0 &&
    (if bitOf (c.w 4) 0 then
      c.aligned 1 8 && c.aligned 2 8 && c.aligned 3 8 && c.clear 4 16 47 && c.zeroFrom 5
     else c.sideOk c.hsrc 1 16 5 && c.sideOk c.hdst 2 32 6)

/-- A well-formed TASK. -/
def RingCmd.taskOk (c : RingCmd) : Bool :=
  c.aligned 1 8 && c.aligned 3 8 && c.zeroFrom 5 && c.clear 4 14 15 && c.clear 4 22 23 && c.clear 4 25 63 &&
    2 ≤ fld (c.w 4) 16 6 && fld (c.w 4) 16 6 ≤ 32

/-- Whether an entry is well formed (12 R428, R429; 13 R473). -/
def RingCmd.ok (c : RingCmd) : Bool :=
  c.clear 0 13 31 && (!c.irq || c.cpl) &&
    (match c.op with
     | 0x01 => !c.hsrc && !c.hdst && c.taskOk
     | 0x02 => c.copyOk
     | 0x03 => !c.hsrc && !c.hdst && c.aligned 1 8 && c.zeroFrom 3
     | 0x04 => !c.hsrc && c.aligned 1 8 && c.zeroFrom 3
     | 0x05 => !c.hsrc && !c.hdst && c.clear 1 32 63 && legalPhase (fld (c.w 1) 0 32) && c.zeroFrom 2
     | 0x0F => !c.hsrc && !c.hdst && c.zeroFrom 1
     | 0x10 => !c.hdst && c.clear 3 4 63 && c.zeroFrom 5
     | _ => false)

/-! ### Tasks (12 R431, R432; 11 R399) -/

/-- The active sequence slots of a context, ascending (11 R399). -/
def State.activeSlots (s : State) (part ctx : Nat) : List Nat :=
  (s.slotsOf part).filter (fun j => s.b F.seqCtl_ACTIVE j && s.f F.seqCtl_CONTEXT j == ctx)

/-- The words of a slot table. -/
def State.slotWords (s : State) (part : Nat) (a : W64) : Nat → Except Nat (List W64 × State)
  | 0 => .ok ([], s)
  | n + 1 =>
    match s.devRead part a 8 with
    | .error e => .error e
    | .ok (d, s) =>
      match s.slotWords part (a + 8) n with
      | .error e => .error e
      | .ok (ws, s) => .ok (BitVec.ofNat 64 (leNat d) :: ws, s)

/-- The task of a command for one instance. -/
def RingCmd.task (c : RingCmd) (inst : Nat) (slots : List W64) : Task :=
  { n := c.idx, inst := inst, entry := c.w 1, arg := c.w 2, k := fld (c.w 4) 0 8 + 1, g := fld (c.w 4) 8 6 + 1,
    rpt := 8 * fld (c.w 4) 16 6, slots := slots, placed := false, live := [], tags := [] }

/-- TASK: the command is handed to its context; with no active sequence slot it completes at once. -/
def State.beginTask (s : State) (key : Nat) (c : RingCmd) : Option State :=
  let part := key / 16
  match s.slotWords part (c.w 3) (if c.w 3 == 0 then 0 else fld (c.w 4) 0 8 + 1) with
  | .error 0 => none
  | .error e => some (s.faultCmd key c.idx e ((c.w 3).truncate 32))
  | .ok (ws, s) =>
    let insts := if bitOf (c.w 4) 24 then s.activeSlots part (key % 16) else [511]
    if insts.isEmpty then some (s.endCmd key c.idx 0)
    else
      let x := s.ctx key
      some ((s.setCtx key { x with tasks := x.tasks ++ insts.map (fun i => c.task i ws) }).settleCtx key)

/-- Whether an instance has ended with all it issued (12 R432). -/
def State.taskEnded (s : State) (part ctx : Nat) (t : Task) : Bool :=
  let mine (g : Group) : Bool := g.part == part && g.ctx == ctx && g.task == t.n && g.inst == t.inst
  t.placed && s.co.groups.all (fun e => !mine e.2) &&
    (s.ctx (16 * part + ctx)).saved.all (fun x => x.groups.all (fun g => !mine g.2) &&
      x.tms.all (fun m => !t.tags.contains m.gtag)) &&
    s.co.accesses.all (fun a => !t.tags.contains a.2.gtag) &&
    s.co.cores.all (fun c => c.2.mats.all (fun m => !t.tags.contains m.gtag) && c.2.tm.all (fun m => !t.tags.contains m.gtag))

/-- A completed instance advances its slot (11 R399). -/
def State.advanceSlot (s : State) (j : Nat) : State :=
  if 256 ≤ j then s
  else
    let pos := (s.rget .seqPos j).toNat + max 1 (s.f F.seqCtl_STEP j)
    let s := s.rset .seqPos j (BitVec.ofNat 32 pos)
    if (s.rget .seqLimit j).toNat ≤ pos then s.setF F.seqCtl_ACTIVE j 0 else s

/-- The ended instances of a command leave its context. -/
def State.endInstances (s : State) (part ctx n : Nat) : State :=
  let key := 16 * part + ctx
  let x := s.ctx key
  let done := x.tasks.filter (fun t => t.n == n && s.taskEnded part ctx t)
  let s := done.foldl (fun (s : State) (t : Task) => s.advanceSlot t.inst) s
  (s.setCtx key { x with tasks := x.tasks.filter (fun t => !done.contains t) }).settleCtx key

/-- The effect of TASK_COMPLETE: with the last instance the command ends. -/
def State.finishTask (s : State) (part ctx n : Nat) : State :=
  let key := 16 * part + ctx
  let s := s.endInstances part ctx n
  if (s.ctx key).tasks.any (fun t => t.n == n) then s else s.endCmd key n 0

/-- TASK_COMPLETE (12 R432). -/
def execTaskComplete (part ctx n : Nat) (s : State) : Host.Outcome State Fault Refusal :=
  command (.taskComplete part ctx n)
    ((s.ctx (16 * part + ctx)).tasks.any (fun t => t.n == n && s.taskEnded part ctx t)) s (s.finishTask part ctx n)

/-! ### The other commands (12 R429) -/

/-- Marks a command started and ends it at once. -/
def State.doneNow (s : State) (key : Nat) (c : RingCmd) : State := (s.markStarted key c.idx).endCmd key c.idx 0

/-- WAITMEM: the word has reached the value. -/
def State.waitmemMet (s : State) (key : Nat) (c : RingCmd) : Except Nat (Bool × State) :=
  match s.devRead (key / 16) (c.w 1) 8 with
  | .error e => .error e
  | .ok (d, s) => .ok ((c.w 2).toNat ≤ leNat d, s)

/-- A started WAITMEM tried again; none when nothing changes. -/
def State.retryWaitmem (s : State) (key : Nat) (c : RingCmd) : Option State :=
  match s.waitmemMet key c with
  | .error 0 => none
  | .error e => some (s.faultCmd key c.idx e ((c.w 1).truncate 32))
  | .ok (true, s) => some (s.endCmd key c.idx 0)
  | .ok (false, _) => none

/-- WAITMEM starts, and ends where the word has reached the value. -/
def State.beginWaitmem (s : State) (key : Nat) (c : RingCmd) : Option State :=
  let s := s.markStarted key c.idx
  some ((s.retryWaitmem key { c with started := true }).getD s)

/-- WRITE: to the host or this device it ends at once; to another node with its acknowledgement. -/
def State.beginWrite (s : State) (key : Nat) (c : RingCmd) : Option State :=
  let d := leBytes 8 (c.w 2).toNat
  let s1 := s.markStarted key c.idx
  if c.hdst then
    match s1.hostWrite (c.w 1) d false with
    | .error 0 => none
    | .error e => some (s1.faultCmd key c.idx e 0)
    | .ok t => some (t.endCmd key c.idx 0)
  else
    match s1.devWrite (key / 16) (key % 16) (c.w 1) d (.ringWrite key c.idx) with
    | .error 0 => none
    | .error e => some (s1.faultCmd key c.idx e ((c.w 1).truncate 32))
    | .ok t => some (if t.fab.reqs.length == s1.fab.reqs.length then t.endCmd key c.idx 0 else t)

/-- PHASE: the hint applies to the ring's context. -/
def State.beginPhase (s : State) (key : Nat) (c : RingCmd) : State :=
  (s.doneNow key c).addHint (key / 16) (key % 16) (fld (c.w 1) 0 32)

/-- The command of a copy engine or an AES engine. -/
def RingCmd.engine (c : RingCmd) (key : Nat) (host : List Byte) : EngineCmd :=
  { part := key / 16, ctx := key % 16, idx := c.idx, words := c.words, fmt := none, cursor := 0,
    stage := .next, wait := ⟨none, none⟩, resent := false, host := host, sealing := none }

/-- The lowest of n engines that runs and is free; its gating bit is `first` plus its number (log entry
31; 14 R491). -/
def State.freeEngine (s : State) (busy : SMap EngineCmd) (n first : Nat) : Option Nat :=
  (List.range n).find? (fun e => (SMap.find busy e).isNone && !s.unitOff 1 (first + e))

/-- Whether every one of n engines is gated (14 R492). -/
def State.noEngine (s : State) (n first : Nat) : Bool := (List.range n).all (fun e => s.unitOff 1 (first + e))

/-- COPY: the lowest free copy engine takes it; a Count of 0 ends at once. -/
def State.beginCopy (s : State) (key : Nat) (c : RingCmd) : Option State :=
  if c.w 3 == 0 then some (s.doneNow key c)
  else if s.noEngine 16 0 then some ((s.markStarted key c.idx).faultCmd key c.idx 0x0701 0)
  else
    (s.freeEngine s.tun.copies 16 0).map (fun e =>
      let s := s.markStarted key c.idx
      { s with tun := { s.tun with copies := SMap.put s.tun.copies e (c.engine key []) } })

/-- Sealed package load: the lowest free AES engine takes it, with the bytes that reach the Tun from
outside when the package lies in host memory or on another node. -/
def State.beginSealed (s : State) (key : Nat) (c : RingCmd) (host : List Byte) : Option State :=
  if s.noEngine 4 16 then some ((s.markStarted key c.idx).faultCmd key c.idx 0x0701 0)
  else if c.hsrc && !s.host.linkUp then some (s.faultCmd key c.idx 0x0207 0)
  else if c.hsrc && !s.hostReady then none
  else
    (s.freeEngine s.tun.aes 4 16).map (fun e =>
      let s := s.markStarted key c.idx
      { s with tun := { s.tun with aes := SMap.put s.tun.aes e (c.engine key host) } })

/-! ### Acting on a ring (12 R426) -/

/-- The next command of a ring that has not started. -/
def State.nextCmd (s : State) (key : Nat) : Option RingCmd := (s.ring key).cmds.find? (fun c => !c.started)

/-- Whether the next command may be considered: fetched in time, its WAIT met, and no TASK before it
waiting for placement (12 R425, R426). -/
def State.considered (s : State) (key : Nat) (c : RingCmd) : Bool :=
  let r := s.ring key
  s.polled key && c.beat ≤ s.beat && (s.ctx key).tasks.all (fun t => t.placed) &&
    (!c.waitFlag || (c.idx ≤ r.quiet && r.cmds.all (fun x => c.idx ≤ x.idx || x.idx < r.base)))

/-- The command processor acts on a command; none when it cannot start now. -/
def State.beginCmd (s : State) (key : Nat) (c : RingCmd) (host : List Byte) : Option State :=
  if !c.ok then some (s.faultCmd key c.idx 0x0410 0)
  else
    match c.op with
    | 0x01 => s.beginTask key c
    | 0x02 => s.beginCopy key c
    | 0x03 => s.beginWaitmem key c
    | 0x04 => s.beginWrite key c
    | 0x05 => some (s.beginPhase key c)
    | 0x10 => s.beginSealed key c host
    | _ => some (s.doneNow key c)

/-- Acts on the next command of a ring; none when it cannot start now. `host` feeds a sealed load whose
package lies outside the device: without it the load waits for its own row. -/
def State.ringAct (s : State) (key : Nat) (host : List Byte) : Option State :=
  match s.nextCmd key with
  | none => none
  | some c => if s.considered key c then s.beginCmd key c host else none

/-- Whether the next command is one of an operation; a malformed one counts for its OP. -/
def State.nextIs (s : State) (key op : Nat) : Bool :=
  match s.nextCmd key with
  | some c => c.op == op
  | none => false

/-- Whether the present moment can be that of the last boundary: the model knows of no tick since (11 R377, 12 R426,
log entry 117). -/
def State.atBoundary (s : State) : Bool := s.tun.tb == s.tun.latch

/-- One row's start of a ring command, in the cycle of a boundary (12 R426). -/
def State.ringRow (s : State) (key op : Nat) (host : List Byte) : Option State :=
  if s.atBoundary && s.nextIs key op then s.ringAct key host else none

/-- TASK (12 R429). -/
def execRingTask (part ctx : Nat) (s : State) : Host.Outcome State Fault Refusal :=
  command (.ringTask part ctx) (s.ringRow (16 * part + ctx) 0x01 []).isSome s
    ((s.ringRow (16 * part + ctx) 0x01 []).getD s)

/-- A started WAITMEM of a ring that ends now, or the start of the next command if it is one. -/
def State.waitmemRow (s : State) (key : Nat) : Option State :=
  let met := (s.ring key).cmds.findSome? (fun c =>
    if s.atBoundary && c.started && c.ended.isNone && c.op == 0x03 then s.retryWaitmem key c else none)
  met.orElse (fun _ => s.ringRow key 0x03 [])

/-- WAITMEM (12 R429). -/
def execRingWaitmem (part ctx : Nat) (s : State) : Host.Outcome State Fault Refusal :=
  command (.ringWaitmem part ctx) (s.waitmemRow (16 * part + ctx)).isSome s
    ((s.waitmemRow (16 * part + ctx)).getD s)

/-- WRITE (12 R429). -/
def execRingWrite (part ctx : Nat) (s : State) : Host.Outcome State Fault Refusal :=
  command (.ringWrite part ctx) (s.ringRow (16 * part + ctx) 0x04 []).isSome s
    ((s.ringRow (16 * part + ctx) 0x04 []).getD s)

/-- PHASE (12 R429). -/
def execRingPhase (part ctx : Nat) (s : State) : Host.Outcome State Fault Refusal :=
  command (.ringPhase part ctx) (s.ringRow (16 * part + ctx) 0x05 []).isSome s
    ((s.ringRow (16 * part + ctx) 0x05 []).getD s)

/-- NOP (12 R429). -/
def execRingNop (part ctx : Nat) (s : State) : Host.Outcome State Fault Refusal :=
  command (.ringNop part ctx) (s.ringRow (16 * part + ctx) 0x0F []).isSome s
    ((s.ringRow (16 * part + ctx) 0x0F []).getD s)

/-- COPY (12 R430). -/
def execRingCopy (part ctx : Nat) (s : State) : Host.Outcome State Fault Refusal :=
  command (.ringCopy part ctx) (s.ringRow (16 * part + ctx) 0x02 []).isSome s
    ((s.ringRow (16 * part + ctx) 0x02 []).getD s)

/-- SEALED_PACKAGE_LOAD (13 R473). -/
def execSealedPackageLoad (part ctx : Nat) (host : List Byte) (s : State) : Host.Outcome State Fault Refusal :=
  command (.sealedPackageLoad part ctx host) (s.ringRow (16 * part + ctx) 0x10 host).isSome
    s ((s.ringRow (16 * part + ctx) 0x10 host).getD s)

/-! ### Step 4 of a boundary -/

/-- Records still to be written, and started WAITMEMs of a ring tried (12 R429): also of a ring with ENABLE 0 (12
R434). -/
def State.retryRing (s : State) (key : Nat) : State :=
  (s.ring key).cmds.foldl (fun s c =>
    if c.ended.isSome then s.endCmd key c.idx (c.ended.getD 0)
    else if c.started && c.op == 0x03 && s.f F.tunCtx_STATE key != 5 && s.partState (key / 16) == 1 then
      (s.retryWaitmem key c).getD s
    else s) s

/-- Whether a boundary may act on a ring's next command: a load whose package comes from outside has a
row of its own. -/
def State.boundaryActs (s : State) (key : Nat) : Bool :=
  match s.nextCmd key with
  | some c => !(c.op == 0x10 && c.ok && (c.hsrc || !s.ownNode (gaNode (c.w 1))))
  | none => false

/-- The commands of a ring that can start now, at most `fuel`. -/
def State.actRing : Nat → Nat → State → State
  | 0, _, s => s
  | fuel + 1, key, s =>
    if s.boundaryActs key then
      match s.ringAct key [] with
      | some t => State.actRing fuel key t
      | none => s
    else s

/-- Whether the oldest command of a ring makes progress (12 R427). -/
def State.progress (s : State) (key : Nat) (c : RingCmd) : Bool :=
  s.co.groups.any (fun e => e.1 < 256 * 64 && 16 * e.2.part + e.2.ctx == key && e.2.task == c.idx) ||
    s.tun.copies.any (fun e => 16 * e.2.part + e.2.ctx == key && e.2.idx == c.idx) ||
    s.tun.aes.any (fun e => 16 * e.2.part + e.2.ctx == key && e.2.idx == c.idx)

/-- The stall count advanced: not while its context is switched out or its ring not served (15 R516). -/
def State.countStall (s : State) (key : Nat) : State :=
  let r := s.ring key
  match r.cmds.head? with
  | none => s
  | some c =>
    if s.f F.tunCtx_STATE key == 3 || s.f F.tunCtx_STATE key == 4 || !s.polled key then s
    else s.setRing key { r with stalled := if s.progress key c then 0 else r.stalled + 1 }

/-- The rings the device keeps track of: enabled ones, and disabled ones with commands. -/
def State.ringKeys (s : State) : List Nat :=
  (List.range 1024).filter (fun k => s.b F.ringCtrl_ENABLE k || !(s.ring k).cmds.isEmpty)

/-- Marks what was complete at this boundary. -/
def State.markQuiet (s : State) (key : Nat) : State :=
  let r := s.ring key
  let first := ((r.cmds.find? (fun c => r.base ≤ c.idx)).map RingCmd.idx).getD (r.base + s.head key)
  if r.cmds.isEmpty && r.quiet == first then s else s.setRing key { r with quiet := first }

/-- Step 4: tails read, commands fetched and acted on. -/
def State.pollAll (s : State) : State :=
  s.ringKeys.foldl (fun s k =>
    let s := ((s.countStall k).retryRing k).markQuiet k
    let s := s.pollRing k
    State.actRing ((s.ring k).cmds.length + 1) k s) s

/-- RING_STALL_TIMEOUT (12 R427; 14 R496). -/
def execRingStallTimeout (part ctx : Nat) (s : State) : Host.Outcome State Fault Refusal :=
  command (.ringStallTimeout part ctx)
    (!(s.ring (16 * part + ctx)).cmds.isEmpty && !s.b F.clkStatus_SAFE 0 &&
      2 ^ (s.f F.ringCtrl_STALL (16 * part + ctx) + 8) ≤ (s.ring (16 * part + ctx)).stalled)
    s
    (s.raiseRing (16 * part + ctx) 0x030C 5
      (s.entryAddr (16 * part + ctx) (((s.ring (16 * part + ctx)).cmds.head?.map RingCmd.idx).getD 0)) 0 true)

/-! ### The scheduling pass: step 5 (11 R395 to R398) -/

/-- The first task of a context that is not placed. -/
def CtxSt.unplaced (x : CtxSt) : Option Task := x.tasks.find? (fun t => !t.placed)

/-- Whether the pass serves a context. -/
def State.wantsPass (s : State) (key : Nat) : Bool :=
  s.b F.tunCtx_ENABLE key &&
    (s.f F.tunCtx_STATE key == 4 ||
      ((s.f F.tunCtx_STATE key == 1 || s.f F.tunCtx_STATE key == 2) && (s.ctx key).unplaced.isSome))

/-- A context served last at its priority (log entry 7). -/
def State.noteServed (s : State) (key : Nat) : State :=
  { s with tun := { s.tun with served := SMap.put s.tun.served (key / 16 * 4 + s.prio key) (key % 16) } }

/-- The tasks of a context placed while there is room; then a victim is sought. -/
def State.placeAll : Nat → Nat → State → State
  | 0, _, s => s
  | fuel + 1, key, s =>
    match (s.ctx key).unplaced with
    | none => s
    | some t =>
      if s.neverPlaced (key / 16) t then s.faultNever key t
      else
        match s.placement (key / 16) (key % 16) t with
        | some cores => State.placeAll fuel key ((s.placeTask (key / 16) (key % 16) t cores).noteServed key)
        | none => s.preempt key

/-- The pass serves one context. -/
def State.serveCtx (s : State) (key : Nat) : State :=
  if !s.wantsPass key then s
  else if s.f F.tunCtx_STATE key == 4 then
    if s.canRestore key then (s.beginRestore key).noteServed key else s.preempt key
  else State.placeAll (s.ctx key).tasks.length key s

/-- The contexts of one priority of a partition, in round-robin order after the one served last. -/
def State.roundRobin (s : State) (part prio : Nat) : List Nat :=
  let last := SMap.get 15 s.tun.served (part * 4 + prio)
  ((List.range 16).map (fun i => 16 * part + (last + 1 + i) % 16)).filter (fun k => s.prio k == prio)

/-- The pass over one partition. -/
def State.passPart (s : State) (part : Nat) : State :=
  ([3, 2, 1, 0] : List Nat).foldl (fun s q => (s.roundRobin part q).foldl (fun s k => s.serveCtx k) s) s

/-- The pass over every partition that is ACTIVE. -/
def State.pass (s : State) : State :=
  ((List.range 64).filter (fun p => p != 0 && s.partState p == 1)).foldl (fun s p => s.passPart p) s

/-- Steps 4 and 5 together: after a placement the commands behind the task start in the same boundary
(12 R426). -/
def State.schedule : Nat → State → State
  | 0, s => s
  | fuel + 1, s =>
    let before := s.tun.rings
    let t := s.pass
    let t := t.ringKeys.foldl (fun s k => State.actRing ((s.ring k).cmds.length + 1) k s) t
    if t.tun.rings == before then t else State.schedule fuel t

/-- The fetched commands that have not started. -/
def State.unstarted (s : State) : Nat :=
  s.tun.rings.foldl (fun n e => n + (e.2.cmds.filter (fun c => !c.started)).length) 0

/-! ### Failures of host requests (12 R414) -/

/-- Whether a command uses host memory. -/
def RingCmd.usesHost (c : RingCmd) : Bool :=
  (c.hsrc && (c.op == 0x02 || c.op == 0x10)) || (c.hdst && (c.op == 0x02 || c.op == 0x04))

/-- Whether a context has a request to host memory outstanding or waiting for a Secure stream. -/
def State.hostOpen (s : State) (key : Nat) : Bool :=
  s.fetching key ||
    (s.ring key).cmds.any (fun c => c.usesHost && (c.started || s.considered key c)) ||
    (s.b F.ringCtrl_CSPACE key && !s.hostReady && (s.ring key).cmds.any (fun c => c.cpl))

/-- A context's host request has failed. -/
def State.failHost (s : State) (key : Nat) : State :=
  match (s.ring key).cmds.find? (fun c => c.usesHost && (c.started || s.considered key c)) with
  | some c =>
    let s := { s with tun := { s.tun with
      copies := SMap.keep (fun _ e => !(16 * e.part + e.ctx == key && e.idx == c.idx)) s.tun.copies
      aes := SMap.keep (fun _ e => !(16 * e.part + e.ctx == key && e.idx == c.idx)) s.tun.aes } }
    s.raiseRing key 0x0207 (if c.op == 0x02 then 2 else 5) (s.entryAddr key c.idx) 0 false
  | none => (s.setRing key { s.ring key with fetched := s.head key }).raiseRing key 0x0207 5 0 0 false

/-- HOST_REQUEST_FAILURE (12 R414). -/
def execHostRequestFailure (part ctx : Nat) (s : State) : Host.Outcome State Fault Refusal :=
  command (.hostRequestFailure part ctx) (s.hostOpen (16 * part + ctx))
    s (s.failHost (16 * part + ctx))

end Sys2Proof.Machine
end

