-- ==== Sys2Proof/Machine/Engines.lean ====
section
/-!
DEFINITION. The Tun copy engines (12 R430): learning a run's format, copying tile by tile or piece by
piece between device memory, other nodes and host memory, and the command's completion.
-/
namespace Sys2Proof.Machine

/-! ### The fields of a copy -/

def EngineCmd.w (c : EngineCmd) (j : Nat) : W64 := c.words.getD j 0
def EngineCmd.key (c : EngineCmd) : Nat := 16 * c.part + c.ctx
def EngineCmd.hsrc (c : EngineCmd) : Bool := bitOf (c.w 0) 11
def EngineCmd.hdst (c : EngineCmd) : Bool := bitOf (c.w 0) 12
def EngineCmd.isBytes (c : EngineCmd) : Bool := bitOf (c.w 4) 0
/-- RO: relaxed ordering on writes to host memory (12 R430). -/
def EngineCmd.relaxed (c : EngineCmd) : Bool := bitOf (c.w 4) 1
def EngineCmd.total (c : EngineCmd) : Nat := (c.w 3).toNat
def EngineCmd.tf (c : EngineCmd) : Nat := (c.fmt.getD (0, 0)).1
def EngineCmd.role (c : EngineCmd) : Nat := (c.fmt.getD (0, 0)).2

/-- The address of tile n of a run. -/
def EngineCmd.at' (c : EngineCmd) (dst : Bool) (n : Nat) : W64 :=
  c.w (if dst then 2 else 1) + BitVec.ofNat 64 (n * fld (c.w 4) (if dst then 32 else 16) 16 * 2048)

/-- The scale-lane address of tile n. -/
def EngineCmd.scaleAt (c : EngineCmd) (dst : Bool) (n : Nat) : W64 :=
  c.w (if dst then 6 else 5) + BitVec.ofNat 64 (256 * n)

/-- Tile n of a device-side run. -/
def EngineCmd.tile (c : EngineCmd) (dst : Bool) (tf n : Nat) : TLoc :=
  ⟨2, tf, c.at' dst n, if tileIsMx tf then ((c.scaleAt dst n).toNat % 2 ^ 30 : Nat) else 0⟩

/-- A tile of a device-side run that breaks placement, its scale lane in its own region (03 R83, R84). -/
def EngineCmd.badTile (c : EngineCmd) (dst : Bool) (tf n : Nat) : Bool :=
  !(c.tile dst tf n).placed ||
    (tileIsMx tf && (c.at' dst n).toNat / 2 ^ 30 != (c.scaleAt dst n).toNat / 2 ^ 30)

/-- Whether some of n numbers from i up satisfies a test. -/
def anyFrom (p : Nat → Bool) : Nat → Nat → Bool
  | 0, _ => false
  | n + 1, i => p i || anyFrom p n (i + 1)

/-- Whether the tiles of both runs are not all placed (12 R430). -/
def EngineCmd.misplaced (c : EngineCmd) (tf : Nat) : Bool :=
  anyFrom (fun n => (!c.hsrc && c.badTile false tf n) || (!c.hdst && c.badTile true tf n)) c.total 0

/-! ### The engine -/

def State.setEngine (s : State) (e : Nat) (c : EngineCmd) : State :=
  { s with tun := { s.tun with copies := SMap.put s.tun.copies e c } }

def State.freeCopy (s : State) (e : Nat) : State :=
  { s with tun := { s.tun with copies := SMap.drop s.tun.copies e } }

/-- A fault of a copy engine (source 2): the engine is free again. -/
def State.engineFault (s : State) (e : Nat) (c : EngineCmd) (code : Nat) (info : W32) : State :=
  (s.freeCopy e).raiseRing c.key code 2 (s.entryAddr c.key c.idx) info false

/-- What one step of an engine comes to: it went on, it waits, or its command is over. -/
inductive Ran where
  | go (s : State)
  | stop (s : State)
  | finished (s : State)

/-- The engine's tile has been written: the next one. -/
def EngineCmd.advance (c : EngineCmd) (n : Nat) : EngineCmd :=
  { c with cursor := c.cursor + n, stage := .next, wait := TileWait.fresh, resent := false }

/-- A request of an engine to another node; 0x0604 when the node is unreachable. -/
def State.engineSend (s : State) (e : Nat) (c : EngineCmd) (st : EngineStage) (node : Nat) (m : Msg) (line : Nat) :
    Ran :=
  match s.request (.engine e c.idx) c.part c.ctx node m line with
  | some t => .stop (t.setEngine e { c with stage := st })
  | none => .finished (s.engineFault e c 0x0604 (routeInfo node m.type.toNat))

/-- The run's format from its first header (12 R430). -/
def State.learn (s : State) (e : Nat) (c : EngineCmd) (w0 : W64) : Ran :=
  if !hdrValid w0 then .finished (s.engineFault e c 0x0104 0)
  else
    let tf := hdrFormat w0
    if !tileIsMx tf && (c.w 5 != 0 || c.w 6 != 0) then .finished (s.engineFault e c 0x0410 0)
    else if c.misplaced tf then .finished (s.engineFault e c 0x0106 ((c.at' true 0).truncate 32))
    else .go (s.setEngine e { c with fmt := some (tf, hdrRole w0), stage := .next })

/-- Record n of the host run. -/
def hostRecord (host : List Byte) (n : Nat) : List Byte := (host.drop (8192 * n)).take 8192

/-- A tile record taken apart: word 0, word 1, payload, scale lane (12 R430). -/
def recordTile (tf : Nat) (d : List Byte) : Seen :=
  let p := tilePayload tf
  ⟨BitVec.ofNat 64 (leNat (d.take 8)), BitVec.ofNat 64 (leNat ((d.drop 8).take 8)), (d.drop 16).take p,
    if tileIsMx tf then (d.drop (16 + p)).take 256 else []⟩

/-- A tile record (12 R430). -/
def tileRecord (w0 : W64) (p sc : List Byte) : List Byte :=
  leBytes 8 w0.toNat ++ leBytes 8 (tileChecksum ⟨w0, p, sc⟩).toNat ++ p ++ sc

/-- Header word 0 with BUSY and POISON zero. -/
def cleanHeader (w0 : W64) : W64 := w0 &&& ~~~(3 : W64)

/-- The header entry of the tile at a Global address: at the member that a span window places the tile on (03 R82, 10
R355). -/
def State.headAt (s : State) (a : W64) : W64 :=
  let node := gaNode a
  if s.ownNode node || s.nodeId.isNone then (⟨2, 1, a, 0⟩ : TLoc).hdrAddr
  else
    let (n, o) := s.memberOf node (gaOfs a)
    (⟨2, 1, mkGa (gaClass a) n o, 0⟩ : TLoc).hdrAddr

/-- The first header of the run. -/
def State.learnStep (s : State) (e : Nat) (c : EngineCmd) (host : List Byte) : Ran :=
  if c.hsrc then s.learn e c (BitVec.ofNat 64 (leNat (host.take 8)))
  else
    let l : TLoc := ⟨2, 1, c.w 1, 0⟩
    if regionPayloadEnd ≤ l.ofs then .finished (s.engineFault e c 0x0106 (l.addr.truncate 32))
    else
      let h := s.headAt (c.w 1)
      match s.translate c.part h .copySource with
      | .stall => .stop s
      | .fault x => .finished (s.engineFault e c x (l.addr.truncate 32))
      | .at (.regs _ _) => .finished (s.engineFault e c 0x0213 (l.addr.truncate 32))
      | .at (.remote cls n o) => s.engineSend e c .asked n (rdMsg cls n o) (rLine n o)
      | .at (.own _ ofs) =>
        match s.naRead (gLine ofs) with
        | .error x => .finished (s.engineFault e c x (l.addr.truncate 32))
        | .ok (d, s) => s.learn e c (BitVec.ofNat 64 (leNat ((d.drop (ofs % 128)).take 8)))

/-- A host source record judged; a mismatch is fetched once more, and only a refetch at the same GEN confirms it
(12 R430, 03 R99); a second mismatch is the fault. A POISON record is counted (03 R103). -/
def State.takeRecord (s : State) (e : Nat) (c : EngineCmd) (host again : List Byte) : Ran :=
  let look (d : List Byte) : Judged := judge (recordTile c.tf d) c.tf c.role false
  let take (s : State) (img : TileImage) : Ran :=
    .go (s.setEngine e { c with stage := .held img.word0 img.payload img.scale, wait := TileWait.fresh })
  let bad (s : State) : Judged → Ran
    | .good img => take s img
    | .fault x => .finished ((if x == 0x0103 then s.rasCount 4 else s).engineFault e c x 0)
    | _ => .finished (s.engineFault e c 0x0104 0)
  match look (hostRecord host c.cursor) with
  | .mismatch g =>
    match look (hostRecord again c.cursor) with
    | .good img => take (if hdrGen img.word0 == g then (s.rasCount 0).rasCount 1 else s) img
    | .mismatch h =>
      .finished ((((if h == g then s.rasCount 0 else s).rasCount 0).rasCount 2).engineFault e c 0x0101 0)
    | j => bad s j
  | j => bad s j

/-- The next source tile read. -/
def State.engineRead (s : State) (e : Nat) (c : EngineCmd) (host again : List Byte) : Ran :=
  if c.hsrc then s.takeRecord e c host again
  else
    let l := c.tile false c.tf c.cursor
    match s.siteOf c.part l .copySource with
    | .error 0 => .stop s
    | .error x => .finished (s.engineFault e c x (l.addr.truncate 32))
    | .ok (.away cls n o so) =>
      s.engineSend e c .asked n (trdMsg c.tf cls n o so (mkHeader false c.role c.tf 0 0 0 0 0)) (rLine n o)
    | .ok (.here l) =>
      match s.readTile 0 c.part l c.tf c.role false .copySource with
      | (.stall, s) => .stop s
      | (.wait, s) => .stop (s.setEngine e { c with wait := s.openWait c.wait })
      | (.fault x, s) => .finished (s.engineFault e c x (l.addr.truncate 32))
      | (.caskPoison, s) => .stop ((s.caskEvent (s.physical c.part l.addr)).setEngine e { c with stage := .cask 0 })
      | (.good img, s) =>
        .go (s.setEngine e { c with stage := .held img.word0 img.payload img.scale, wait := TileWait.fresh })

/-- The destination tile begun, written to the host, or sent to its node. -/
def State.engineWrite (s : State) (e : Nat) (c : EngineCmd) (w0 : W64) (p sc : List Byte) : Ran :=
  if c.hdst then
    match s.hostWrite (c.at' true c.cursor) (tileRecord (cleanHeader w0) p sc) c.relaxed with
    | .error 0 => .stop s
    | .error x => .finished (s.engineFault e c x 0)
    | .ok s => .go (s.setEngine e (c.advance 1))
  else
    let p := (TileImage.trim ⟨w0, p, sc⟩).payload
    let sc := (TileImage.trim ⟨w0, p, sc⟩).scale
    let l := c.tile true c.tf c.cursor
    match s.siteOf c.part l .copyDestination with
    | .error 0 => .stop s
    | .error x => .finished (s.engineFault e c x (l.addr.truncate 32))
    | .ok (.away cls n o so) =>
      let s := (awayLines c.tf n o so).all.foldl (fun s l => s.dropRemote l) s
      s.engineSend e c .sent n
        (twrMsg cls n o so (mkHeader false c.role c.tf (hdrVrows w0) (hdrVcols w0) 0 0 0) p sc) (rLine n o)
    | .ok (.here l) =>
      match s.beginTile 0 c.part l c.role (hdrVrows w0) (hdrVcols w0) e 2 .copyDestination with
      | .error 0 => .stop s
      | .error x => .finished (s.engineFault e c x (l.addr.truncate 32))
      | .ok (none, _) => .stop (s.setEngine e { c with wait := s.openWait c.wait })
      | .ok (some w, s) => .go (s.setEngine e { c with stage := .begun w p sc, wait := TileWait.fresh })

/-- The destination tile at the cursor where it lies on this device. -/
def State.engineTarget (s : State) (c : EngineCmd) : TLoc :=
  match s.siteOf c.part (c.tile true c.tf c.cursor) .copyDestination with
  | .ok (.here l) => l
  | _ => c.tile true c.tf c.cursor

/-- Steps 2 to 4 of the destination tile. -/
def State.engineFinish (s : State) (e : Nat) (c : EngineCmd) (w : W64) (p sc : List Byte) : Ran :=
  let l := s.engineTarget c
  match s.finishTile 0 c.part l w p sc .copyDestination with
  | .error 0 => .stop s
  | .error x => .finished (s.engineFault e c x (l.addr.truncate 32))
  | .ok s => .go (s.setEngine e (c.advance 1))

/-- One step of a tile copy. -/
def State.tileStep (s : State) (e : Nat) (c : EngineCmd) (host again : List Byte) : Ran :=
  match c.stage with
  | .next => if c.fmt.isNone then s.learnStep e c host else s.engineRead e c host again
  | .held w0 p sc => s.engineWrite e c w0 p sc
  | .begun w p sc => s.engineFinish e c w p sc
  | _ => .stop s

/-! ### BYTES (12 R430) -/

/-- The next piece: within one line on each device side. -/
def EngineCmd.piece (c : EngineCmd) : Nat :=
  let room (host : Bool) (a : W64) : Nat := if host then 128 else 128 - (a.toNat + c.cursor) % 128
  min (c.total - c.cursor) (min (room c.hsrc (c.w 1)) (room c.hdst (c.w 2)))

/-- One step of a byte copy. -/
def State.byteStep (s : State) (e : Nat) (c : EngineCmd) (host : List Byte) : Ran :=
  let n := c.piece
  match c.stage with
  | .next =>
    let a := c.w 1 + BitVec.ofNat 64 c.cursor
    if c.hsrc then .go (s.setEngine e { c with stage := .held 0 ((host.drop c.cursor).take n) [] })
    else
      match s.translate c.part a .copySource with
      | .stall => .stop s
      | .fault x => .finished (s.engineFault e c x (a.truncate 32))
      | .at (.regs _ _) => .finished (s.engineFault e c 0x0213 (a.truncate 32))
      | .at (.remote cls nd o) => s.engineSend e c .asked nd (rdMsg cls nd o) (rLine nd o)
      | .at (.own _ ofs) =>
        match (s.noteXlat c.part a).naRead (gLine ofs) with
        | .error x => .finished ((s.countPoison (gLine ofs)).engineFault e c x (a.truncate 32))
        | .ok (d, s) => .go (s.setEngine e { c with stage := .held 0 ((d.drop (ofs % 128)).take n) [] })
  | .held _ d _ =>
    let a := c.w 2 + BitVec.ofNat 64 c.cursor
    if c.hdst then
      match s.hostWrite a d c.relaxed with
      | .error 0 => .stop s
      | .error x => .finished (s.engineFault e c x 0)
      | .ok s => .go (s.setEngine e (c.advance n))
    else
      match s.translate c.part a .copyDestination with
      | .stall => .stop s
      | .fault x => .finished (s.engineFault e c x (a.truncate 32))
      | .at (.regs _ _) => .finished (s.engineFault e c 0x0213 (a.truncate 32))
      | .at (.remote cls nd o) =>
        (s.dropRemote (rLine nd o)).engineSend e c .sent nd (wrMsg cls nd o d) (rLine nd o)
      | .at (.own _ ofs) =>
        match (s.noteXlat c.part a).naWrite (gLine ofs) (ofs % 128) d with
        | .error x => .finished ((s.countPoison (gLine ofs)).engineFault e c x (a.truncate 32))
        | .ok s => .go (s.setEngine e (c.advance n))
  | _ => .stop s

/-! ### Completion -/

/-- The destination tile of a copy engine that could not read its source (10 R354): GEN advanced with POISON set,
under the test-and-set; the engine stays while BUSY is set. -/
def State.condemnEngine (s : State) (e : Nat) (c : EngineCmd) : State :=
  if c.hdst then s.freeCopy e
  else
    let l := s.engineTarget c
    match s.beginTile 0xFFFF c.part l c.role 0 0 e 2 .copyDestination with
    | .error _ => s.freeCopy e
    | .ok (none, _) => s.setEngine e { c with stage := .condemned, wait := s.openWait c.wait }
    | .ok (some w, s) =>
      match s.lineOf c.part 2 l.hdrAddr .copyDestination with
      | .ok (h, s) =>
        match s.naWrite h (l.hdrAddr.toNat % 128) (leBytes 8 ((w &&& ~~~(1 : W64)) ||| 2).toNat) with
        | .ok s => s.freeCopy e
        | .error _ => s.freeCopy e
      | .error _ => s.freeCopy e

/-- One step of an engine. An engine whose context is gone finishes the tile it has begun and is free
(11 R403). -/
def State.engineStep (s : State) (e : Nat) (c : EngineCmd) (host again : List Byte) : Ran :=
  if s.f F.tunCtx_STATE c.key == 5 then
    match c.stage with
    | .begun w p sc =>
      match s.finishTile 0 c.part (s.engineTarget c) w p sc .copyDestination with
      | .ok s => .finished (s.freeCopy e)
      | .error 0 => .stop s
      | .error _ => .finished (s.freeCopy e)
    | .condemned =>
      let t := s.condemnEngine e c
      if (SMap.find t.tun.copies e).isSome then .stop t else .finished t
    | _ => .finished (s.freeCopy e)
  else if c.total ≤ c.cursor then
    match s.finishCmd c.key c.idx 0 with
    | .ok t => .finished (t.freeCopy e)
    | .error 0 => .stop s
    | .error x => .finished ((s.freeCopy e).faultCmd c.key c.idx x 0)
  else if c.isBytes then s.byteStep e c host
  else s.tileStep e c host again

/-- An engine run until it waits or its command is over. -/
def State.engineRun : Nat → Nat → List Byte → List Byte → State → State
  | 0, _, _, _, s => s
  | fuel + 1, e, host, again, s =>
    match SMap.find s.tun.copies e with
    | none => s
    | some c =>
      match s.engineStep e c host again with
      | .go t => State.engineRun fuel e host again t
      | .stop t => t
      | .finished t => t

/-- The bytes a copy takes from host memory. -/
def EngineCmd.hostBytes (c : EngineCmd) : Nat := if !c.hsrc then 0 else if c.isBytes then c.total else 8192 * c.total

/-- Whether an engine can go on: it does not wait for a message, and its host bytes are here. One whose context has
been torn down waits for neither. -/
def State.engineGoes (s : State) (e : Nat) (host again : List Byte) : Bool :=
  match SMap.find s.tun.copies e with
  | none => false
  | some c =>
    s.f F.tunCtx_STATE c.key == 5 ||
      (match c.stage with
       | .asked | .sent | .cask _ => false
       | _ => true) &&
        c.hostBytes ≤ host.length && c.hostBytes ≤ again.length && (!(c.hsrc || c.hdst) || s.hostReady)

/-- COPY_ENGINE_COMPLETE (12 R430): the engine goes on until it waits for another node or for a tile, or
its command completes. -/
def execCopyEngineComplete (e : Nat) (host hostAgain : List Byte) (s : State) : Host.Outcome State Fault Refusal :=
  command (.copyEngineComplete e host hostAgain) (s.engineGoes e host hostAgain)
    s
    (State.engineRun (4 * (((SMap.find s.tun.copies e).map EngineCmd.total).getD 0) + 4) e host hostAgain s)

/-- One step of an engine as a tile row commands it. -/
def State.engineOnce (s : State) (e : Nat) : State :=
  match SMap.find s.tun.copies e with
  | none => s
  | some c =>
    match s.engineStep e c [] [] with
    | .go t => t
    | .stop t => t
    | .finished t => t

/-- Whether an engine's next step reads a source tile on this device. -/
def State.engineReads (s : State) (e : Nat) : Bool :=
  match SMap.find s.tun.copies e with
  | none => false
  | some c => c.stage == .next && !c.isBytes && !c.hsrc && c.cursor < c.total && s.f F.tunCtx_STATE c.key != 5

/-- Whether an engine's next step begins a destination tile. -/
def State.engineWrites (s : State) (e : Nat) : Bool :=
  match SMap.find s.tun.copies e with
  | none => false
  | some c =>
    c.stage == .condemned || !c.isBytes && !c.hdst && s.f F.tunCtx_STATE c.key != 5 &&
      (match c.stage with
       | .held _ _ _ => true
       | _ => false)

/-- The copy timeout of an engine (15 R513, R514). -/
def State.engineTimeout (s : State) (e : Nat) : State :=
  match SMap.find s.tun.copies e with
  | none => s
  | some c =>
    let s := s.rasCount 10
    let s := match c.stage with
      | .begun w p sc =>
        match s.finishTile 0 c.part (s.engineTarget c) w p sc .copyDestination with
        | .ok s => s
        | .error _ => s
      | _ => s
    s.engineFault e c 0x0803 (BitVec.ofNat 32 (c.cursor % 4096 + 4096))

end Sys2Proof.Machine
end

