-- ==== Sys2Proof/Machine/FabricIn.lean ====
section
/-!
DEFINITION. The fabric's receiving side (10 R335 to R349): what a port does with a message that arrives,
transit, the checks of a request, and the requests a home serves.
-/
namespace Sys2Proof
open Sys2Proof.Machine

/-- The virtual channel of a message type; none for a reserved TYPE (10 R335). -/
def Msg.vcOf (m : Msg) : Option Nat :=
  let t := m.type.toNat
  if 1 ≤ t && t ≤ 8 then some 0
  else if 0x10 ≤ t && t ≤ 0x14 then some 1
  else if 0x20 ≤ t && t ≤ 0x23 then some 2
  else if 0x30 ≤ t && t ≤ 0x32 then some 3
  else none

/-- The address of a request as this device translates it. -/
def Msg.here (m : Msg) : W64 := mkGa (gaClass (m.word 0)) 0xFFFF (gaOfs (m.word 0))

/-- The tile that a TRD, TWR or TRED names here, by its header word 0. -/
def Msg.tile (m : Msg) : TLoc :=
  let w0 := m.word 16
  ⟨2, hdrFormat w0, m.here,
    if tileIsMx (hdrFormat w0) then (gaOfs (m.word 8) : Int) - (gaOfs m.here / 2 ^ 30 * 2 ^ 30 : Nat) else 0⟩

/-- What is wrong with a tile's place or header before it is touched. -/
def Msg.tileBad (m : Msg) : Option Nat :=
  if gaClass m.here == 2 then some 0x0213
  else if !hdrValid (m.word 16) then some 0x0104
  else if !m.tile.placed then some 0x0106
  else none

/-- Payload and scale lane of a tile message. -/
def Msg.payload (m : Msg) : List Byte := m.body.take (tilePayload (hdrFormat (m.word 16)))

def Msg.scale (m : Msg) : List Byte := m.body.drop (tilePayload (hdrFormat (m.word 16)))

/-- Whether the checksum of a TWR or TRED holds over what came. -/
def Msg.intact (m : Msg) : Bool :=
  let tf := hdrFormat (m.word 16)
  m.body.length == tilePayload tf + (if tileIsMx tf then 256 else 0) &&
    tileChecksum ⟨m.word 16, m.payload, m.scale⟩ == m.word 24

end Sys2Proof

namespace Sys2Proof.Machine

/-! ### Ports (10 R335, R343, R345, R346) -/

/-- An event counter of a port advanced (10 R372). -/
def State.portCount (s : State) (port n k : Nat) : State := s.bump .portEvtLo .portEvtHi (port * 6 + n) k

/-- A message for another node that cannot go on: a request is answered with STATUS 4 (10 R346). -/
def State.unreachable (s : State) (m : Msg) : State :=
  let s := s.ctlCount 3
  if m.isRequest then s.respond m.snode.toNat m.tag.toNat 0 { Msg.empty with vc := 1, type := 0x14, status := 4 }
  else s

/-- A message for another node (10 R345, R346). -/
def State.transit (s : State) (port : Nat) (m : Msg) : State :=
  if m.hops == 0 then s.unreachable m
  else
    match pickPort (s.routeMask m.dnode.toNat) m.portKey with
    | none => s.unreachable m
    | some p =>
      if s.b F.portCfg_TRANSIT port && s.b F.portCfg_TRANSIT p then
        (s.ctlCount 7).transmit p { m with hops := m.hops - 1 }
      else s

/-- The flits of a channel in a port's receive buffer (10 R339). -/
def State.buffered (s : State) (port vc : Nat) : Nat :=
  (((s.port port).rx.filter (fun m => m.vc == vc)).map Msg.flits).foldl (· + ·) 0

/-- A message that must wait stays in the receive buffer, whose entry returns its credit when it frees (10 R341). -/
def State.bufferMsg (s : State) (port : Nat) (m : Msg) : State :=
  let x := s.port port
  s.setPort port { x with rx := x.rx ++ [m] }

/-- Whether a request of a channel waits at a port: those behind it on the channel wait as well (10 R339, R353). -/
def State.channelWaits (s : State) (port : Nat) (m : Msg) : Bool :=
  m.isRequest && (s.port port).rx.any (fun q => q.isRequest && q.vc == m.vc)

/-- What a port does with a message: flits counted, a reserved TYPE or a wrong channel dropped, transit forwarded,
what is for this node handed to `act`, which answers none while the message must wait. A device without a
node identifier takes no routed message (10 R335, R345, R348). -/
def State.arrive (s : State) (port : Nat) (m : Msg) (act : State → Option State) : State :=
  let s := s.portCount port 1 m.flits
  if m.vcOf != some m.vc then s.portCount port 5 1
  else
    match s.nodeId with
    | none => s
    | some me =>
      if m.dnode.toNat != me then s.transit port m
      else if s.channelWaits port m then s.bufferMsg port m
      else (act s).getD (s.bufferMsg port m)

/-- Whether a message of a row's type comes in on a port: the port is up, the peer has had credits for it, and its
TYPE is the row's or a reserved one (10 R335, R339). -/
def State.comesIn (s : State) (port : Nat) (m : Msg) (type : BitVec 6) : Bool :=
  s.portUp port && (m.type == type || m.vcOf.isNone) && s.buffered port m.vc + m.flits ≤ vcRoom m.vc

/-- The answer to a row of the fabric on VC 0. -/
def fromPort (c : Instr) (s : State) (port : Nat) (m : Msg) (type : BitVec 6) (act : State → Option State) :
    Host.Outcome State Fault Refusal :=
  command c (s.comesIn port m type) s (s.arrive port m act)

/-! ### Requests of other nodes (10 R349) -/

/-- The partition that a span key names here. -/
def State.keyPart (s : State) (m : Msg) : Option Nat :=
  if m.skey == 0 then none
  else (List.range 64).find? (fun n => s.b F.bxfCtlPkey_ENABLE n && s.f F.bxfCtlPkey_SKEY n == m.skey.toNat)

/-- An answer to a request of a partition. -/
def State.answer (s : State) (part : Nat) (m r : Msg) : Option State := some (s.respond m.snode.toNat m.tag.toNat part r)

/-- A request that no key admits: STATUS 2 (10 R349). -/
def State.refuseIn (s : State) (m : Msg) (vc : Nat) (type : BitVec 6) : Option State :=
  (s.ctlCount 2).answer 0 m { Msg.empty with vc := vc, type := type, status := 2 }

/-- The bytes of a line that a mask enables, replaced. -/
def mergeBytes (mask : BitVec 128) (old new : List Byte) : List Byte :=
  ((old.zip new).zipIdx).map (fun p => if mask.getLsbD p.2 then p.1.2 else p.1.1)

/-- A non-allocating write of the bytes a mask enables (08 R290, R297). -/
def State.naMerge (s : State) (line : Nat) (mask : BitVec 128) (d : List Byte) : Except Nat State :=
  let full := mask == BitVec.allOnes 128
  if s.chanFailed line || (s.poisoned line && !full) then .error 0x0220
  else if (s.ownerFenced line).isSome && !full then .error 0x0220
  else
    let s := if full then (s.recallAll line false).clearPoison line else s.recallAll line true
    .ok (s.writeHome line (mergeBytes mask (s.curLine line) d))

/-- The line of a request: a fault is answered in the given type, a stall waits. -/
def State.homeLine (s : State) (part : Nat) (m : Msg) (u : Use) (type : BitVec 6)
    (act : State → Nat → Option State) : Option State :=
  match s.translate part m.here u with
  | .stall => none
  | .fault c => s.answer part m (failed 1 type c)
  | .at (.own _ ofs) => act (s.noteXlat part m.here) ofs
  | .at (.remote _ _ _) => s.answer part m (failed 1 type 0x0212)
  | .at (.regs _ _) => s.answer part m (failed 1 type 0x0213)

/-- A fault that a served request met; poison is counted at the slice. -/
def State.failIn (s : State) (part line : Nat) (m : Msg) (type : BitVec 6) (code : Nat) : Option State :=
  (if code == 0x0220 then s.countPoison line else s).answer part m (failed 1 type code)

/-- RD served (10 R351, R336): marked cacheable where the region says so and its policy allows it (07 R251). -/
def State.serveRd (s : State) (m : Msg) : Option State :=
  match s.keyPart m with
  | none => s.refuseIn m 1 0x10
  | some p =>
    s.homeLine p m .load 0x10 (fun s ofs =>
      if s.farFrom m.snode (gLine ofs) then none
      else
      match s.naRead (gLine ofs) with
      | .error c => s.failIn p (gLine ofs) m 0x10 c
      | .ok (d, s) =>
        s.answer p m { Msg.empty with
          vc := 1, type := 0x10, rc := s.b F.llmRgnDesc_RCACHE (regionOf ofs) && s.cacheable (gLine ofs), head := zeros 32 ++ d })

/-- WR served: the bytes its mask enables (10 R351, R336). -/
def State.serveWr (s : State) (m : Msg) : Option State :=
  match s.keyPart m with
  | none => s.refuseIn m 1 0x11
  | some p =>
    s.homeLine p m .store 0x11 (fun s ofs =>
      if s.farFrom m.snode (gLine ofs) then none
      else
      match s.naMerge (gLine ofs) (BitVec.ofNat 128 (leNat ((m.head.drop 8).take 16))) ((m.head.drop 32).take 128) with
      | .error c => s.failIn p (gLine ofs) m 0x11 c
      | .ok s => s.answer p m { Msg.empty with vc := 1, type := 0x11 })

/-- ATOM: the operation enters the slice's queue, or waits while it is full (10 R351, 08 R293). -/
def State.serveAtom (s : State) (port : Nat) (m : Msg) : Option State :=
  match s.keyPart m with
  | none => s.refuseIn m 1 0x12
  | some p =>
    let c := m.word 8
    let n := if bitOf c 4 then 8 else 4
    if fld c 0 4 == 15 then s.answer p m (failed 1 0x12 0x0401)
    else if gaOfs m.here % n != 0 then s.answer p m (failed 1 0x12 0x0405)
    else
      s.homeLine p m .atomic 0x12 (fun s ofs =>
        if s.farRoom (s.homeOf (gLine ofs)).1 then
          some (s.pushFar (gLine ofs) p (.atomic (fld c 0 4) (bitOf c 4) (bitOf c 5) (BitVec.ofNat 64 ofs)
            (m.word 16) (m.word 24)) (.remote port m.tag.toNat m.snode)).2
        else none)

/-- Whether earlier operations of the sender wait at a line of the tile a message names (10 R353). -/
def State.tileBehind (s : State) (part : Nat) (m : Msg) : Bool :=
  match s.tileLines part m.tile .copySource with
  | .ok (t, s) => t.all.any (s.farFrom m.snode)
  | .error _ => false

/-- TRD served: word 0, payload and scale lane, word 1 and word 0 again, unjudged (10 R338). -/
def State.serveTrd (s : State) (m : Msg) : Option State :=
  match s.keyPart m with
  | none => s.refuseIn m 1 0x14
  | some p =>
    match m.tileBad with
    | some c => s.answer p m (failed 1 0x14 c)
    | none =>
      if s.tileBehind p m then none
      else
      match s.seeTile 0xFFFF p m.tile .copySource with
      | .error 0 => none
      | .error c => s.answer p m (failed 1 0x14 c)
      | .ok (v, s) =>
        s.answer p m { Msg.empty with
          vc := 3, type := 0x32, body := v.payload ++ v.scale,
          head := leBytes 8 v.word0.toNat ++ leBytes 8 v.word1.toNat ++ leBytes 8 v.word0.toNat }

/-! ### Tiles that land (10 R337, 03 R95) -/

def landingKey (port snode tag : Nat) : Nat := (port * 65536 + snode) * 2 ^ 20 + tag

/-- A tile whose checksum held is written: the acknowledgement, or the landing that waits while BUSY is
set. None while the tile's lines stall. -/
def State.land (s : State) (port : Nat) (m : Msg) (part : Nat) (wait : TileWait) : Option State :=
  let k := landingKey port m.snode.toNat m.tag.toNat
  let done (s : State) : State := { s with fab := { s.fab with landings := SMap.drop s.fab.landings k } }
  let w0 := m.word 16
  let img := TileImage.trim ⟨w0, m.payload, m.scale⟩
  match s.writeTile 0xFFFF part m.tile (hdrRole w0) (hdrVrows w0) (hdrVcols w0) port 4 img.payload img.scale
      .copyDestination with
  | .error 0 => none
  | .error c => (done s).answer part m (failed 1 0x13 c)
  | .ok none =>
    some { s with fab := { s.fab with landings := SMap.put s.fab.landings k ⟨m, part, s.openWait wait⟩ } }
  | .ok (some s) => (done s).answer part m { Msg.empty with vc := 1, type := 0x13 }

/-- The checks of TWR and TRED: key, then checksum (STATUS 5), then place. -/
def State.checkLanding (s : State) (m : Msg) (act : Nat → Option State) : Option State :=
  match s.keyPart m with
  | none => s.refuseIn m 1 0x13
  | some p =>
    if !m.intact then (s.ctlCount 6).answer p m { Msg.empty with vc := 1, type := 0x13, status := 5 }
    else
      match m.tileBad with
      | some c => s.answer p m (failed 1 0x13 c)
      | none => act p

/-- TWR served (10 R337). -/
def State.serveTwr (s : State) (port : Nat) (m : Msg) : Option State :=
  s.checkLanding m (fun p => if s.tileBehind p m then none else s.land port m p TileWait.fresh)

/-- TRED served: the contribution enters the queue of its header's slice (10 R337, 06 R231). -/
def State.serveTred (s : State) (port : Nat) (m : Msg) : Option State :=
  s.checkLanding m (fun p =>
    let w0 := m.word 16
    let op := m.word 32
    if 4 < fld op 0 3 then s.answer p m (failed 1 0x13 0x0401)
    else if hdrRole w0 != 0 || 4 < hdrFormat w0 then s.answer p m (failed 1 0x13 0x0408)
    else
      match s.lineOf p 2 m.tile.hdrAddr .copyDestination with
      | .error 0 => none
      | .error c => s.answer p m (failed 1 0x13 c)
      | .ok (h, s) =>
        if s.farRoom (s.homeOf h).1 then
          some (s.pushFar h p (.reduce (fld op 0 3) (bitOf op 3) (BitVec.ofNat 128 (2 * 2 ^ 86 + hdrFormat w0 * 2 ^ 88))
            m.here 0 w0 m.payload []) (.remote port m.tag.toNat m.snode)).2
        else none)

end Sys2Proof.Machine
end

