-- ==== Sys2Proof/Machine/FabricRsp.lean ====
section
/-!
DEFINITION. The fabric's requesting side (10 R338, R344, R350 to R354, R367): responses, the statuses that end a
request, held requests, response timeouts and stalled ports; and the rows of VC 1 to VC 3.
-/
namespace Sys2Proof.Machine

/-! ### The request that a response answers -/

/-- The type that answers a request (10 R335); every request may also be answered by ERR. -/
def rspType (req : BitVec 6) : BitVec 6 :=
  match req with
  | 0x20 => 0x10
  | 0x21 => 0x11
  | 0x22 => 0x12
  | 0x23 => 0x32
  | 0x07 => 0x08
  | _ => 0x13

/-- A request ends: its tag is free (10 R350). -/
def State.dropReq (s : State) (tag : Nat) : State :=
  { s with fab := { s.fab with reqs := SMap.drop s.fab.reqs tag, held := s.fab.held.filter (· != tag) } }

/-- CLASS, node and offset of the address a request names. -/
def FabReq.cls (r : FabReq) : Nat := gaClass (r.msg.word 0)
def FabReq.node (r : FabReq) : Nat := gaNode (r.msg.word 0)
def FabReq.ofs (r : FabReq) : Nat := gaOfs (r.msg.word 0)
def FabReq.sofs (r : FabReq) : Nat := gaOfs (r.msg.word 8)

/-- The flags of a reduction at another node: no message carries them, so they are a free value (log entry 25). -/
def State.awayFlags (s : State) (gtag : Nat) (fp : Bool) : State :=
  if fp then s.draw.2.postFlags gtag (s.draw.1.truncate 5) else s

/-! ### Deliveries (10 R351) -/

/-- What an atomic at another node answers: its flags, and whether it performed its update, by the old value that
came back (02 R75, 05 R182, 04 R143). -/
def FabReq.flags (r : FabReq) (old : W64) : FFlags :=
  let ctl := r.msg.word 8
  (atomicResult (bitOf ctl 4) (fld ctl 0 4) (bitOf ctl 5) old (r.msg.word 16) (r.msg.word 24)).2

def FabReq.hits (r : FabReq) (old : W64) : Bool :=
  let ctl := r.msg.word 8
  atomicHit (bitOf ctl 4) (fld ctl 0 4) old (r.msg.word 24)

/-- Line data of a load: kept by the proxy slice when RC is 1 and no write of this device has followed the read
(07 R263). -/
def State.deliverLoad (s : State) (id line : Nat) (keep : Bool) (m : Msg) : State :=
  let d := (m.head.drop 32).take 128
  match SMap.find s.co.accesses id with
  | none => s
  | some a =>
    let core := a.who.core
    let s := if a.fn == 20 then s.draffLine line
      else if m.rc && keep && core < 256 && !s.fenced core then s.keepRemote core a.part line d else s
    s.fillLine id line d

/-- The old value of an atomic, of a lock attempt, or of a release. -/
def State.deliverAtomic (s : State) (id idx : Nat) (r : FabReq) (m : Msg) : State :=
  match SMap.find s.co.accesses id with
  | none => s
  | some a =>
    if a.fn == 18 then s.lockAnswer id a (m.word 0) (r.msg.word 24) r.cls r.node r.ofs
    else if a.fn == 19 then s.releaseAnswer id a (m.word 0) (r.msg.word 24) r.cls r.node r.ofs
    else
      let old := BitVec.ofNat 64 ((m.word 0).toNat % 2 ^ (8 * a.size))
      let s := (s.postFlags a.gtag (r.flags old)).fillWord id idx (leBytes a.size old.toNat)
      if r.hits old then s.retireWork a.gtag else s

/-- A remote line kept in the proxy slice alone (10 R352, 08 R281). -/
def State.keepProxy (s : State) (part line : Nat) (d : List Byte) : State :=
  if !s.sliceOn line then s
  else { s with mem := { s.mem with remote := SMap.put s.mem.remote line d } }.supply line (some part) false

/-- A response for a transfer. -/
def State.deliverXfer (s : State) (core cmd idx : Nat) (r : FabReq) (m : Msg) : State :=
  match s.xfer core cmd idx with
  | none => s
  | some (c, x) =>
    match x.stage with
    | .gathering got =>
      let d := (m.head.drop 32).take 128
      let s := if m.rc && r.keep then s.keepProxy c.part r.line d else s
      s.setXfer core c { x with stage := .gathering (SMap.put got r.line d) }
    | .awaiting =>
      if r.msg.type == 0x20 then
        let s := if m.rc && r.keep then s.keepProxy c.part r.line ((m.head.drop 32).take 128) else s
        s.setXfer core c { x with stage := .landed }
      else if r.msg.type == 0x22 then
        let n := if (tForm c.w0 c.w1).opt % 2 == 1 then 8 else 4
        let old := BitVec.ofNat 64 ((m.word 0).toNat % 2 ^ (8 * n))
        (s.setXfer core c { x with stage := .read old [] [] }).postFlags c.gtag (r.flags old)
      else if r.msg.type == 0x23 then
        let n := tilePayload (hFormat c.ta)
        s.judgeAway core c x ⟨m.word 0, m.word 8, m.body.take n, m.body.drop n⟩ (m.word 16) r.cls r.node r.ofs r.sofs
      else (s.setXfer core c { x with stage := .landed }).awayFlags c.gtag (r.msg.type == 0x31)
    | _ => s

/-- A tile of another node judged for a copy engine (03 R98 to R101, 10 R338). -/
def State.engineJudge (s : State) (e : Nat) (c : EngineCmd) (r : FabReq) (v : Seen) (w0b : W64) : Ran :=
  let again (s : State) (c : EngineCmd) : Ran := s.engineSend e c .asked r.node
    (trdMsg c.tf r.cls r.node r.ofs r.sofs (mkHeader false c.role c.tf 0 0 0 0 0)) r.line
  let torn := !hdrPoison v.word0 && (hdrBusy v.word0 || hdrBusy w0b || hdrGen w0b != hdrGen v.word0)
  if torn then again s { c with wait := s.openWait c.wait }
  else
    match judge { v with word0 := if hdrPoison w0b then w0b else v.word0 } c.tf c.role false with
    | .busy => again s { c with wait := s.openWait c.wait }
    | .fault x => .finished ((if x == 0x0103 then s.rasCount 4 else s).engineFault e c x 0)
    | .good img =>
      let s := if c.wait.mismatch == some (hdrGen img.word0) then (s.rasCount 0).rasCount 1 else s
      .stop (s.setEngine e { c with stage := .held img.word0 img.payload img.scale, wait := TileWait.fresh })
    | .mismatch g =>
      if c.wait.mismatch == some g then
        .finished ((((((s.rasCount 0).rasCount 0).rasCount 2).poisonAway c.part c.ctx r.cls r.node r.ofs v.word0)).engineFault
          e c 0x0101 0)
      else
        let s := (awayLines c.tf r.node r.ofs r.sofs).all.foldl (fun s l => s.dropRemote l) s
        again s { c with wait := { c.wait with mismatch := some g } }

/-- A response for a copy engine. -/
def State.deliverEngine (s : State) (e : Nat) (c : EngineCmd) (r : FabReq) (m : Msg) : Ran :=
  let d := (m.head.drop 32).take 128
  match c.stage with
  | .asked =>
    if r.msg.type == 0x23 then
      let n := tilePayload c.tf
      s.engineJudge e c r ⟨m.word 0, m.word 8, m.body.take n, m.body.drop n⟩ (m.word 16)
    else if c.isBytes then
      .stop (s.setEngine e { c with
        stage := .held 0 ((d.drop (((c.w 1).toNat + c.cursor) % 128)).take c.piece) [] })
    else
      let h := (s.headAt (c.w 1)).toNat % 128
      s.learn e c (BitVec.ofNat 64 (leNat ((d.drop h).take 8)))
  | .sent => .stop (s.setEngine e (c.advance (if c.isBytes then c.piece else 1)))
  | _ => .stop s

def Ran.state : Ran → State
  | .go s => s
  | .stop s => s
  | .finished s => s

/-- What a response brings to whoever waits for it. -/
def State.deliver (s : State) (r : FabReq) (m : Msg) : State :=
  match r.owner with
  | .load id _ => s.deliverLoad id r.line r.keep m
  | .store id _ => s.fillLine id r.line []
  | .atomic id idx => s.deliverAtomic id idx r m
  | .xfer core cmd idx => s.deliverXfer core cmd idx r m
  | .mgmt id => s.fillWord id 0 (m.head.take 4)
  | .record _ => s
  | .ringWrite key idx => s.endCmd key idx 0
  | .engine e idx =>
    match SMap.find s.tun.copies e with
    | some c => if c.idx == idx && c.key == 16 * r.part + r.ctx then (s.deliverEngine e c r m).state else s
    | none => s
  | .posted => s

/-! ### Requests that end in a fault (10 R354, R367) -/

/-- A copy engine's request failed. -/
def State.failEngine (s : State) (e : Nat) (c : EngineCmd) (r : FabReq) (code : Nat) (info : W32) : State :=
  if r.msg.type == 0x23 then
    (s.raiseRing c.key code 2 (s.entryAddr c.key c.idx) info false).condemnEngine e c
  else s.engineFault e c code info

/-- An access's request failed: its registers read zero, its store counts as done, its context is torn
down. -/
def State.failReqAccess (s : State) (id code : Nat) (info : W32) : State :=
  match SMap.find s.co.accesses id with
  | none => s
  | some a =>
    if a.fn == 18 || a.fn == 19 then
      match a.who with
      | .group core slot => (s.dropAccess id).raiseLate core slot a.part a.ctx code (a.lanes.headD 0xFF) 0 info a.pc
      | .cp _ part ctx => (s.dropAccess id).teardown ⟨code, part, ctx, 3, 0xFFFF, a.pc, info⟩ false
    else s.faultAccess id code info

/-- A transfer's request failed: a tile read condemns its destination, a TATOM's word reads all ones. -/
def State.failReqXfer (s : State) (core cmd idx : Nat) (r : FabReq) (code : Nat) (info : W32) : State :=
  match s.xfer core cmd idx with
  | none => s
  | some (c, x) =>
    if r.msg.type == 0x22 then
      (s.localWrite core c.part c.sd.toNat (List.replicate 8 0xFF)).faultXfer core cmd idx code info
    else
      match x.stage, r.msg.type == 0x23 with
      | _, true => s.faultRead core cmd idx code info
      | .gathering _, _ => s.faultRead core cmd idx code info
      | _, _ => s.faultXfer core cmd idx code info

/-- The ring command that a management access of a command processor belongs to completes with STATUS 0x0601: the
oldest one of the context's ring that has started (12 R434, log entry 147). -/
def State.reportMgmt (s : State) (id : Nat) : State :=
  match SMap.find s.co.accesses id with
  | some a =>
    match a.who with
    | .cp _ part ctx =>
      let key := 16 * part + ctx
      match (s.ring key).cmds.find? (fun c => c.started && c.ended.isNone) with
      | some c => s.endCmd key c.idx 0x0601
      | none => s
    | .group _ _ => s
  | none => s

/-- A management request failed: a read returns all ones, the command processor hears of it, nothing faults (10
R354). -/
def State.failMgmt (s : State) (id : Nat) : State :=
  (s.reportMgmt id).fillWord id 0 (List.replicate 4 0xFF)

/-- A request ends with a fault (10 R354). -/
def State.failReq (s : State) (r : FabReq) (code : Nat) (info : W32) : State :=
  match r.owner with
  | .load id _ => s.failReqAccess id code info
  | .store id _ => s.failReqAccess id code info
  | .atomic id _ => s.failReqAccess id code info
  | .xfer core cmd idx => s.failReqXfer core cmd idx r code info
  | .mgmt id => s.failMgmt id
  | .record key => s.raiseRing key code 5 0 info false
  | .ringWrite key idx => s.faultCmd key idx code info
  | .engine e idx =>
    match SMap.find s.tun.copies e with
    | some c => if c.idx == idx && c.key == 16 * r.part + r.ctx then s.failEngine e c r code info else s
    | none => s
  | .posted => s

/-- STATUS 5 (10 R337): the sender reads and verifies its source again and resends once; the second one is
fault 0x0603. -/
def State.resend (s : State) (r : FabReq) : State :=
  let info := BitVec.ofNat 32 r.msg.dnode.toNat
  match r.owner with
  | .xfer core cmd idx =>
    match s.xfer core cmd idx with
    | some (c, x) =>
      if x.resent then s.failReq r 0x0603 info
      else s.setXfer core c { x with stage := .reading, resent := true, wait := TileWait.fresh }
    | none => s
  | .engine e idx =>
    match SMap.find s.tun.copies e with
    | some c =>
      if c.idx != idx then s
      else if c.resent then s.failReq r 0x0603 info
      else s.setEngine e { c with stage := .next, resent := true, wait := TileWait.fresh }
    | none => s
  | _ => s.failReq r 0x0603 info

/-! ### Held requests (10 R344, R346) -/

/-- A held request is sent when the earlier ones on its old ports have all ended and a tag is free; it ends with
STATUS 4 where its node has become unreachable. -/
def State.releaseOne (s : State) (key : Nat) : State :=
  match SMap.find s.fab.reqs key with
  | none => s
  | some r =>
    match pickPort (s.routeMask r.msg.dnode.toNat) r.msg.portKey with
    | none => (s.dropReq key).failReq r 0x0604 (routeInfo r.msg.dnode.toNat r.msg.type.toNat)
    | some p =>
      let tag := if key < 2 ^ 20 then some key else s.freeTag
      if s.behindHeld (s.fab.held.takeWhile (· != key)) r.msg || s.mustHold r.msg p then s
      else
        match tag with
        | none => s
        | some n =>
          let m := { r.msg with tag := BitVec.ofNat 20 n }
          ((s.dropReq key).enterReq n { r with port := p, msg := m }).transmit p m

/-- The held requests that may go, in order. -/
def State.releaseHeld (s : State) : State := s.fab.held.foldl State.releaseOne s

/-! ### Responses (10 R350, R354) -/

/-- A response with a STATUS other than 0 (10 R354, R367). A reserved STATUS ends nothing: its request times out
(DESIGN CHOICE, log entry 148). -/
def State.failedBy (s : State) (tag : Nat) (r : FabReq) (m : Msg) : State :=
  let dnode := r.msg.dnode.toNat
  let t := s.dropReq tag
  match m.status.toNat with
  | 1 => t.failReq r 0x0220 ((r.msg.word 0).truncate 32)
  | 2 => t.failReq r 0x0602 (BitVec.ofNat 32 (2 + dnode * 2 ^ 16))
  | 3 => t.failReq r 0x0602 (BitVec.ofNat 32 (m.param.toNat % 2 ^ 16 + dnode * 2 ^ 16))
  | 4 => t.failReq r 0x0604 (routeInfo dnode r.msg.type.toNat)
  | 5 => if r.msg.type == 0x30 || r.msg.type == 0x31 then t.resend r else s
  | 7 => t.failReq r 0x0605 0
  | _ => s

/-- A response for this node: late, delivered, or the end of its request (10 R350, R354). It never waits. -/
def State.takeResponse (s : State) (m : Msg) : State :=
  match SMap.find s.fab.reqs m.tag.toNat with
  | none => s.ctlCount 1
  | some r =>
    if r.port == 8 || (m.type != 0x14 && m.type != rspType r.msg.type) then s.ctlCount 1
    else if m.status != 0 then (s.failedBy m.tag.toNat r m).releaseHeld
    else if m.type == 0x14 then s
    else ((s.dropReq m.tag.toNat).deliver r m).releaseHeld

/-! ### What a port hands on (10 R339, R341, R353) -/

/-- A request or a response of VC 1 to VC 3 served; none while it must wait. -/
def State.serve (s : State) (port : Nat) (m : Msg) : Option State :=
  match m.type with
  | 0x20 => s.serveRd m
  | 0x21 => s.serveWr m
  | 0x22 => s.serveAtom port m
  | 0x23 => s.serveTrd m
  | 0x30 => s.serveTwr port m
  | 0x31 => s.serveTred port m
  | _ => some (s.takeResponse m)

/-- A message of a receive buffer tried again: served, it frees its entry (10 R341). -/
def State.retryMsg (s : State) (port : Nat) (m : Msg) : State :=
  if s.channelWaits port m then s.bufferMsg port m else (s.serve port m).getD (s.bufferMsg port m)

/-- The receive buffer of a port tried again, in order. -/
def State.retryPort (s : State) (port : Nat) : State :=
  let x := s.port port
  x.rx.foldl (fun s m => s.retryMsg port m) (s.setPort port { x with rx := [] })

/-- What waits in the buffers of the ports goes on where it can: tried when a message arrives and at a boundary (log
entry 149). -/
def State.retryBuffers (s : State) : State := (List.range 8).foldl (fun s p => (s.retryPort p).pump p) s

/-- A message that arrives on VC 1 to VC 3, and what it lets go on. -/
def State.takeIn (s : State) (port : Nat) (m : Msg) : State :=
  (s.arrive port m (fun s => s.serve port m)).retryBuffers

/-- The answer to a row of the fabric on VC 1 to VC 3. -/
def served (c : Instr) (s : State) (port : Nat) (m : Msg) (type : BitVec 6) : Host.Outcome State Fault Refusal :=
  command c (s.comesIn port m type) s (s.takeIn port m)

def execRd (port : Nat) (m : Msg) (s : State) : Host.Outcome State Fault Refusal := served (.rd port m) s port m 0x20

def execWr (port : Nat) (m : Msg) (s : State) : Host.Outcome State Fault Refusal := served (.wr port m) s port m 0x21

def execAtom (port : Nat) (m : Msg) (s : State) : Host.Outcome State Fault Refusal :=
  served (.atom port m) s port m 0x22

def execTrd (port : Nat) (m : Msg) (s : State) : Host.Outcome State Fault Refusal := served (.trd port m) s port m 0x23

def execTwr (port : Nat) (m : Msg) (s : State) : Host.Outcome State Fault Refusal := served (.twr port m) s port m 0x30

def execTredContribution (port : Nat) (m : Msg) (s : State) : Host.Outcome State Fault Refusal :=
  served (.tredContribution port m) s port m 0x31

def execRdrsp (port : Nat) (m : Msg) (s : State) : Host.Outcome State Fault Refusal :=
  served (.rdrsp port m) s port m 0x10

def execWrack (port : Nat) (m : Msg) (s : State) : Host.Outcome State Fault Refusal :=
  served (.wrack port m) s port m 0x11

def execAtrsp (port : Nat) (m : Msg) (s : State) : Host.Outcome State Fault Refusal :=
  served (.atrsp port m) s port m 0x12

def execTwrack (port : Nat) (m : Msg) (s : State) : Host.Outcome State Fault Refusal :=
  served (.twrack port m) s port m 0x13

def execTrdrsp (port : Nat) (m : Msg) (s : State) : Host.Outcome State Fault Refusal :=
  served (.trdrsp port m) s port m 0x32

def execErrRsp (port : Nat) (m : Msg) (s : State) : Host.Outcome State Fault Refusal :=
  served (.errRsp port m) s port m 0x14

def execMgmtrsp (port : Nat) (m : Msg) (s : State) : Host.Outcome State Fault Refusal :=
  served (.mgmtrsp port m) s port m 0x08

/-! ### Timeouts (10 R347, R354) -/

/-- Whether a tag belongs to a request that has been sent. -/
def State.sentReq (s : State) (tag : Nat) : Option FabReq :=
  (SMap.find s.fab.reqs tag).filter (fun r => r.port != 8)

/-- The tag of a request that timed out is kept back for 2 × RESP_TO, of 1000 ticks a microsecond (10 R350; a RESP_TO
below 100 acts as 100, R368). -/
def State.restTag (s : State) (tag : Nat) : State :=
  let now := s.tun.tb.toNat
  let left : SMap Nat := s.fab.rested.filter (fun e => now < e.2)
  { s with fab := { s.fab with
      rested := SMap.put left tag (now + 2000 * max 100 (s.f F.bxfCtlTimeout_RESP_TO 0)) } }

/-- RESP_TIMEOUT (10 R354). -/
def State.doRespTimeout (s : State) (tag : Nat) : State :=
  match s.sentReq tag with
  | some r =>
    ((((s.ctlCount 0).tick.restTag tag).dropReq tag).failReq r 0x0601
      (routeInfo r.msg.dnode.toNat r.msg.type.toNat)).releaseHeld
  | none => s

def execRespTimeout (tag : Nat) (s : State) : Host.Outcome State Fault Refusal :=
  command (.respTimeout tag) ((s.sentReq tag).isSome && !s.b F.clkStatus_SAFE 0) s (s.doRespTimeout tag)

/-- The core whose group or tile mover a request belongs to. -/
def State.reqCore (s : State) (r : FabReq) : Option Nat :=
  match r.owner with
  | .load id _ | .store id _ | .atomic id _ => (SMap.find s.co.accesses id).map (fun a => a.who.core)
  | .xfer core _ _ => some core
  | _ => none

/-- The tags of the requests that a context has open for a core. -/
def State.openTags (s : State) (part ctx core : Nat) : List Nat :=
  (s.fab.reqs.filter (fun e => e.2.part == part && e.2.ctx == ctx && s.reqCore e.2 == some core)).map Prod.fst

/-- What of a context is still outstanding on a core 250 µs after the switch was decided ends as a response timeout,
with fault 0x0601, and the context is torn down (11 R400). Where no request to another node is open the fault is of
no message: its information is a free value. -/
def State.drainTimedOut (s : State) (part ctx core : Nat) : State :=
  let s := (s.openTags part ctx core).foldl State.doRespTimeout s
  s.draw.2.teardown ⟨0x0601, part, ctx, 0, core, 0, s.draw.1.truncate 32⟩ false

/-- SWITCH_DRAIN_TIMEOUT (11 R400; 14 R496). -/
def execSwitchDrainTimeout (part ctx core : Nat) (s : State) : Host.Outcome State Fault Refusal :=
  command (.switchDrainTimeout part ctx core)
    (s.stageOf (16 * part + ctx) core == some .draining && !s.coreQuiet part ctx core && !s.b F.clkStatus_SAFE 0) s
    (s.drainTimedOut part ctx core)

/-- A message discarded on a stalled port: a request of this device ends with STATUS 7 (10 R347). -/
def State.discardStalled (s : State) (port vc : Nat) (m : Msg) : State :=
  let s := s.ctlCount 4
  match SMap.find s.fab.reqs m.tag.toNat with
  | some r =>
    if r.msg == m then (s.dropReq m.tag.toNat).failReq r 0x0605 (BitVec.ofNat 32 (port + vc * 2 ^ 4)) else s
  | none => s

/-- STALL_TIMEOUT (10 R347). -/
def State.doStallTimeout (s : State) (port vc : Nat) : State :=
  let x := s.port port
  let s := s.setPort port { x with queued := x.queued.filter (fun q => q.msg.vc != vc) }
  ((x.queued.filter (fun q => q.msg.vc == vc)).foldl (fun s q => s.discardStalled port vc q.msg) s).releaseHeld

/-- Whether a channel of a port has had a flit ready and no credit: something waits there while the link carries
flits (10 R347). -/
def State.stalls (s : State) (port vc : Nat) : Bool :=
  s.linked port && !s.portStill port && (s.port port).queued.any (fun q => q.msg.vc == vc)

def execStallTimeout (port vc : Nat) (s : State) : Host.Outcome State Fault Refusal :=
  command (.stallTimeout port vc) (s.stalls port vc && !s.b F.clkStatus_SAFE 0) s (s.doStallTimeout port vc)

end Sys2Proof.Machine
end

