-- ==== Sys2Proof/Machine/Ports.lean ====
section
/-!
DEFINITION. Fabric ports and links (10 R328 to R332, R347, R372), and the writes of the route table, the
partition keys and the span windows (10 R356, R369, R370).
-/
namespace Sys2Proof.Machine

/-! ### Lanes (10 R329, R330) -/

/-- A port leaves service for a state; what waits at it is discarded. -/
def State.portDown (s : State) (port st : Nat) : State :=
  let x := s.port port
  let s := s.setPort port { x with
    training := false, queued := [], replay := 0, retrainFails := 0, spent := [], waited := [], unacked := [], t1 := none }
  let s := if s.linked port then s.setF F.portFlags_DOWN port 1 else s
  (s.setF F.portStatus_STATE port st).setF F.portStatus_WIDTH port 0

/-- A retrain of a link starts (10 R329). -/
def State.retrain (s : State) (port : Nat) : State :=
  (s.portCount port 3 1).setPort port { s.port port with training := true, replay := 0 }

/-- Whether a logical lane of a port works: intact, or carried by a spare. -/
def State.laneOk (s : State) (port l : Nat) : Bool :=
  s.f F.portLanes_FAILED port / 2 ^ l % 2 == 0 || s.f F.portLanes_SPA port == l || s.f F.portLanes_SPB port == l

/-- The lanes this end can receive: 16, 8 or none (10 R330). -/
def State.ownLanes (s : State) (port : Nat) : Nat :=
  if (List.range 16).all (s.laneOk port) then 16
  else if (List.range 8).all (s.laneOk port) || (List.range 8).all (fun l => s.laneOk port (8 + l)) then 8
  else 0

/-- Spares of an engine that are free: neither failed nor given to a lane of either port. -/
def State.freeSpares (s : State) (engine : Nat) : List Nat :=
  let dead := (s.port (2 * engine)).failed
  let free (spare : Nat) (x : Fld) : Bool :=
    !dead.contains spare && s.f x (2 * engine) == 0x1F && s.f x (2 * engine + 1) == 0x1F
  (if free 32 F.portLanes_SPA then [32] else []) ++ (if free 33 F.portLanes_SPB then [33] else [])

/-- A logical lane of a port has no working fibre: a spare takes it and the link retrains, or the port
narrows or fails (10 R329, R330). -/
def State.loseLane (s : State) (engine port l : Nat) : State :=
  let s := s.setF F.portFlags_LANE_LOST port 1
  match (s.freeSpares engine).head? with
  | some 32 => (s.setF F.portLanes_SPA port l).retrain port
  | some _ => (s.setF F.portLanes_SPB port l).retrain port
  | none =>
    if s.ownLanes port == 0 then s.portDown port 4
    else if !s.linked port then s
    else ((s.setF F.portStatus_STATE port 3).setF F.portStatus_WIDTH port 1).retrain port

/-- LANE_FAILURE's effect: the port whose lane it is, or whose lane the spare carries. -/
def State.doLaneFailure (s : State) (engine lane : Nat) : State :=
  if lane < 32 then
    let port := 2 * engine + lane / 16
    let l := lane % 16
    (s.setF F.portLanes_FAILED port (s.f F.portLanes_FAILED port ||| 2 ^ l)).loseLane engine port l
  else
    let x := s.port (2 * engine)
    let s := s.setPort (2 * engine) { x with failed := lane :: x.failed }
    let sp := if lane == 32 then F.portLanes_SPA else F.portLanes_SPB
    match [2 * engine, 2 * engine + 1].find? (fun p => s.f sp p != 0x1F) with
    | some p => (s.setF sp p 0x1F).loseLane engine p (s.f sp p)
    | none => s

/-- Whether a lane is one that can still fail. -/
def State.laneAlive (s : State) (engine lane : Nat) : Bool :=
  if lane < 32 then
    s.b F.portCtrl_ENABLE (2 * engine + lane / 16) &&
      s.f F.portLanes_FAILED (2 * engine + lane / 16) / 2 ^ (lane % 16) % 2 == 0
  else !(s.port (2 * engine)).failed.contains lane

/-- What the PORT entries of the tables show of the fabric ports (16 R553). -/
def State.portsShown (s : State) : List (W32 × W32) :=
  (List.range 8).map (fun p => (s.rget .portStatus p, s.rget .portDelay p))

/-- A change of the fabric's ports shows in every table (16 R551, R557). -/
def State.showPorts (before after : State) : State :=
  if before.portsShown == after.portsShown then after else after.ploro after.ras.tables

/-- A change of the fabric's ports, with its service causes. -/
def State.portsChanged (before after : State) : State := State.service before (State.showPorts before after)

/-- LANE_FAILURE (10 R329). -/
def execLaneFailure (engine lane : Nat) (s : State) : Host.Outcome State Fault Refusal :=
  command (.laneFailure engine lane) (s.laneAlive engine lane) s
    (State.portsChanged s (s.doLaneFailure engine lane))

/-! ### Replays and retrains (10 R332, R372) -/

/-- Whether a lane of an engine carries flits of a port: one of its own, or a spare given to it (10 R328, R329). -/
def State.carries (s : State) (port lane : Nat) : Bool :=
  if lane < 32 then lane / 16 == port % 2
  else s.f (if lane == 32 then F.portLanes_SPA else F.portLanes_SPB) port != 0x1F

/-- A replay attributed to a lane: it fails when more than 16 come within 1 ms, a million ticks of TIMEBASE (10 R329,
11 R375). -/
def State.blameLane (s : State) (port lane : Nat) : State :=
  let s := s.tick
  let now := s.tun.tb.toNat
  let x := s.port port
  let times := now :: (SMap.get [] x.laneReplays lane).filter (fun t => now ≤ t + 1000000)
  let fails := 16 < times.length && s.laneAlive (port / 2) lane
  let s := s.setPort port { x with laneReplays := SMap.set [] x.laneReplays lane (if fails then [] else times) }
  if fails then s.doLaneFailure (port / 2) lane else s

/-- FLIT_CRC_ERROR (10 R329, R332): the flit is resent from the replay buffer; its eighth replay starts a retrain. -/
def State.doCrcError (s : State) (port lane : Nat) : State :=
  let s := s.portCount port 2 1
  let x := s.port port
  let s := s.setPort port { x with replay := x.replay + 1 }
  let s := s.blameLane port lane
  if 7 ≤ x.replay && s.linked port && !(s.port port).training then s.retrain port else s

def execFlitCrcError (port lane : Nat) (s : State) : Host.Outcome State Fault Refusal :=
  command (.flitCrcError port lane) 
    (s.linked port && !(s.port port).training && s.carries port lane) s
    (State.portsChanged s (s.doCrcError port lane))

/-- FABRIC_RETRAIN_FAILURE (10 R332): the third within a second makes the port FAILED and discards and counts the
flits that its replay buffer still holds; before that the link retrains again. What waited to be sent is discarded
with them (log entry 18). -/
def State.doRetrainFailure (s : State) (port : Nat) (withinSecond : Bool) : State :=
  let n := if withinSecond then (s.port port).retrainFails + 1 else 1
  if 3 ≤ n then
    let s := s.acknowledge port
    (s.portCount port 4 (s.port port).unacked.length).portDown port 4
  else (s.setPort port { s.port port with retrainFails := n }).retrain port

def execFabricRetrainFailure (port : Nat) (withinSecond : Bool) (s : State) : Host.Outcome State Fault Refusal :=
  command (.fabricRetrainFailure port withinSecond) (s.port port).training s
    (State.portsChanged s (s.doRetrainFailure port withinSecond))

/-- Whether a link can be retrained: it carries flits, has failed, or was refused. -/
def State.canRetrain (s : State) (port : Nat) : Bool := s.b F.portCtrl_ENABLE port && s.f F.portStatus_STATE port != 0

/-- Writing RETRAIN: a link in service retrains, any other trains anew. -/
def State.askRetrain (s : State) (port : Nat) : State :=
  if !s.canRetrain port then s
  else if s.linked port then (if (s.port port).training then s else s.retrain port)
  else s.setF F.portStatus_STATE port 1

/-- A write of BXF_PORT_CTRL (10 R331, R372). -/
def State.writePortCtrl (s : State) (port : Nat) (v : W32) : State :=
  let was := s.b F.portCtrl_ENABLE port
  let t := s.code .portCtrl port v
  if bitsOf v 0 1 == 0 then
    if was then ((t.portDown port 0).setF F.portStatus_PEER_VALID port 0).setF F.portStatus_PEER port 0 else t
  else
    let t := if was then t else t.setF F.portStatus_STATE port 1
    if bitsOf v 1 1 == 1 && was then t.askRetrain port else t

/-- PORT_ENABLE (10 R331). -/
def execPortEnable (port : Nat) (v : W32) (s : State) : Host.Outcome State Fault Refusal :=
  command (.portEnable port v) (bitsOf v 0 1 == 1) s
    (State.portsChanged s (s.writePortCtrl port v))

/-- PORT_RETRAIN (10 R372). -/
def execPortRetrain (port : Nat) (v : W32) (s : State) : Host.Outcome State Fault Refusal :=
  command (.portRetrain port v) (bitsOf v 1 1 == 1) s
    (State.portsChanged s (s.writePortCtrl port v))

/-! ### Training (10 R331) -/

/-- A retrain ends: the flits not acknowledged are resent and what waited follows (10 R329). -/
def State.sendQueued (s : State) (port : Nat) : State :=
  (s.setPort port { s.port port with training := false, replay := 0, retrainFails := 0 }).pump port

/-- A DLYREQ leaves on a port, which stamps T1 (10 R361). -/
def State.sendDelay (s : State) (port : Nat) : State :=
  s.transmit port { Msg.empty with
    vc := 0, type := 0x02, snode := s.snode, hops := BitVec.ofNat 5 s.hopLimit, head := zeros 8 }

/-- Whether the peer check fails. -/
def State.miswired (s : State) (port : Nat) (peer : Option W16) : Bool :=
  s.b F.portCfg_EXPECT_VALID port &&
    (match peer with
     | some n => n.toNat != s.f F.portCfg_EXPECT_PEER port
     | none => false)

/-- The node a peer reports. -/
def State.notePeer (s : State) (port : Nat) (peer : Option W16) : State :=
  (s.setF F.portStatus_PEER port ((peer.map BitVec.toNat).getD 0)).setF F.portStatus_PEER_VALID port
    (if peer.isSome then 1 else 0)

/-- TRAINING_COMPLETE's effect: REFUSED, or up at the smaller of the two ends' widths. -/
def State.doTrained (s : State) (port : Nat) (peer : Option W16) (peerLanes : Nat) (delay : W16) : State :=
  let s := s.notePeer port peer
  if s.miswired port peer then
    let s := (s.portDown port 5).notePeer port peer
    s.setF F.portFlags_MISWIRED port 1
  else
    let anew := !s.linked port
    let w := min (s.ownLanes port) peerLanes
    let s := (s.setF F.portStatus_STATE port (if w == 16 then 2 else 3)).setF F.portStatus_WIDTH port (if w == 16 then 2 else 1)
    let s := s.setF F.portDelay_DELAY port delay.toNat
    let s := (s.setPort port { s.port port with peerLanes := peerLanes }).sendQueued port
    if anew then s.sendDelay port else s

/-- TRAINING_COMPLETE (10 R331). -/
def execTrainingComplete (port : Nat) (peer : Option W16) (peerLanes : Nat) (delay : W16) (s : State) :
    Host.Outcome State Fault Refusal :=
  command (.trainingComplete port peer peerLanes delay)
    ((s.f F.portStatus_STATE port == 1 || (s.port port).training) && !s.b F.clkStatus_SAFE 0 && (peerLanes == 8 || peerLanes == 16) &&
      s.ownLanes port != 0)
    s (State.portsChanged s (s.doTrained port peer peerLanes delay))

/-- TRAINING_RETRY (10 R331). -/
def execTrainingRetry (port : Nat) (s : State) : Host.Outcome State Fault Refusal :=
  command (.trainingRetry port)
    (s.b F.portCtrl_ENABLE port && (s.f F.portStatus_STATE port == 1 || s.f F.portStatus_STATE port == 5))
    s (State.portsChanged s (s.setF F.portStatus_STATE port 1))

/-- VC0_WAIT_CLEAR (10 R372). -/
def execVc0WaitClear (port : Nat) (v : W32) (s : State) : Host.Outcome State Fault Refusal :=
  command (.vc0WaitClear port v) (bitsOf v 31 1 == 1) s (s.setF F.portVc0Wait_MAX port 0)

/-! ### Route table, keys, span windows (10 R356, R369, R370) -/

/-- A write of ROUTE_DATA: the selected entry whole (10 R369). -/
def State.writeRoute (s : State) (v : W32) : State :=
  let t := s.code .bxfCtlRouteData (s.f F.bxfCtlRouteSel_DNODE 0) v
  if t.regs == s.regs then s else t.ploro t.ras.tables

/-- ROUTE_DATA_WRITE (10 R369). -/
def execRouteDataWrite (v : W32) (s : State) : Host.Outcome State Fault Refusal :=
  command (.routeDataWrite v) true s (s.writeRoute v)

/-- Whether a key write is refused: an SKEY of 0, or one enabled elsewhere (10 R370). -/
def State.keyRefused (s : State) (n : Nat) (v : W32) : Bool :=
  bitsOf v 12 1 == 1 &&
    (bitsOf v 0 12 == 0 ||
      (List.range 64).any (fun k => k != n && s.b F.bxfCtlPkey_ENABLE k && s.f F.bxfCtlPkey_SKEY k == bitsOf v 0 12))

/-- A write of BXF_CTL_PKEYn (10 R370). -/
def State.writeKey (s : State) (n : Nat) (v : W32) : State :=
  if s.keyRefused n v then (s.setF F.bxfCtlFlags_PKEY_DUP 0 1).setF F.bxfCtlFlags_WRITE_IGNORED 0 1
  else
    let t := s.code .bxfCtlPkey n v
    if t.regs == s.regs then s else t.ploro [n]

/-- PKEY_WRITE (10 R370). -/
def execPkeyWrite (n : Nat) (v : W32) (s : State) : Host.Outcome State Fault Refusal :=
  command (.pkeyWrite n v) true s (s.writeKey n v)

/-- Whether a window may be valid (10 R356). -/
def State.spanOk (s : State) (n : Nat) (b : W32) : Bool :=
  let m := bitsOf b 0 4
  1 ≤ m && m ≤ 12 && 16 ≤ bitsOf b 4 5 && bitsOf b 4 5 ≤ 30 &&
    s.f F.bxfCtlSpanwinA_BASE_NODE n + 2 ^ m - 1 ≤ 0xFFFE && s.nodeId != some (s.f F.bxfCtlSpanwinA_SNODE n)

/-- A write of a word of a span window (10 R356). -/
def State.writeSpan (s : State) (n : Nat) (wordB : Bool) (v : W32) : State :=
  if s.b F.bxfCtlSpanwinB_VALID n then s.setF F.bxfCtlFlags_WRITE_IGNORED 0 1
  else if !wordB then s.code .bxfCtlSpanwinA n v
  else if bitsOf v 31 1 == 1 && !s.spanOk n v then s.setF F.bxfCtlFlags_SPAN_BAD 0 1
  else
    let t := s.code .bxfCtlSpanwinB n v
    if bitsOf v 31 1 == 1 then t.ploro t.ras.tables else t

/-- SPAN_WINDOW_WRITE (10 R356). -/
def execSpanWindowWrite (n : Nat) (wordB : Bool) (v : W32) (s : State) : Host.Outcome State Fault Refusal :=
  command (.spanWindowWrite n wordB v) true s (s.writeSpan n wordB v)

/-! ### Barriers of a span (10 R357 to R359, R373, R374) -/

/-- The round count of a unit (10 R359). -/
def State.round (s : State) (b : Nat) : W64 := s.pair .barRoundLo .barRoundHi b

/-- A barrier message: its unit's number and round in PARAM, the key of the owner (10 R334, R357). -/
def State.barSend (s : State) (b node type : Nat) : State :=
  if s.nodeId.isNone then s
  else
    let m := { Msg.empty with
      vc := 0, type := BitVec.ofNat 6 type, dnode := BitVec.ofNat 16 node, snode := s.snode,
      hops := BitVec.ofNat 5 s.hopLimit
      skey := BitVec.ofNat 12 (s.f F.bxfCtlPkey_SKEY (s.f F.barOwner_PARTITION b))
      param := BitVec.ofNat 32 (b + (s.round b).toNat % 2 ^ 16 * 2 ^ 16) }
    match s.sendTo m with
    | some t => t
    | none => s.ctlCount 3

/-- The nodes of a unit's children. -/
def State.barChildren (s : State) (b : Nat) : List Nat :=
  (List.range (min 8 (s.f F.barCfg_CHILDREN b))).map (fun k =>
    if k % 2 == 0 then s.f F.barChild_CHILD_LO (4 * b + k / 2) else s.f F.barChild_CHILD_HI (4 * b + k / 2))

/-- The release word written with the advanced count, as a non-allocating write (10 R358). A word that
does not translate is not written. -/
def State.writeRelease (s : State) (b : Nat) (n : W64) : State :=
  let a := s.pair .barRwordLo .barRwordHi b
  match s.lineOf (s.f F.barOwner_PARTITION b) 2 (BitVec.ofNat 64 (a.toNat / 8 * 8)) .store with
  | .error _ => s
  | .ok (l, s) =>
    match s.naWrite l (a.toNat / 8 * 8 % 128) (leBytes 8 n.toNat) with
    | .ok s => s
    | .error _ => s

/-- The round is released: children told, the count advanced and written, the counts cleared, held
arrivals counted into the next round (10 R357, R358). -/
def State.barRelease (s : State) (b : Nat) : State :=
  let s := (s.barChildren b).foldl (fun s n => s.barSend b n 5) s
  let n := s.round b + 1
  let early := SMap.get 0 s.fab.early b
  let take := min early (s.f F.barCfg_LOCAL b)
  let s := (s.setPair .barRoundLo .barRoundHi b n).setF F.barStatus_ROUND b (n.toNat % 2 ^ 16)
  let s := ((s.setF F.barStatus_LCOUNT b take).setF F.barStatus_CCOUNT b 0).setF F.barStatus_UP b 0
  let s := { s with fab := { s.fab with early := SMap.set 0 s.fab.early b (early - take) } }
  s.writeRelease b n

/-- Whether a round's counts are reached. A root that counts nothing completes no round. -/
def State.barFull (s : State) (b : Nat) : Bool :=
  s.b F.barCfg_ENABLE b && !(s.b F.barCfg_ROOT b && s.f F.barCfg_LOCAL b + s.f F.barCfg_CHILDREN b == 0) &&
    s.f F.barCfg_LOCAL b ≤ s.f F.barStatus_LCOUNT b &&
    s.f F.barCfg_CHILDREN b ≤ s.f F.barStatus_CCOUNT b

/-- The rounds that are complete: BARRIVE to the parent, or at the root the release; held arrivals may
complete further rounds, at most `fuel`. -/
def State.barCheck : Nat → Nat → State → State
  | 0, _, s => s
  | fuel + 1, b, s =>
    if !s.barFull b || s.b F.barStatus_UP b then s
    else if s.b F.barCfg_ROOT b then State.barCheck fuel b (s.barRelease b)
    else (s.setF F.barStatus_UP b 1).barSend b (s.f F.barCfg_PARENT b) 4

/-- Rounds that held arrivals can complete, and the one in progress. -/
def State.barRounds (s : State) (b : Nat) : Nat := SMap.get 0 s.fab.early b + 1

/-- Completes what can be completed. -/
def State.barSettle (s : State) (b : Nat) : State := State.barCheck (s.barRounds b) b s

/-- One local arrival: counted, or held for the next round once LOCAL is reached (10 R358). -/
def State.barArrived (s : State) (b : Nat) : State :=
  let l := s.f F.barStatus_LCOUNT b
  if l < s.f F.barCfg_LOCAL b then (s.setF F.barStatus_LCOUNT b (l + 1)).barSettle b
  else { s with fab := { s.fab with early := SMap.set 0 s.fab.early b (SMap.get 0 s.fab.early b + 1) } }

/-- Whether a store of a partition to an arrival register counts (10 R374). -/
def State.arrivalOk (s : State) (part b : Nat) : Bool := s.f F.barOwner_PARTITION b == part && s.b F.barCfg_ENABLE b

/-- A 4-byte store to arrival register b of a partition; any other is dropped (10 R374). -/
def State.partArrive (s : State) (part b : Nat) : State := if s.arrivalOk part b then s.barArrived b else s

/-- BXF_ARRIVE (10 R374). -/
def execBxfArrive (who : Issuer) (b : Nat) (v : W32) (s : State) : Host.Outcome State Fault Refusal :=
  command (.bxfArrive who b v) (s.group? who).isSome s
    (match s.group? who with
     | some g => s.partArrive g.part b
     | none => s)

/-- BXF_BAR_ARRIVE (10 R357, R373): a unit out of service counts nothing. -/
def execBxfBarArrive (b : Nat) (v : W32) (s : State) : Host.Outcome State Fault Refusal :=
  command (.bxfBarArrive b v) true s (if s.b F.barCfg_ENABLE b then s.barArrived b else s)

/-- A write of a BXF_BAR register that ENABLE holds: ignored when it would change a field (10 R373). -/
def State.writeBarHeld (s : State) (r : Reg) (b i : Nat) (v : W32) : State :=
  let t := s.code r i v
  if !s.b F.barCfg_ENABLE b || t.rget r i == s.rget r i then t else s.setF F.bxfCtlFlags_WRITE_IGNORED 0 1

/-- A write of BXF_BAR_CFG (10 R373): setting ENABLE clears the counts and the round count. -/
def State.writeBarCfg (s : State) (b : Nat) (v : W32) : State :=
  if s.b F.barCfg_ENABLE b then
    let old := (s.rget .barCfg b).toNat % 2 ^ 31
    let t := s.setF F.barCfg_ENABLE b (bitsOf v 31 1)
    if v.toNat % 2 ^ 31 == old then t else t.setF F.bxfCtlFlags_WRITE_IGNORED 0 1
  else
    let t := s.code .barCfg b v
    if bitsOf v 31 1 == 0 then t
    else
      let t := ((t.setF F.barStatus_LCOUNT b 0).setF F.barStatus_CCOUNT b 0).setF F.barStatus_UP b 0
      let t := (t.setPair .barRoundLo .barRoundHi b 0).setF F.barStatus_ROUND b 0
      { t with fab := { t.fab with early := SMap.set 0 t.fab.early b 0 } }.barSettle b

/-- BARRIER_UNIT_ENABLE (10 R373). -/
def execBarrierUnitEnable (b : Nat) (v : W32) (s : State) : Host.Outcome State Fault Refusal :=
  command (.barrierUnitEnable b v) (bitsOf v 31 1 == 1) s (s.writeBarCfg b v)

/-- Whether a unit accepts a barrier message: it is in service and the key is its owner's (10 R357). -/
def State.barAccepts (s : State) (m : Msg) (b : Nat) : Bool :=
  s.b F.barCfg_ENABLE b && s.b F.bxfCtlPkey_ENABLE (s.f F.barOwner_PARTITION b) &&
    m.skey.toNat == s.f F.bxfCtlPkey_SKEY (s.f F.barOwner_PARTITION b)

/-- A barrier message for its unit: another round than the unit's own is discarded and sets ERR. -/
def State.barMessage (s : State) (m : Msg) (act : Nat → State) : State :=
  let b := m.param.toNat % 64
  if !s.barAccepts m b then s
  else if m.param.toNat / 2 ^ 16 != (s.round b).toNat % 2 ^ 16 then s.setF F.barStatus_ERR b 1
  else act b

/-- A child's arrival (10 R357). -/
def State.childArrived (s : State) (b : Nat) : State :=
  (s.setF F.barStatus_CCOUNT b (min 15 (s.f F.barStatus_CCOUNT b + 1))).barSettle b

def execBarrive (port : Nat) (m : Msg) (s : State) : Host.Outcome State Fault Refusal :=
  fromPort (.barrive port m) s port m 0x04 (fun s => some (s.barMessage m (fun b => s.childArrived b)))

/-- The parent's release (10 R357). -/
def execBrelease (port : Nat) (m : Msg) (s : State) : Host.Outcome State Fault Refusal :=
  fromPort (.brelease port m) s port m 0x05 (fun s => some (s.barMessage m (fun b => (s.barRelease b).barSettle b)))

end Sys2Proof.Machine
end

