-- ==== Sys2Proof/Machine/Marks.lean ====
section
/-!
DEFINITION. Beat marks and the beat master (10 R360 to R364, 11 R375 to R382, 17 R573), link delays (10
R361), and the gravity digest's messages (10 R366).
-/
namespace Sys2Proof.Machine

/-! ### Marks on their way (10 R336, R360, R362; 17 R573) -/

/-- Bytes 16 to 35 of a MARK (10 R336). -/
def markBytes (b : MarkBody) : List Byte :=
  leBytes 8 b.tbSend.toNat ++ leBytes 4 b.beatLen.toNat ++ leBytes 2 b.master.toNat ++ leBytes 1 b.rank ++
    leBytes 1 b.mhops ++ leBytes 4 b.mepoch.toNat

/-- The fields of those bytes. -/
def markOf (d : List Byte) : MarkBody :=
  let n (at' k : Nat) : Nat := leNat ((d.drop at').take k)
  { tbSend := BitVec.ofNat 64 (n 0 8), beatLen := BitVec.ofNat 32 (n 8 4), master := BitVec.ofNat 16 (n 12 2),
    rank := n 14 1, mhops := n 15 1, mepoch := BitVec.ofNat 32 (n 16 4) }

/-- A frame of BEAT_OUT (17 R573). -/
def markFrame (b : MarkBody) : List Byte :=
  [0x55, 0x55, 0x55, 0x55, 0xD5] ++ markBytes b ++ leBytes 8 (crc64 (markBytes b)).toNat

/-- The mark of a frame on BEAT_IN; none where start or CRC fails (17 R573). -/
def frameMark (f : List Byte) : Option MarkBody :=
  let d := (f.drop 5).take 20
  if f.length == 33 && f.take 5 == [0x55, 0x55, 0x55, 0x55, 0xD5] && f.drop 25 == leBytes 8 (crc64 d).toNat then
    some (markOf d)
  else none

/-- A mark leaves on a port, which writes TB_SEND (10 R334, R336, R360). -/
def State.sendMark (s : State) (b : MarkBody) (port : Nat) : State :=
  s.transmit port { Msg.empty with
    vc := 0, type := 0x01, snode := s.snode, hops := BitVec.ofNat 5 s.hopLimit, head := markBytes b }

/-- A mark on every up port with MARKS 1 but one, and on BEAT_OUT (10 R360, R362; 17 R573). -/
def State.spreadMark (s : State) (b : MarkBody) (but : Option Nat) : State :=
  let ports := (List.range 8).filter (fun p => some p != but && s.portUp p && s.b F.portCfg_MARKS p)
  let s := (ports.foldl (fun s p => s.sendMark b p) s).tick
  s.emit (.beatOut (markFrame { b with tbSend := s.tun.tb }))

/-! ### Which marks are accepted (10 R362, R364) -/

/-- A signed number in a field of n bits. -/
def signedField (n : Nat) (x : Int) : Nat := (BitVec.ofInt n x).toNat

/-- The marks followed state. -/
def State.setMark (s : State) (m : MarkSt) : State := { s with fab := { s.fab with mark := m } }

def State.isMaster (s : State) : Bool := s.f F.bxfCtlBeatStatus_STATE 0 == 4

/-- Missing marks before HOLDOVER: values below 2 act as 2 (10 R368). -/
def State.missLimit (s : State) : Nat := max 2 (s.f F.bxfCtlBeatCfg_MISS_LIMIT 0)

/-- Whether the parent has missed two consecutive marks (10 R362). -/
def State.parentLost (s : State) : Bool := s.fab.mark.parent.isSome && 3 ≤ s.fab.mark.misses

/-- The run of a port's marks that could make it the parent: marks of a lower rank than the current
master's, or any marks once the parent is lost. -/
def State.markRun (s : State) (port : Nat) (b : MarkBody) : Nat :=
  let known := s.isMaster || s.fab.mark.parent.isSome
  if known && (b.rank < s.f F.bxfCtlBeatStatus_RANK 0 || s.parentLost) then
    match SMap.find s.fab.mark.offers port with
    | some o => if o.run != 0 && s.beat ≤ o.beat + 1 then o.run + 1 else 1
    | none => 1
  else 0

/-- Whether a port's offer is the best among those of this beat and the last: lowest RANK, then MHOPS,
then port (10 R362). -/
def State.bestOffer (s : State) (port : Nat) (b : MarkBody) : Bool :=
  s.fab.mark.offers.all (fun e => e.1 == port || e.2.run == 0 || e.2.beat + 1 < s.beat ||
    b.rank < e.2.rank || (b.rank == e.2.rank &&
      (b.mhops < e.2.mhops || (b.mhops == e.2.mhops && port < e.1))))

/-- Whether a mark is accepted: from the parent, from anyone while there is none, or as the second of a
run that changes the parent (10 R362, R364; log entry 36). -/
def State.accepts (s : State) (port : Nat) (b : MarkBody) (run : Nat) : Bool :=
  if s.isMaster then 2 ≤ run && s.bestOffer port b
  else
    s.fab.mark.parent.isNone || s.fab.mark.parent == some port || (2 ≤ run && s.bestOffer port b)

/-! ### What an accepted mark does (11 R379 to R381) -/

/-- round(o / 16), ties a free choice, clamped to LEN / 1024 (11 R379, log entry 35). -/
def State.slew (s : State) (o : Int) : Int × State :=
  let q := o.fdiv 16
  let r := o.fmod 16
  let (up, s) := if r == 8 then (s.draw.1.getLsbD 0, s.draw.2) else (8 < r, s)
  let c := if up then q + 1 else q
  let lim : Int := s.len / 1024
  (max (-lim) (min lim c), s)

/-- LOCKED after eight small offsets; it clears on a large one (11 R381). -/
def State.judgeLock (s : State) (o : Int) : State :=
  let n := if o.natAbs ≤ 16 then s.fab.mark.locks + 1 else 0
  let s := s.setMark { s.fab.mark with locks := n }
  if 64 < o.natAbs then (s.setF F.beatStatus_LOCKED 0 0).setF F.beatFlags_UNLOCKED 0 1
  else if 8 ≤ n then s.setF F.beatStatus_LOCKED 0 1
  else s

/-- Whether some partition other than 0 is enabled. -/
def State.anyPart (s : State) : Bool := (List.range 64).any (fun p => p != 0 && s.b F.partCfg_ENABLE p)

/-- The correction that an offset asks for while marks are followed (11 R378 to R380): direct setting, slew,
forward step at the next boundary, or hold. A hold only lengthens a beat. -/
def State.correct (s : State) (o : Int) (timeline : W64) (first : Bool) : State :=
  if first && !s.anyPart then
    let s := s.setF F.beatFlags_STEPPED 0 1
    { s with tun := { s.tun with tb := timeline, num := BitVec.ofNat 64 (timeline.toNat / s.len) } }
  else if o.natAbs ≤ 1024 then
    let (c, s) := s.slew o
    s.setMark { s.fab.mark with slew := c }
  else
    let s := s.setF F.beatFlags_STEPPED 0 1
    if 0 < o then s.setMark { s.fab.mark with step := o.toNat } else s.setMark { s.fab.mark with hold := true }

/-- The registers and counts of an accepted mark. -/
def State.noteMark (s : State) (port : Nat) (b : MarkBody) (o : Int) : State :=
  let x := s.fab.mark
  let changed := s.f F.bxfCtlBeatStatus_STATE 0 != 2 || s.f F.bxfCtlBeatStatus_MASTER 0 != b.master.toNat
  let s := s.setMark { x with
    parent := some port, misses := 0, seen := true, ever := true, followed := if changed then 0 else x.followed
    offers := if x.parent == some port then x.offers else [] }
  let s := (s.setF F.bxfCtlBeatStatus_STATE 0 2).setF F.bxfCtlBeatStatus_PARENT 0 port
  let s := (s.setF F.bxfCtlBeatStatus_RANK 0 b.rank).setF F.bxfCtlBeatStatus_MASTER 0 b.master.toNat
  let s := s.rset .bxfCtlBeatEpoch 0 b.mepoch
  (s.setF F.bxfCtlBeatOffset_OFFSET 0 (signedField 16 o)).setF F.bxfCtlBeatOffset_MHOPS 0 b.mhops

/-- The rank of this device among the candidates (10 R363). -/
def State.ownRank (s : State) : Option Nat :=
  match s.nodeId with
  | none => none
  | some me => (List.range 8).find? (fun r => s.b F.bxfCtlBmaster_VALID r && s.f F.bxfCtlBmaster_NODE r == me)

/-- A mark accepted: its offset corrects TIMEBASE, and it goes on once (10 R362; 11 R379). -/
def State.acceptMark (s : State) (port : Nat) (b : MarkBody) (arrival : W64) : State :=
  let delay := if port == 8 then s.f F.beatInDelay_DELAY 0 else s.f F.portDelay_DELAY port
  let timeline := b.tbSend + BitVec.ofNat 64 delay
  let o := (timeline - arrival).toInt
  let first := !s.fab.mark.ever
  let below := s.ownRank.any (fun r => b.rank < r)
  let s := s.noteMark port b o
  let s := if below then s.setMark { s.fab.mark with lower := 0 } else s
  let s := if s.b F.beatCtrl_SOURCE 0 then (s.judgeLock o).correct o timeline first else s
  if b.mhops < s.f F.bxfCtlBeatCfg_MARK_HOPS_MAX 0 then s.spreadMark { b with mhops := b.mhops + 1 } (some port) else s

/-- A mark that arrives on a port or on BEAT_IN (8): ignored when its MASTER is this node or its length
differs, else noted, and accepted where R362 says so. -/
def State.takeMark (s : State) (port : Nat) (b : MarkBody) (arrival : W64) : State :=
  if s.nodeId == some b.master.toNat then s
  else if b.beatLen.toNat != s.len then s.setF F.bxfCtlBeatStatus_LENMISMATCH 0 1
  else
    let x := s.fab.mark
    let run := s.markRun port b
    let ok := s.accepts port b run
    let s := s.setMark { x with
      offers := SMap.put x.offers port ⟨s.beat, b.rank, b.mhops, run⟩
      highEpoch := if x.highEpoch.toNat < b.mepoch.toNat then b.mepoch else x.highEpoch }
    if ok then s.acceptMark port b arrival
    else if s.f F.bxfCtlBeatStatus_STATE 0 == 3 then s.setF F.bxfCtlBeatStatus_STATE 0 1
    else s

/-- A mark or a delay message of its port: counted, and none on a wrong channel or of a reserved TYPE (10 R335). -/
def State.linkMessage (s : State) (port : Nat) (m : Msg) (act : State → State) : State :=
  let s := s.portCount port 1 m.flits
  if m.vcOf != some m.vc then s.portCount port 5 1 else act s

/-- MARK (10 R362): a port with MARKS 0 accepts none. -/
def execBeatMark (port : Nat) (m : Msg) (arrival : W64) (s : State) : Host.Outcome State Fault Refusal :=
  command (.beatMark port m arrival) (s.comesIn port m 0x01) s
    (s.linkMessage port m (fun t => if t.b F.portCfg_MARKS port then t.takeMark port (markOf m.head) arrival else t))

/-- BEAT_IN_FRAME (17 R573): a frame whose CRC fails is discarded. -/
def execBeatInFrame (frame : List Byte) (arrival : W64) (s : State) : Host.Outcome State Fault Refusal :=
  command (.beatInFrame frame arrival) true s
    (match frameMark frame with
     | some b => s.takeMark 8 b arrival
     | none => s)

/-! ### Marks at a boundary (10 R360, R361, R363, R364; 11 R381) -/

/-- This device becomes master: its epoch is one above the highest it has seen (10 R363, R364). -/
def State.becomeMaster (s : State) (r : Nat) : State :=
  let e := s.fab.mark.highEpoch + 1
  let s := s.setMark { s.fab.mark with parent := none, misses := 0, followed := 0, highEpoch := e, offers := [] }
  let s := (s.setF F.bxfCtlBeatStatus_STATE 0 4).setF F.bxfCtlBeatStatus_PARENT 0 15
  ((s.setF F.bxfCtlBeatStatus_RANK 0 r).setF F.bxfCtlBeatStatus_MASTER 0 (s.nodeId.getD 0xFFFF)).rset .bxfCtlBeatEpoch 0 e

/-- A follower's count of boundaries without an accepted mark, HOLDOVER at the limit (10 R363). -/
def State.missMark (s : State) : State :=
  let x := s.fab.mark
  let st := s.f F.bxfCtlBeatStatus_STATE 0
  if x.parent.isNone || st == 4 then s
  else
    let s := if !x.seen && st == 2 then s.ctlCount 5 else s
    let s := s.setMark { x with misses := x.misses + 1, followed := if st == 2 then x.followed + 1 else 0 }
    if s.missLimit ≤ x.misses + 1 && (st == 1 || st == 2) then
      let s := s.setMark { s.fab.mark with locks := 0 }
      ((s.setF F.bxfCtlBeatStatus_STATE 0 3).setF F.beatStatus_LOCKED 0 0).setF F.beatFlags_UNLOCKED 0 1
    else s

/-- Whether a candidate takes over: nobody of a lower rank for long enough and no master followed, or the
hand-back of R364. -/
def State.takesOver (s : State) (r : Nat) : Bool :=
  let x := s.fab.mark
  let st := s.f F.bxfCtlBeatStatus_STATE 0
  if st == 4 then false
  else if st == 2 then
    r < s.f F.bxfCtlBeatStatus_RANK 0 && s.b F.bxfCtlBeatCfg_RECLAIM 0 && 65536 ≤ x.followed && s.beat % 65536 == 0
  else s.missLimit + 2 * r ≤ x.lower

/-- A boundary's part of mark following; the master sends its mark. -/
def State.markBoundary (s : State) : State :=
  let s := s.missMark
  let s := s.setMark { s.fab.mark with lower := s.fab.mark.lower + 1, seen := false }
  let s := match s.ownRank with
    | some r => if s.takesOver r then s.becomeMaster r else s
    | none => s
  if s.isMaster then
    s.spreadMark { tbSend := 0, beatLen := BitVec.ofNat 32 s.len, master := s.snode,
                   rank := s.f F.bxfCtlBeatStatus_RANK 0, mhops := 0, mepoch := s.rget .bxfCtlBeatEpoch 0 } none
  else s

/-! ### Link delays (10 R361) -/

/-- A DLYREQ on every up port, every 256 beats. -/
def State.sendDelays (s : State) : State := ((List.range 8).filter s.portUp).foldl State.sendDelay s

/-- DLYREQ (10 R361). -/
def execDlyreq (port : Nat) (m : Msg) (t2 t3 : W64) (s : State) : Host.Outcome State Fault Refusal :=
  command (.dlyreq port m t2 t3) (s.comesIn port m 0x02) s
    (s.linkMessage port m (fun s => s.transmit port { Msg.empty with
      vc := 0, type := 0x03, dnode := m.snode, snode := s.snode, tag := m.tag, hops := BitVec.ofNat 5 s.hopLimit
      head := leBytes 8 (m.word 0).toNat ++ leBytes 8 t2.toNat ++ leBytes 8 t3.toNat }))

/-- The delay of a response, (T4 − T1 − (T3 − T2)) / 2, recorded for the request it answers. -/
def State.noteDelay (s : State) (port : Nat) (m : Msg) (t4 : W64) : State :=
  if (s.port port).t1 == some (m.word 0) then
    let d := ((t4 - m.word 0) - (m.word 16 - m.word 8)).toNat / 2
    (s.setPort port { s.port port with t1 := none }).setF F.portDelay_DELAY port (d % 2 ^ 16)
  else s

/-- DLYRSP (10 R361). -/
def execDlyrsp (port : Nat) (m : Msg) (t4 : W64) (s : State) : Host.Outcome State Fault Refusal :=
  command (.dlyrsp port m t4) (s.comesIn port m 0x03) s
    (State.portsChanged s (s.linkMessage port m (fun s => s.noteDelay port m t4)))

/-! ### The digest on its way (10 R366) -/

/-- A collector's record of a node's digest: 64 bytes at DIGEST_BASE + 64 × SNODE. -/
def State.collectDigest (s : State) (snode : Nat) (beat : W64) (d : List Byte) : State :=
  if !s.b F.bxfCtlDigestBaseLo_ENABLE 0 then s.setF F.bxfCtlFlags_DIGEST_DROP 0 1
  else
    let base := s.f F.bxfCtlDigestBaseHi_ADDR 0 * 2 ^ 32 + s.f F.bxfCtlDigestBaseLo_ADDR 0 * 2 ^ 22
    let a := BitVec.ofNat 64 (base + 64 * snode)
    match s.lineOf 0 2 a .store with
    | .error _ => s
    | .ok (l, s) =>
      match s.naWrite l (a.toNat % 128) (leBytes 8 beat.toNat ++ leBytes 8 snode ++ d.take 32 ++ zeros 16) with
      | .ok s => s
      | .error _ => s

/-- DIGEST (10 R366). -/
def execDigestMsg (port : Nat) (m : Msg) (s : State) : Host.Outcome State Fault Refusal :=
  fromPort (.digestMsg port m) s port m 0x06 (fun s =>
    some (s.collectDigest m.snode.toNat (m.word 0) ((m.head.drop 8).take 32)))

/-- The digest sent to one collector: this device may be its own. -/
def State.sendDigest (s : State) (n : Nat) (beat : W64) (d : List Byte) : State :=
  let node := s.f F.bxfCtlColl_NODE n
  if !s.b F.bxfCtlColl_VALID n then s
  else if s.nodeId == some node then s.collectDigest node beat d
  else if s.nodeId.isNone then s
  else
    match s.sendTo { Msg.empty with
        vc := 0, type := 0x06, dnode := BitVec.ofNat 16 node, snode := s.snode, hops := BitVec.ofNat 5 s.hopLimit,
        head := leBytes 8 beat.toNat ++ d } with
    | some t => t
    | none => s.ctlCount 3

/-- DIGEST_COMPUTED (10 R365, R366): SHAKE256 over the captured bytes, 32 bytes of output. -/
def State.doDigest (s : State) : State :=
  match s.fab.digest with
  | none => s
  | some (bytes, beat) =>
    let d := (Config.shake256 32 bytes).take 32
    let s := { s with fab := { s.fab with digest := none } }
    let s := (List.range 8).foldl (fun s k => s.rset .bxfCtlDigest k (BitVec.ofNat 32 (leNat ((d.drop (4 * k)).take 4)))) s
    let s := (s.rset .bxfCtlDigestBeat 0 (beat.truncate 32)).rset .bxfCtlDigestBeat 1 ((beat >>> 32).truncate 32)
    [0, 1].foldl (fun s n => s.sendDigest n beat d) s

def execDigestComputed (s : State) : Host.Outcome State Fault Refusal :=
  command .digestComputed s.fab.digest.isSome s s.doDigest

end Sys2Proof.Machine
end

