-- ==== Sys2Proof/Machine/Pcie.lean ====
section
/-!
DEFINITION. The PCIe endpoint (12 R413 to R421, R435, R440 to R442; 17 R572): the windows into Global
space, function resets, VF Enable, the link, DOE, IDE, and invalidations of translations.
-/
namespace Sys2Proof.Machine

/-! ### Windows (12 R418 to R421) -/

/-- The bytes of a function's window (12 R418). -/
def State.windowSize (s : State) (fn : Nat) : Nat := 2 ^ SMap.get 28 s.host.windowLog fn

/-- The window's base, whose bits below its size read as zero (12 R420). -/
def State.windowBase (s : State) (fn : Nat) : Nat :=
  (s.pair .fnWinBaseLo .fnWinBaseHi fn).toNat / s.windowSize fn * s.windowSize fn

/-- The partition bound to a virtual function (11 R383). -/
def State.boundPart (s : State) (fn : Nat) : Option Nat :=
  (List.range 64).find? (fun p => p != 0 && s.b F.partCfg_ENABLE p && s.instanceOf p == fn)

/-- The line of a window offset (12 R420). The error is a fault code, 0 for a stall. -/
def State.windowLine (s : State) (fn part ofs : Nat) (u : Use) : Except Nat (Nat × State) :=
  let base := s.windowBase fn
  if fn == 0 then
    if 2 ^ 44 ≤ base then .error 0x0212
    else
      let a := base + ofs
      let cls := if a < 2 ^ 40 && s.f F.llmRgnDesc_POLICY (regionOf a) == 2 then 1 else 0
      match s.checkOwn cls a u with
      | .at _ => .ok (gLine a, s)
      | .stall => .error 0
      | .fault c => .error c
  else if 2 ≤ base / 2 ^ 60 then .error 0x0211
  else if base / 2 ^ 44 % 2 ^ 16 != 0xFFFF then .error 0x0212
  else s.lineOf part 2 (BitVec.ofNat 64 (base + ofs)) u

/-- An access of `n` bytes cut at line boundaries: window offset and length of each piece. -/
def linePieces : Nat → Nat → Nat → List (Nat × Nat)
  | 0, _, _ => []
  | fuel + 1, ofs, n =>
    if n == 0 then []
    else
      let k := min n (128 - ofs % 128)
      (ofs, k) :: linePieces fuel (ofs + k) (n - k)

/-- PCI_FN_ERR (12 R419, R435): the first event is kept and raises the event vector. -/
def State.noteFnErr (s : State) (fn code ofs : Nat) (write : Bool) : State :=
  if s.b F.fnErr_VALID fn then s.setF F.fnErr_MORE fn 1
  else
    let s := ((s.setF F.fnErr_CODE fn code).setF F.fnErr_WRITE fn (if write then 1 else 0)).setF F.fnErr_VALID fn 1
    (s.setPair .fnErrAddrLo .fnErrAddrHi fn (BitVec.ofNat 64 ofs)).msix fn 0

/-- Whether IDE turns inbound requests away (12 R441; any Secure stream admits them, log entry 37). -/
def State.ideBlocks (s : State) : Bool :=
  s.b F.pciCtlCtrl_IDE_REQUIRE 0 && !s.host.ide.any IdeStream.secure

/-- The partition whose space a function's window shows: 0 for the physical function. -/
def State.windowPart (s : State) (fn : Nat) : Option Nat :=
  if s.ideBlocks then none
  else if fn == 0 then some 0
  else if s.host.vfEnable then s.boundPart fn else none

/-- Whether an access lies in the function's window and reaches the device. -/
def State.windowHit (s : State) (fn ofs len : Nat) : Bool :=
  s.hostUp && len != 0 && ofs + len ≤ s.windowSize fn

/-- The pieces of a read (12 R421). -/
def State.windowGet (fn part : Nat) : List (Nat × Nat) → State → Except Nat (List Byte × State)
  | [], s => .ok ([], s)
  | (ofs, n) :: ps, s =>
    match s.windowLine fn part ofs .load with
    | .error c => .error c
    | .ok (l, s) =>
      match s.naRead l with
      | .error c => .error c
      | .ok (d, s) =>
        match State.windowGet fn part ps s with
        | .error c => .error c
        | .ok (ds, s) => .ok ((d.drop (ofs % 128)).take n ++ ds, s)

/-- The pieces of a write (12 R421). -/
def State.windowPut (fn part : Nat) : List (Nat × Nat) → List Byte → State → Except Nat State
  | [], _, s => .ok s
  | (ofs, n) :: ps, d, s =>
    match s.windowLine fn part ofs .store with
    | .error c => .error c
    | .ok (l, s) =>
      match s.naWrite l (ofs % 128) (d.take n) with
      | .error c => .error c
      | .ok s => State.windowPut fn part ps (d.drop n) s

/-- A read through a window: poisoned data, Completer Abort with the fault recorded, or the data; none
while it stalls. -/
def State.doWindowRead (s : State) (fn ofs len : Nat) : Option State :=
  match s.windowPart fn with
  | none => some (s.emit (.unsupported fn))
  | some p =>
    match State.windowGet fn p (linePieces (len / 128 + 2) ofs len) s with
    | .ok (d, t) => some (t.emit (.readData fn d))
    | .error 0 => none
    | .error 0x0220 => some (s.emit (.poisoned fn))
    | .error c => some ((s.noteFnErr fn c ofs false).emit (.abort fn))

/-- A posted write through a window: applied whole, or dropped whole with the fault recorded (log
entry 38); none while it stalls. -/
def State.doWindowWrite (s : State) (fn ofs : Nat) (d : List Byte) : Option State :=
  match s.windowPart fn with
  | none => some s
  | some p =>
    match State.windowPut fn p (linePieces (d.length / 128 + 2) ofs d.length) d s with
    | .ok t => some t
    | .error 0 => none
    | .error c => some (s.noteFnErr fn c ofs true)

/-- WINDOW_READ (12 R421). -/
def execWindowRead (fn : Nat) (ofs : W64) (len : Nat) (s : State) : Host.Outcome State Fault Refusal :=
  let t := s.doWindowRead fn ofs.toNat len
  command (.windowRead fn ofs len) (s.windowHit fn ofs.toNat len && t.isSome)
    s (t.getD s)

/-- WINDOW_WRITE (12 R421). -/
def execWindowWrite (fn : Nat) (ofs : W64) (data : List Byte) (s : State) : Host.Outcome State Fault Refusal :=
  let t := s.doWindowWrite fn ofs.toNat data
  command (.windowWrite fn ofs data) (s.windowHit fn ofs.toNat data.length && t.isSome)
    s (t.getD s)

/-- PCIE_ATOMICOP (12 R413): Unsupported Request. -/
def execPcieAtomicop (fn : Nat) (ofs : W64) (s : State) : Host.Outcome State Fault Refusal :=
  command (.pcieAtomicop fn ofs) s.hostUp s (s.emit (.unsupported fn))

/-! ### Function resets (12 R416, R417) -/

/-- The ring registers of a context at their reset words; a ring that starts again numbers its commands
afresh. -/
def State.resetRing (s : State) (key : Nat) : State :=
  let s := [Reg.ringCtrl, .ringStatus, .ringBaseLo, .ringBaseHi, .ringTailLo, .ringTailHi, .ringCplLo,
    .ringCplHi, .ringHeadLo, .ringHeadHi].foldl (fun s r => s.rset r key (r.resetWord key)) s
  let r := s.ring key
  let s := [Reg.ringBaseLo, .ringTailLo, .ringCplLo].foldl (fun (s : State) (r : Reg) =>
    { s with lows := SMap.drop s.lows (r.key key) }) s
  s.setRing key { RingSt.reset with base := if r.base == 0 then 0 else r.base + 2 ^ 64 }

/-- A function's PCI_FN registers, MSI-X table and DOE mailbox at reset; its vector count stays. -/
def State.resetFn (s : State) (fn : Nat) : State :=
  let s := [Reg.fnWinBaseLo, .fnWinBaseHi, .fnErr, .fnErrAddrLo, .fnErrAddrHi].foldl
    (fun s r => s.rset r fn (r.resetWord fn)) s
  let s := { s.setFn fn { FnSt.reset with msixCount := (s.fn fn).msixCount } with
    lows := SMap.drop s.lows (Reg.fnWinBaseLo.key fn) }
  { s with host := { s.host with msix := SMap.keep (fun k _ => k / 2048 != fn) s.host.msix } }

/-- Every context of a partition torn down with FAULT 0 (11 R403). -/
def State.stopPart (s : State) (p : Nat) : State :=
  (List.range 16).foldl (fun s c => s.stopIdle p c) s

/-- The rings of a partition reset. -/
def State.resetRings (s : State) (p : Nat) : State :=
  (List.range 16).foldl (fun s c => s.resetRing (16 * p + c)) s

/-- The reset of a virtual function (12 R416). -/
def State.resetVf (s : State) (n : Nat) : State :=
  match s.boundPart n with
  | some p => ((s.stopPart p).resetRings p).resetFn n
  | none => s.resetFn n

/-- VF_FLR (12 R416). -/
def execVfFlr (n : Nat) (s : State) : Host.Outcome State Fault Refusal :=
  command (.vfFlr n) (n != 0 && s.hostUp && s.host.vfEnable) s (s.resetVf n)

/-- The partitions that are enabled. -/
def State.enabledParts (s : State) : List Nat :=
  (List.range 64).filter (fun p => p != 0 && s.b F.partCfg_ENABLE p)

/-- VF Enable cleared: a reset of every virtual function (12 R416). -/
def State.clearVfs (s : State) : State :=
  let s := (List.range 64).foldl (fun s n => if n == 0 then s else s.resetVf n) s
  { s with host := { s.host with vfEnable := false } }

/-- Every context torn down, VF Enable cleared, every function's PCIe state reset (12 R417). The IDE
streams go with the function that carries them (log entry 37). -/
def State.resetPf (s : State) : State :=
  let ps := s.enabledParts
  let s := ps.foldl State.stopPart s
  let s := ps.foldl State.resetRings s
  let s := s.clearVfs.resetFn 0
  { s with host := { s.host with ide := [] } }

/-- PF_FLR (12 R417). -/
def execPfFlr (s : State) : Host.Outcome State Fault Refusal :=
  command .pfFlr s.hostUp s s.resetPf

/-- The vectors of a virtual function, taken when VF Enable is set (12 R435). -/
def State.takeCount (s : State) (n : Nat) : State :=
  if n == 0 then s
  else s.setFn n { s.fn n with msixCount := max 1 (s.f F.pciCtlMsixVf_COUNT n) }

/-- VF_ENABLE_SET (12 R435): RECOVERY enumerates the physical function alone (13 R454). -/
def execVfEnableSet (s : State) : Host.Outcome State Fault Refusal :=
  command .vfEnableSet (s.hostUp && !s.host.vfEnable && !s.boot.recovery) s
    ((List.range 64).foldl State.takeCount { s with host := { s.host with vfEnable := true } })

/-- VF_ENABLE_CLEAR (12 R416). -/
def execVfEnableClear (s : State) : Host.Outcome State Fault Refusal :=
  command .vfEnableClear (s.hostUp && s.host.vfEnable) s s.clearVfs

/-! ### The link (12 R413, R414; 17 R572) -/

/-- The link goes down: outbound requests fail (12 R414), and no IDE stream stays Secure (log entry 37). -/
def State.dropLink (s : State) : State :=
  if !s.host.linkUp then s
  else
    let keys := s.ringKeys.filter s.hostOpen
    let s := { s with host := { s.host with linkUp := false, lanes := 0, rate := 0, ide := [] } }
    keys.foldl State.failHost s

/-- PCIE_LINK_DOWN (12 R414). -/
def execPcieLinkDown (s : State) : Host.Outcome State Fault Refusal :=
  command .pcieLinkDown s.host.linkUp s s.dropLink

/-- Whether the endpoint trains its link (17 R572): PERST_N deasserted, boot step 1 begun, its clock
running, no safe state. -/
def State.trainsLink (s : State) : Bool :=
  !s.boot.perst && s.boot.regulators && 1 ≤ s.boot.step && !s.clk.failed.contains .refclkPcie &&
    !s.b F.clkStatus_SAFE 0 && !s.boot.thermal && !s.host.linkUp

/-- The widths of 12 R413, and its rates in tenths of GT/s. -/
def linkOk (lanes rate : Nat) : Bool :=
  [1, 2, 4, 8].contains lanes && [25, 50, 80, 160, 320].contains rate

/-- PCIE_LINK_UP (17 R572). -/
def execPcieLinkUp (lanes rate : Nat) (s : State) : Host.Outcome State Fault Refusal :=
  reply true (s.trainsLink && linkOk lanes rate) s
    { s with host := { s.host with linkUp := true, lanes := lanes, rate := rate } }

/-! ### Data object exchange and IDE (12 R441, R442) -/

/-- DOE_ABORT (12 R442). -/
def execDoeAbort (fn : Nat) (s : State) : Host.Outcome State Fault Refusal :=
  command (.doeAbort fn) s.hostUp s (s.setFn fn { s.fn fn with doeError := false })

/-- DOE_DISCOVERY (12 R442). -/
def execDoeDiscovery (fn : Nat) (s : State) : Host.Outcome State Fault Refusal :=
  reply (fn < 64) s.hostUp s (s.emit (.doe fn (Config.doeDiscovery fn)))

/-- The keys of a stream. -/
def State.ideStream (s : State) (n : Nat) : Option IdeStream := s.host.ide.find? (fun x => x.stream == n)

/-- A stream's entry replaced. -/
def State.setIde (s : State) (x : IdeStream) : State :=
  { s with host := { s.host with ide := x :: s.host.ide.filter (fun y => y.stream != x.stream) } }

/-- An IDE_KM message: keys programmed, or a programmed stream taken into use. -/
def State.doIdeKm (s : State) (m : IdeMsg) : State :=
  if m.activate then
    match s.ideStream m.stream with
    | some x => s.setIde { x with secure := true }
    | none => s
  else s.setIde ⟨m.stream, m.key, false⟩

/-- IDE_KM (12 R441): one link stream (0) and four selective streams, keyed over a secure session through
the physical function's mailbox. -/
def execIdeKm (m : IdeMsg) (s : State) : Host.Outcome State Fault Refusal :=
  command (.ideKm m) (s.hostUp && s.sec.sessions.contains (.doe 0) && m.stream < 5 &&
      (!m.activate || (s.ideStream m.stream).isSome))
    s (s.doIdeKm m)

/-- IDE_INTEGRITY_FAILURE (12 R441): the stream leaves Secure (log entry 37), and AER logs it. -/
def execIdeIntegrityFailure (stream : Nat) (s : State) : Host.Outcome State Fault Refusal :=
  command (.ideIntegrityFailure stream) (s.host.ide.any (fun x => x.stream == stream && x.secure))
    s
    ({ s with host := { s.host with ide := s.host.ide.map (fun (x : IdeStream) =>
        if x.stream == stream then { x with secure := false } else x) } }.emit (.aer stream))

/-! ### Invalidations (12 R440) -/

/-- A write of TUN_XLAT_INV. GO drops the cached entries in its scope, BUSY until every access that used
one has performed; it is ignored while BUSY. -/
def State.writeXlatInv (s : State) (v : W32) : State :=
  let t := s.code .xlatInv 0 v
  if bitsOf v 30 1 == 0 then t
  else if s.b F.xlatInvStatus_BUSY 0 then t.ignored .xlatInv 0
  else
    let p := t.f F.xlatInv_PARTITION 0
    let one := t.b F.xlatInv_SCOPE 0
    let i := t.f F.xlatInv_INDEX 0
    let t := { t with tun := { t.tun with
      xlat := t.tun.xlat.filter (fun x => x.part != p || (one && x.index / 512 != i))
      inval := (p, t.co.nextCmd) } }
    t.setF F.xlatInvStatus_BUSY 0 1

/-- TRANSLATION_INVALIDATE (12 R440). -/
def execTranslationInvalidate (v : W32) (s : State) : Host.Outcome State Fault Refusal :=
  command (.translationInvalidate v) (bitsOf v 30 1 == 1) s (s.writeXlatInv v)

/-- Whether an access of the invalidated partition, translated before the drop, has still to be performed: a far
operation keeps the line that it was sent to. -/
def State.invalHeld (s : State) : Bool :=
  s.mem.farOps.any (fun o => o.part == s.tun.inval.1 && o.id < s.tun.inval.2)

/-- INVALIDATION_DONE (12 R440). -/
def execInvalidationDone (s : State) : Host.Outcome State Fault Refusal :=
  command .invalidationDone (s.b F.xlatInvStatus_BUSY 0 && !s.invalHeld) s
    ((s.setF F.xlatInvStatus_BUSY 0 0).setF F.xlatInvStatus_DONE 0 1)

end Sys2Proof.Machine
end

