-- ==== Sys2Proof/Machine/Trust.lean ====
section
/-!
DEFINITION. Trust (13 R445 to R474): the Keg and its counters, the signer and the SPDM responder,
firmware images and configuration records, circle keys.
-/
namespace Sys2Proof.Machine

/-! ### The Keg (13 R446 to R448) -/

def KegSlot.reset : KegSlot := ⟨0, true, 0, true⟩

/-- The value of a counter: the larger of the slots whose CRC holds; none when it is unreadable. -/
def KegSlot.value (k : KegSlot) : Option Nat :=
  match k.aOk, k.bOk with
  | true, true => some (max k.a.toNat k.b.toNat)
  | true, false => some k.a.toNat
  | false, true => some k.b.toNat
  | false, false => none

/-- A new value goes into the slot whose CRC fails, else into the smaller one. -/
def KegSlot.write (k : KegSlot) (v : W64) : KegSlot :=
  if !k.aOk || (k.bOk && k.a.toNat ≤ k.b.toNat) then { k with a := v, aOk := true }
  else { k with b := v, bOk := true }

def State.keg (s : State) (n : Nat) : KegSlot := SMap.get KegSlot.reset s.sec.keg n

/-- A counter; 5 to 7 read as zero (13 R448). -/
def State.counter (s : State) (n : Nat) : Option Nat := if 5 ≤ n then some 0 else (s.keg n).value

def State.setKeg (s : State) (n : Nat) (k : KegSlot) : State :=
  { s with sec := { s.sec with keg := SMap.set KegSlot.reset s.sec.keg n k } }

def State.setCounter (s : State) (n v : Nat) : State := s.setKeg n ((s.keg n).write (BitVec.ofNat 64 v))

/-- KEG_STATUS.BAD (13 R447). -/
def State.noteKeg (s : State) : State :=
  s.setF F.kegStatus_BAD 0
    ((List.range 5).foldl (fun m n => if (s.counter n).isNone then m + 2 ^ n else m) 0)

/-- A command at the Keg: its result and the state after it. -/
def State.kegRun (s : State) : KegCmd → KegResult × State
  | .read n =>
    match s.counter n with
    | some v => (.value (BitVec.ofNat 64 v), s)
    | none => (.refused, s)
  | .advance n v =>
    match s.counter n with
    | none => (.refused, s)
    | some x =>
      if 5 ≤ n then (.refused, s)
      else if x < v.toNat then (.value v, s.setCounter n v.toNat)
      else (.value (BitVec.ofNat 64 x), s)
  | .reserve =>
    match s.counter 2 with
    | none => (.refused, s)
    | some x =>
      if x ≤ 2 ^ 40 - 1024 then
        (.value (BitVec.ofNat 64 x), (s.setCounter 2 (x + 1024)).setCounter 4 ((s.counter 4).getD 0 + 1))
      else (.exhausted, s)
  | .seed =>
    if s.sec.seedServed then (.refused, s)
    else (.seedWrapped, { s with sec := { s.sec with seedServed := true } }.setF F.kegStatus_SEEDED 0 1)

/-- The MAC of a response (13 R446). -/
def kegMac (nonce : BitVec 128) (c : KegCmd) (r : KegResult) : List Byte :=
  Config.kmac256 Config.pairingKey (leBytes 16 nonce.toNat ++ Config.kegBytes c r)

/-- A command on the link, executed and answered: the counters it writes are kept until its answer is accepted. -/
def State.kegSend (s : State) (c : KegCmd) (nonce : BitVec 128) : State :=
  let x := s.kegRun c
  let wrote := (List.range 5).filter (fun n => x.2.keg n != s.keg n)
  let t := { x.2 with sec := { x.2.sec with kegBusy := some (c, nonce), kegWrote := wrote } }
  (t.noteKeg).emit (.keg c x.1 (kegMac nonce c x.1))

/-- Whether the link is free: both dies powered, the always-on clock running, no command outstanding. -/
def State.kegFree (s : State) : Bool := s.boot.aux && s.boot.regulators && !s.clk.failed.contains .iosc &&
  s.sec.kegBusy.isNone

/-- READ (13 R446). -/
def execKegRead (n : Nat) (nonce : BitVec 128) (s : State) : Host.Outcome State Fault Refusal :=
  command (.kegRead n nonce) s.kegFree s (State.service s (s.kegSend (.read n) nonce))

/-- ADVANCE (13 R446). -/
def execKegAdvance (n : Nat) (v : W64) (nonce : BitVec 128) (s : State) : Host.Outcome State Fault Refusal :=
  command (.kegAdvance n v nonce) s.kegFree s (State.service s (s.kegSend (.advance n v) nonce))

/-- RESERVE (13 R446). -/
def execKegReserve (nonce : BitVec 128) (s : State) : Host.Outcome State Fault Refusal :=
  command (.kegReserve nonce) s.kegFree s (State.service s (s.kegSend .reserve nonce))

/-- SEED (13 R446). -/
def execKegSeed (nonce : BitVec 128) (s : State) : Host.Outcome State Fault Refusal :=
  command (.kegSeed nonce) s.kegFree s (State.service s (s.kegSend .seed nonce))

/-- The slot last written with its CRC failing: the counter is at its old value (13 R447). -/
def KegSlot.tear (k : KegSlot) : KegSlot :=
  if k.aOk && (!k.bOk || k.b.toNat ≤ k.a.toNat) then { k with aOk := false } else { k with bOk := false }

/-- Power lost while the Keg may be writing (13 R447): each write under way has been made or has left its slot with a
failing CRC, which of the two is free (log entry 150). -/
def State.kegPowerLoss (s : State) : State :=
  s.sec.kegWrote.foldl (fun (s : State) n =>
    let x := s.draw
    if x.1.toNat % 2 == 0 then x.2 else x.2.setKeg n ((x.2.keg n).tear)) s

/-! ### Circle keys (13 R470, R471) -/

/-- Every circle key cleared. -/
def State.clearCircles (s : State) : State :=
  let s := { s with sec := { s.sec with circles := [] } }
  (s.words .keyHeld).foldl (fun (s : State) (w : Nat × W32) => s.rset .keyHeld w.1 0) s

/-! ### Firmware images and configuration records (13 R450 to R458) -/

/-- Bytes [o, o + n) of a byte string as a number. -/
def fieldAt (d : List Byte) (o n : Nat) : Nat := leNat ((d.drop o).take n)

/-- Bytes [o, o + n) are zero. -/
def zeroAt (d : List Byte) (o n : Nat) : Bool := ((d.drop o).take n).all (· == 0)

/-- The length of an XMSS signature (13 R450, R455). -/
def sigLen : Nat := 2820

/-- SVN of a version word (13 R451). -/
def svnOf (v : W64) : Nat := v.toNat / 2 ^ 32 % 2 ^ 16

/-- The version word of an image. -/
def imageVersion (d : List Byte) : W64 := BitVec.ofNat 64 (fieldAt d 8 8)

/-- The bytes an image's signature covers. -/
def imageLen (d : List Byte) : Nat := 256 + fieldAt d 16 4

/-- A well-formed image header (13 R450), "NZVFWIMG" at its head. -/
def imageHeaderOk (d : List Byte) : Bool :=
  d.take 8 == [0x4E, 0x5A, 0x56, 0x46, 0x57, 0x49, 0x4D, 0x47] && fieldAt d 14 2 == 0 &&
    fieldAt d 16 4 % 4096 == 0 && fieldAt d 16 4 ≤ 2 ^ 24 && zeroAt d 20 4 && zeroAt d 92 164 &&
    imageLen d + sigLen ≤ d.length

/-- The checks of 13 R452. -/
def State.imageOk (s : State) (d : List Byte) : Bool :=
  let key := (d.drop 24).take 68
  imageHeaderOk d && Config.shake256 32 key == Config.shake256 32 Config.haldayKey &&
    Config.xmssVerify key (d.take (imageLen d)) ((d.drop (imageLen d)).take sigLen) &&
    (s.counter 0).any (fun c => c ≤ svnOf (imageVersion d))

def State.fwSlot (s : State) (n : Nat) : FwSlot := SMap.get ⟨false, []⟩ s.sec.fwSlots n

def State.setFwSlot (s : State) (n : Nat) (d : List Byte) : State :=
  { s with sec := { s.sec with fwSlots := SMap.put s.sec.fwSlots n ⟨true, d⟩ } }

/-- The slot that boots (13 R452): the larger version word first, slot A between equals. -/
def State.pickFirmware (s : State) : Option Nat :=
  let a := s.fwSlot 0
  let b := s.fwSlot 1
  let order := if (imageVersion a.image).toNat < (imageVersion b.image).toNat then [1, 0] else [0, 1]
  order.find? (fun n => (s.fwSlot n).readable && s.imageOk (s.fwSlot n).image)

/-- Firmware of a slot runs: SLOT and the version words (13 R482). -/
def State.runFirmware (s : State) (n : Nat) : State :=
  let put (s : State) (i : Nat) (v : W64) : State :=
    (s.rset .secVer (2 * i) (v.truncate 32)).rset .secVer (2 * i + 1) ((v >>> 32).truncate 32)
  (put (put (put s 0 (Config.romVersion 0)) 1 (Config.romVersion 1)) 2
    (imageVersion (s.fwSlot n).image)).setF F.secStatus_SLOT 0 n

/-- SVN of the running firmware. -/
def State.fwSvn (s : State) : Nat := bitsOf (s.rget .secVer 5) 0 16

/-- The fields of a record (13 R455). -/
def recType (r : List Byte) : Nat := fieldAt r 8 2
def recSvn (r : List Byte) : Nat := fieldAt r 16 4
def recAdvance (r : List Byte) : Bool := fieldAt r 20 2 % 2 == 1
def recBound (r : List Byte) : Bool := fieldAt r 20 2 / 2 % 2 == 1
def recPayload (r : List Byte) : List Byte := (r.drop 64).take (fieldAt r 12 4)
def recLen (r : List Byte) : Nat := 64 + fieldAt r 12 4 + sigLen

/-- "NZVCFGRC". -/
def recMagic : List Byte := [0x4E, 0x5A, 0x56, 0x43, 0x46, 0x47, 0x52, 0x43]

/-- What ends the records of an area: eight zero bytes, a header that is not well formed, or a byte that cannot be read
(13 R455, 17 R579). -/
inductive RecEnd where
  | zeros
  | malformed
  | torn
  deriving DecidableEq, Repr

/-- The records of an area in flash order, and what ends them. -/
def splitRecords : Nat → List Byte → List (List Byte) × RecEnd
  | 0, _ => ([], .torn)
  | fuel + 1, d =>
    if d.length < 8 then ([], .torn)
    else if zeroAt d 0 8 then ([], .zeros)
    else if d.take 8 != recMagic then ([], .malformed)
    else if d.length < 64 || d.length < recLen d then ([], .torn)
    else
      let r := splitRecords fuel (d.drop (recLen d))
      (d.take (recLen d) :: r.1, r.2)

/-- The records of an area. -/
def recordsOf (d : List Byte) : List (List Byte) × RecEnd := splitRecords (d.length / sigLen + 1) d

/-- A well-formed header with a TYPE that is not reserved (13 R455, R456). -/
def recHeaderOk (r : List Byte) : Bool :=
  1 ≤ recType r && recType r ≤ 4 && fieldAt r 10 2 == 1 && fieldAt r 20 2 < 4 && zeroAt r 22 2 &&
    (recBound r || zeroAt r 24 32) && zeroAt r 56 8 &&
    (recType r != 1 || (recBound r && (recPayload r).length == 68))

/-- This device's binding (13 R455). -/
def deviceBinding : List Byte := Config.shake256 32 Config.identityKey

/-- A record's signature under a key. -/
def recSigned (key r : List Byte) : Bool :=
  Config.xmssVerify key (r.take (recLen r - sigLen)) (r.drop (recLen r - sigLen))

/-- The checks of a record but for its signature (13 R456). -/
def State.recFits (s : State) (r : List Byte) : Bool :=
  recHeaderOk r && (s.counter 1).any (· ≤ recSvn r) && (!recBound r || (r.drop 24).take 32 == deviceBinding)

/-- The OWNER record in force: the accepted one with the largest SVN, the first among equals. -/
def State.ownerRecord (s : State) (rs : List (List Byte)) : Option (List Byte) :=
  (rs.filter (fun r => recType r == 1 && s.recFits r && recSigned Config.haldayKey r)).foldl
    (fun b r => match b with
      | some x => if recSvn x < recSvn r then some r else b
      | none => some r) none

/-- Whether a record is accepted, with the owner key of a record in force (13 R456). -/
def State.recAccepted (s : State) (owner : Option (List Byte)) (r : List Byte) : Bool :=
  s.recFits r && (recSigned Config.haldayKey r ||
    (recType r != 1 && owner.any (fun o => recSigned (recPayload o) r)))

/-- The records in force of an area, and how many are rejected. -/
def State.judgeRecords (s : State) (d : List Byte) : List (List Byte) × Nat :=
  let x := recordsOf d
  let owner := s.ownerRecord x.1
  let good := x.1.filter (s.recAccepted owner)
  (good.filter (fun r => recType r != 1 || owner == some r),
    x.1.length - good.length + (if x.2 == .malformed then 1 else 0))

/-- REJECTED, saturating (13 R482). -/
def State.reject (s : State) (n : Nat) : State :=
  if n == 0 then s
  else (s.setF F.secStatus_REJECTED 0 (min 255 (s.f F.secStatus_REJECTED 0 + n))).setF F.secFlags_REC_BAD 0 1

/-- The valid half of the configuration area with the larger sequence number (17 R580). -/
def State.confHalf (s : State) : Option (Nat × FlashHalf) :=
  match (SMap.find s.sec.conf 0).filter FlashHalf.ok, (SMap.find s.sec.conf 1).filter FlashHalf.ok with
  | some a, some b => if a.seq < b.seq then some (1, b) else some (0, a)
  | some a, none => some (0, a)
  | none, some b => some (1, b)
  | none, none => none

/-- The largest SVN of the records in force that carry ADVANCE (13 R453). -/
def State.advanceSvn (s : State) : Nat :=
  (s.sec.inForce.filter recAdvance).foldl (fun m r => max m (recSvn r)) 0

/-! ### Commits and the Keg's answers (13 R446, R453, R462 to R464) -/

/-- A write of SEC_CTL_COMMIT: GO or EPOCH starts an operation of the Keg; both while one runs, and EPOCH
beside GO, are ignored. -/
def State.writeCommit (s : State) (v : W32) : State :=
  let t := s.code .secCommit 0 v
  let go := bitsOf v 0 1 == 1
  let epoch := bitsOf v 1 1 == 1
  if !go && !epoch then t
  else if s.b F.secCommit_BUSY 0 then t.ignored .secCommit 0
  else
    let t := { t with sec := { t.sec with committing := some (!go), commitNext := 0 } }.setF F.secCommit_BUSY 0 1
    if go && epoch then t.ignored .secCommit 0 else t

/-- FIRMWARE_COMMIT (13 R453). -/
def execFirmwareCommit (v : W32) (s : State) : Host.Outcome State Fault Refusal :=
  command (.firmwareCommit v) (bitsOf v 0 1 == 1) s (s.writeCommit v)

/-- EPOCH_ADVANCE (13 R464). -/
def execEpochAdvance (v : W32) (s : State) : Host.Outcome State Fault Refusal :=
  command (.epochAdvance v) (bitsOf v 0 2 == 2) s (s.writeCommit v)

/-- The operation of SEC_CTL_COMMIT has ended. -/
def State.endCommit (s : State) (ok : Bool) : State :=
  ({ s with sec := { s.sec with committing := none, commitNext := 0 } }.setF F.secCommit_BUSY 0 0).setF
    (if ok then F.secCommit_DONE else F.secCommit_ERR) 0 1

/-- The advance that a commit waits for: counter and value. -/
def State.commitWants (s : State) : Option (Nat × Nat) :=
  match s.sec.committing with
  | none => none
  | some true => some (3, s.sec.epochKey + 1)
  | some false => some (if s.sec.commitNext == 0 then (0, s.fwSvn) else (1, s.advanceSvn))

/-- An ADVANCE that has been answered, for the commit that runs. The new epoch takes effect at once and
clears every circle key (13 R464). -/
def State.commitStep (s : State) (n : Nat) (v : W64) (r : KegResult) : State :=
  match s.sec.committing, r with
  | none, _ => s
  | some epoch, r =>
    if s.commitWants != some (n, v.toNat) then s
    else
      match r with
      | .value x =>
        if epoch then ({ s with sec := { s.sec with epochKey := x.toNat } }.clearCircles).endCommit true
        else if s.sec.commitNext == 0 then { s with sec := { s.sec with commitNext := 1 } }
        else s.endCommit true
      | _ => s.endCommit false

/-- RESERVE answered: the block, or exhaustion (13 R462, R463). -/
def State.takeBlock (s : State) : KegResult → State
  | .value r =>
    let s := if s.sec.idxNext == s.sec.idxEnd then
        { s with sec := { s.sec with idxNext := r.toNat, idxEnd := r.toNat + 1024 } }
      else s
    if 2 ^ 40 - 2 ^ 32 < r.toNat + 1024 then s.setF F.secFlags_IDX_LOW 0 1 else s
  | .exhausted => (s.setF F.secStatus_EXHAUSTED 0 1).setF F.secStatus_IDENTITY_ON 0 0
  | _ => s

/-- A response that the Tun accepts. -/
def State.kegTake (s : State) (c : KegCmd) (r : KegResult) : State :=
  let s := { s with sec := { s.sec with kegBusy := none, kegWrote := [] } }
  match c with
  | .read _ => s
  | .seed => s
  | .reserve => s.takeBlock r
  | .advance n v => s.commitStep n v r

/-- KEG_RESPONSE (13 R446): one whose MAC fails over the outstanding nonce and command is rejected. -/
def State.doKegResponse (s : State) (r : KegReply) : State :=
  match s.sec.kegBusy with
  | none => s
  | some (c, nonce) =>
    if r.nonce == nonce && r.cmd == c && r.mac == kegMac nonce c r.result then s.kegTake c r.result else s

def execKegResponse (r : KegReply) (s : State) : Host.Outcome State Fault Refusal :=
  command (.kegResponse r) s.sec.kegBusy.isSome s
    (State.service s (s.doKegResponse r))

/-! ### Images and areas sent to the device (13 R454, R460) -/

/-- RECOVERY: no firmware runs (13 R454). -/
def State.inRecovery (s : State) : Bool := s.f F.secStatus_SLOT 0 == 2

/-- A write of SEC_CTL_REC_CTRL: a START that is refused changes neither the transfer nor TARGET (13 R460, R482). -/
def State.writeRecCtrl (s : State) (v : W32) : State :=
  let start := bitsOf v 0 1 == 1
  let target := bitsOf v 4 2
  let busy := s.b F.secRecCtrl_BUSY 0
  let refused := start && (busy || 2 ≤ target || (s.inRecovery && target != 0))
  let s := if busy || refused then
      s.rset .secRecCtrl 0 (withBits ((Reg.secRecCtrl).written false (s.rget .secRecCtrl 0) v) 4 2
        (s.f F.secRecCtrl_TARGET 0))
    else s.code .secRecCtrl 0 v
  let s := if refused then s.ignored .secRecCtrl 0
    else if start then
      { s with sec := { s.sec with recWords := [], recActive := true } }.setF F.secRecCtrl_BUSY 0 1
    else s
  if bitsOf v 1 1 == 1 && s.sec.recActive then
    { s with sec := { s.sec with recActive := false, recJudging := true } }
  else s

/-- RECORD_START (13 R454, R460). -/
def execRecordStart (v : W32) (s : State) : Host.Outcome State Fault Refusal :=
  command (.recordStart v) (bitsOf v 0 1 == 1) s (s.writeRecCtrl v)

/-- RECORD_DONE (13 R454, R460). -/
def execRecordDone (v : W32) (s : State) : Host.Outcome State Fault Refusal :=
  command (.recordDone v) (bitsOf v 0 2 == 2) s (s.writeRecCtrl v)

/-- A write of SEC_CTL_REC_DATA: the next word while a transfer runs. -/
def State.writeRecData (s : State) (v : W32) : State :=
  if s.sec.recActive then { s with sec := { s.sec with recWords := v :: s.sec.recWords } } else s

/-- RECORD_DATA (13 R454, R460). -/
def execRecordData (v : W32) (s : State) : Host.Outcome State Fault Refusal :=
  command (.recordData v) true s (s.writeRecData v)

/-- The data received, in the order sent. -/
def State.recBytes (s : State) : List Byte := (s.sec.recWords.reverse).flatMap (fun w => leBytes 4 w.toNat)

/-- A firmware image programmed (13 R454, R460). In RECOVERY the candidates are judged again, and boot
goes on at step 3 when one passes (17 R579). -/
def State.programImage (s : State) : State :=
  let d := s.recBytes
  if s.inRecovery then
    let s := s.setFwSlot 1 d
    match s.pickFirmware with
    | some n =>
      let s := s.runFirmware n
      { s with boot := { s.boot with recovery := false, step := 3, result := 0 } }
    | none => s.setF F.secRecCtrl_ERR 0 1
  else
    let s := s.setFwSlot (1 - s.f F.secStatus_SLOT 0) d
    if s.imageOk d then s else s.setF F.secRecCtrl_ERR 0 1

/-- A configuration area judged, and written whole into the older or failing half (13 R460, 17 R580). -/
def State.programArea (s : State) : State :=
  let d := s.recBytes
  let bad := (s.judgeRecords d).2
  if bad != 0 || (recordsOf d).2 != .zeros || 2 ^ 21 - 16 < d.length then
    ((s.reject bad).setF F.secRecCtrl_ERR 0 1).setF F.secFlags_REC_BAD 0 1
  else
    let x := s.confHalf
    let half := 1 - (x.map Prod.fst).getD 1
    let seq := (x.map (fun h => h.2.seq)).getD 0 + 1
    { s with sec := { s.sec with conf := SMap.put s.sec.conf half ⟨seq, true, d⟩ } }

/-- RECORD_PROGRAM_COMPLETE (13 R454, R460). -/
def State.endProgram (s : State) : State :=
  let s := if s.b F.secRecCtrl_TARGET 0 then s.programArea else s.programImage
  { s with sec := { s.sec with recJudging := false, recWords := [] } }.setF F.secRecCtrl_BUSY 0 0

def execRecordProgramComplete (s : State) : Host.Outcome State Fault Refusal :=
  command .recordProgramComplete s.sec.recJudging s s.endProgram

/-- DEBUG_ACCESS (13 R465). -/
def State.doDebug (s : State) : State :=
  let s := { s with
    sec := { s.sec with vault := false }
    boot := { s.boot with tapReset := false } }.clearCircles
  (s.setF F.secStatus_DEBUG 0 1).setF F.secStatus_IDENTITY_ON 0 0

def execDebugAccess (s : State) : Host.Outcome State Fault Refusal :=
  command .debugAccess true s s.doDebug

/-! ### The signer (13 R462, R463) -/

/-- What the signer answers: a wait for a block, Busy, a refusal, or the index it uses. -/
inductive Signed where
  | waits
  | busy (s : State)
  | refused
  | at (index : Nat) (s : State)
  deriving DecidableEq, Repr

/-- A signing request (13 R462, R463). -/
def State.sign (s : State) : Signed :=
  if !s.b F.secStatus_IDENTITY_ON 0 then .refused
  else if s.sec.lastSig.any (fun b => s.beat < b + s.f F.secCfg_SIG_GAP 0) then .busy (s.bump .secEvtLo .secEvtHi 1 1)
  else if s.sec.idxNext == s.sec.idxEnd then .waits
  else
    .at s.sec.idxNext
      ({ s with sec := { s.sec with idxNext := s.sec.idxNext + 1, lastSig := some s.beat } }.bump .secEvtLo .secEvtHi 0 1)

/-- Whether a signing request can be answered now. -/
def State.signs (s : State) : Bool :=
  match s.sign with
  | .waits => false
  | _ => true

/-! ### The SPDM responder (13 R466 to R468) -/

/-- The data of a message whose fragments have all arrived. -/
def Fragments.whole (f : Fragments) : Bool := (List.range f.total).all (fun i => f.parts.any (fun p => p.1 == i))

/-- A complete message of a node. -/
def State.spdmWhole (s : State) (node : Nat) : Option Fragments :=
  s.fab.frags.find? (fun f => f.snode == node && f.whole)

/-- Whether a request can have come this way: a mailbox of a present function, or fragments of a node. -/
def State.spdmReach (s : State) : SpdmPath → Bool
  | .doe fn => s.hostUp && fn < 64 && (fn == 0 || s.host.vfEnable)
  | .fabric node => (s.spdmWhole node).isSome

/-- One fragment of a response in an MGMTRSP (13 R468). -/
def State.sendFragment (s : State) (f : Fragments) (count : Nat) (x : List Byte × Nat) : State :=
  s.respond f.snode f.tag 0 { Msg.empty with
    vc := 0, type := 0x08, param := 2,
    head := leBytes 4 f.msgno ++ leBytes 2 x.2 ++ leBytes 2 count ++ leBytes 2 x.1.length ++ zeros 6 ++ x.1 }

/-- A response goes back the way its request came. -/
def State.spdmSend (s : State) (via : SpdmPath) (code : Nat) (body : List Byte) : State :=
  match via with
  | .doe _ => s.emit (.spdm via code body)
  | .fabric node =>
    match s.spdmWhole node with
    | none => s
    | some f =>
      let d := BitVec.ofNat 8 code :: body
      let parts := (chunksOf 208 (d.length / 208 + 1) d).filter (fun c => !c.isEmpty)
      let s := parts.zipIdx.foldl (fun s x => s.sendFragment f parts.length x) s
      { s with fab := { s.fab with frags := s.fab.frags.filter (fun g => g != f) } }

/-- An ERROR response with its error code. -/
def State.spdmError (s : State) (via : SpdmPath) (e : Nat) : State := s.spdmSend via 0x7F [BitVec.ofNat 8 e, 0]

/-- A data object above 64 KiB is discarded and sets the mailbox's error bit (12 R442). -/
def State.spdmTake (s : State) (via : SpdmPath) (body : List Byte) (act : State → State) : State :=
  match via with
  | .doe fn => if 65536 < body.length + 12 then s.setFn fn { s.fn fn with doeError := true } else act s
  | .fabric _ => act s

/-- A request answered by its standard (13 R466): its response code and body. -/
def State.spdmAnswer (s : State) (via : SpdmPath) (req rsp : Nat) (body : List Byte) : State :=
  s.spdmTake via body (fun s => s.spdmSend via rsp (Config.spdmBody req body))

/-- A request that only a secure session carries; elsewhere UnexpectedRequest. -/
def State.inSession (s : State) (via : SpdmPath) (act : State → State) : State :=
  if s.sec.sessions.contains via then act s else s.spdmError via 4

/-- A response signed with the next index, Busy, or Unspecified (13 R463). -/
def State.spdmSigned (s : State) (via : SpdmPath) (rsp : Nat) (d : List Byte) (act : State → State) : State :=
  match s.sign with
  | .waits => s
  | .busy s => s.spdmError via 3
  | .refused => s.spdmError via 5
  | .at i s => act (s.spdmSend via rsp (d ++ Config.xmssSign i d))

def execGetVersion (via : SpdmPath) (body : List Byte) (s : State) : Host.Outcome State Fault Refusal :=
  command (.getVersion via body) (s.spdmReach via) s (s.spdmAnswer via 0x84 0x04 body)

def execGetCapabilities (via : SpdmPath) (body : List Byte) (s : State) : Host.Outcome State Fault Refusal :=
  command (.getCapabilities via body) (s.spdmReach via) s (s.spdmAnswer via 0xE1 0x61 body)

def execNegotiateAlgorithms (via : SpdmPath) (body : List Byte) (s : State) : Host.Outcome State Fault Refusal :=
  command (.negotiateAlgorithms via body) (s.spdmReach via) s
    (s.spdmAnswer via 0xE3 0x63 body)

def execGetDigests (via : SpdmPath) (body : List Byte) (s : State) : Host.Outcome State Fault Refusal :=
  command (.getDigests via body) (s.spdmReach via) s (s.spdmAnswer via 0x81 0x01 body)

/-- GET_CERTIFICATE (13 R466): slot 0 alone; another is an InvalidRequest. -/
def State.doGetCertificate (s : State) (via : SpdmPath) (slot ofs len : Nat) : State :=
  if slot == 0 then s.spdmSend via 0x02 (Config.spdmBody 0x82 (leBytes 1 slot ++ leBytes 2 ofs ++ leBytes 2 len))
  else s.spdmError via 1

def execGetCertificate (via : SpdmPath) (slot ofs len : Nat) (s : State) : Host.Outcome State Fault Refusal :=
  command (.getCertificate via slot ofs len) (s.spdmReach via) s
    (s.doGetCertificate via slot ofs len)

def execSpdmChallenge (via : SpdmPath) (body : List Byte) (s : State) : Host.Outcome State Fault Refusal :=
  command (.spdmChallenge via body) (s.spdmReach via && s.signs) s
    (s.spdmTake via body (fun s => s.spdmSigned via 0x03 (Config.spdmBody 0x83 body) id))

/-- The partition a responder reports (13 R467). -/
def State.reported (s : State) : SpdmPath → Option Nat
  | .doe fn => if fn == 0 then some 0 else s.boundPart fn
  | .fabric _ => some 0

/-- Block 7 (13 R467). -/
def State.partitionBlock (s : State) (p : Nat) : List Byte :=
  let casks := ((s.words .rgnown).map Prod.fst).filter (fun r =>
    s.f F.rgnown_OWNER r == p && s.f F.llmRgnDesc_POLICY r == 2)
  leBytes 4 p ++ leBytes 4 (s.rget .partCfg p).toNat ++
    (List.range 8).flatMap (fun j => leBytes 4 (s.rget .partCores (8 * p + j)).toNat) ++
    casks.flatMap (fun r => leBytes 4 r ++ leBytes 16 (SMap.get 0 s.sec.packageId r).toNat)

/-- The content of a measurement block (13 R467). -/
def State.measurement (s : State) (via : SpdmPath) : Nat → List Byte
  | 1 => leBytes 8 (Config.romVersion 0).toNat ++ Config.romDigest 0
  | 2 => leBytes 8 (Config.romVersion 1).toNat ++ Config.romDigest 1
  | 3 =>
    let d := (s.fwSlot (s.f F.secStatus_SLOT 0)).image
    leBytes 8 (imageVersion d).toNat ++ d
  | 4 => s.sec.inForce.flatMap (Config.shake256 32)
  | 5 => leBytes 4 s.sec.epochKey ++ Config.mlkemKey s.sec.epochKey
  | 6 => (List.range 8).flatMap (fun j => leBytes 4 (s.rget .bxfCtlDigest j).toNat) ++
      (List.range 2).flatMap (fun j => leBytes 4 (s.rget .bxfCtlDigestBeat j).toNat)
  | 7 => ((s.reported via).map s.partitionBlock).getD []
  | 8 => leBytes 4 (s.rget .secStatus 0 &&& 0x37).toNat
  | _ => []

/-- The blocks that an index names: 0xFF all, 0 none. -/
def State.measurements (s : State) (via : SpdmPath) (index : Nat) : List Byte :=
  if index == 0xFF then (List.range 9).flatMap (s.measurement via) else s.measurement via index

/-- GET_MEASUREMENTS (13 R467). -/
def State.doGetMeasurements (s : State) (via : SpdmPath) (index : Nat) (signed : Bool) (body : List Byte) : State :=
  let d := Config.spdmBody 0xE0 (leBytes 1 index ++ body ++ s.measurements via index)
  s.spdmTake via body (fun s => if signed then s.spdmSigned via 0x60 d id else s.spdmSend via 0x60 d)

def execGetMeasurements (via : SpdmPath) (index : Nat) (signed : Bool) (body : List Byte) (s : State) :
    Host.Outcome State Fault Refusal :=
  command (.getMeasurements via index signed body) (s.spdmReach via && (!signed || s.signs))
    s (s.doGetMeasurements via index signed body)

/-- A session opened. -/
def State.openSession (s : State) (via : SpdmPath) : State :=
  { s with sec := { s.sec with sessions := via :: s.sec.sessions.filter (· != via) } }

def execKeyExchange (via : SpdmPath) (body : List Byte) (s : State) : Host.Outcome State Fault Refusal :=
  command (.keyExchange via body) (s.spdmReach via && s.signs) s
    (s.spdmTake via body (fun s =>
      s.spdmSigned via 0x64 (Config.spdmBody 0xE4 body) (fun s => s.openSession via)))

def execSpdmFinish (via : SpdmPath) (body : List Byte) (s : State) : Host.Outcome State Fault Refusal :=
  command (.spdmFinish via body) (s.spdmReach via) s
    (s.inSession via (fun s => s.spdmAnswer via 0xE5 0x65 body))

def execSpdmHeartbeat (via : SpdmPath) (body : List Byte) (s : State) : Host.Outcome State Fault Refusal :=
  command (.spdmHeartbeat via body) (s.spdmReach via) s
    (s.inSession via (fun s => s.spdmAnswer via 0xE8 0x68 body))

def execKeyUpdate (via : SpdmPath) (body : List Byte) (s : State) : Host.Outcome State Fault Refusal :=
  command (.keyUpdate via body) (s.spdmReach via) s
    (s.inSession via (fun s => s.spdmAnswer via 0xE9 0x69 body))

def execEndSession (via : SpdmPath) (body : List Byte) (s : State) : Host.Outcome State Fault Refusal :=
  command (.endSession via body) (s.spdmReach via) s
    (s.inSession via (fun s =>
      let t := s.spdmAnswer via 0xEC 0x6C body
      { t with sec := { t.sec with sessions := t.sec.sessions.filter (· != via) } }))

def execChunkSend (via : SpdmPath) (body : List Byte) (s : State) : Host.Outcome State Fault Refusal :=
  command (.chunkSend via body) (s.spdmReach via) s (s.spdmAnswer via 0x85 0x05 body)

def execChunkGet (via : SpdmPath) (body : List Byte) (s : State) : Host.Outcome State Fault Refusal :=
  command (.chunkGet via body) (s.spdmReach via) s (s.spdmAnswer via 0x86 0x06 body)

/-! ### SPDM fragments of the fabric (13 R468, 10 R349) -/

/-- Whether a management message is admitted (10 R349 step 1). -/
def State.mgmtOk (s : State) (m : Msg) : Bool := m.skey == 0 && s.b F.bxfCtlRouteData_MGMT m.snode.toNat

/-- A fragment kept with the others of its message; one out of range is discarded. -/
def State.takeFragment (s : State) (m : Msg) : State :=
  let msgno := fieldAt m.head 0 4
  let idx := fieldAt m.head 4 2
  let count := fieldAt m.head 6 2
  let len := fieldAt m.head 8 2
  let snode := m.snode.toNat
  if len == 0 || 208 < len || count ≤ idx then s
  else
    let part := (idx, (m.head.drop 16).take len)
    let mine (f : Fragments) : Bool := f.snode == snode && f.msgno == msgno
    let old := ((s.fab.frags.find? mine).map Fragments.parts).getD []
    let f : Fragments := ⟨snode, msgno, count, m.tag.toNat, part :: old.filter (fun p => p.1 != idx)⟩
    { s with fab := { s.fab with frags := s.fab.frags.filter (fun g => !mine g) ++ [f] } }

/-- MGMT_SPDM_FRAGMENT (13 R468). -/
def execMgmtSpdmFragment (port : Nat) (m : Msg) (s : State) : Host.Outcome State Fault Refusal :=
  fromPort (.mgmtSpdmFragment port m) s port m 0x07 (fun s =>
    if s.mgmtOk m then some (s.takeFragment m) else s.refuseIn m 0 0x08)

/-- SPDM_FRAGMENT_TIMEOUT (13 R468; 14 R496). -/
def execSpdmFragmentTimeout (snode msgno : Nat) (s : State) : Host.Outcome State Fault Refusal :=
  command (.spdmFragmentTimeout snode msgno)
    (s.fab.frags.any (fun f => f.snode == snode && f.msgno == msgno && !f.whole) && !s.b F.clkStatus_SAFE 0)
    s
    { s with fab := { s.fab with frags := s.fab.frags.filter (fun f => !(f.snode == snode && f.msgno == msgno)) } }

/-! ### Key releases (13 R469 to R471, R483) -/

/-- A circle slot freed. -/
def State.freeCircle (s : State) (part slot : Nat) : State :=
  { s with sec := { s.sec with circles := SMap.drop s.sec.circles slot } }.setF F.keyHeld_SLOTS part
    (s.f F.keyHeld_SLOTS part - (if s.f F.keyHeld_SLOTS part / 2 ^ slot % 2 == 1 then 2 ^ slot else 0))

/-- OP ends with an error code, 0 for none. -/
def State.endKey (s : State) (part err : Nat) : State :=
  ((s.setF F.keyStatus_BUSY part 0).setF F.keyStatus_DONE part 1).setF F.keyStatus_ERR part err

/-- DROP (13 R471). -/
def State.dropKey (s : State) (part slot : Nat) : State :=
  match SMap.find s.sec.circles slot with
  | some c => if c.part == part then (s.freeCircle part slot).endKey part 0 else s.endKey part 7
  | none => s.endKey part 7

/-- A write of SEC_KEY_CMD. -/
def State.writeKeyCmd (s : State) (part : Nat) (v : W32) : State :=
  if bitsOf v 6 1 == 0 then s.code .keyCmd part v
  else if s.b F.keyStatus_BUSY part || 2 ≤ bitsOf v 0 2 then s.ignored .keyCmd part
  else
    let s := s.code .keyCmd part v
    if bitsOf v 0 2 == 1 then s.dropKey part (bitsOf v 2 4)
    else
      { s with sec := { s.sec with
          keyBusy := SMap.put s.sec.keyBusy part (s.pair .keyAddrLo .keyAddrHi part) } }.setF F.keyStatus_BUSY part 1

/-- KEY_LOAD (13 R470). -/
def execKeyLoad (part : Nat) (v : W32) (s : State) : Host.Outcome State Fault Refusal :=
  command (.keyLoad part v) (bitsOf v 6 1 == 1 && bitsOf v 0 2 == 0) s (s.writeKeyCmd part v)

/-- KEY_DROP (13 R471). -/
def execKeyDrop (part : Nat) (v : W32) (s : State) : Host.Outcome State Fault Refusal :=
  command (.keyDrop part v) (bitsOf v 6 1 == 1 && bitsOf v 0 2 == 1) s (s.writeKeyCmd part v)

/-- Bytes of a partition's Global space on this device, as a non-allocating agent reads them: up to
`fuel` lines. -/
def State.readRun (part : Nat) : Nat → W64 → Nat → State → Except Nat (List Byte × State)
  | 0, _, _, s => .ok ([], s)
  | fuel + 1, a, n, s =>
    if n == 0 then .ok ([], s)
    else
      let k := min n (128 - a.toNat % 128)
      match s.devRead part a k with
      | .error c => .error c
      | .ok (d, s) =>
        match State.readRun part fuel (a + BitVec.ofNat 64 k) (n - k) s with
        | .error c => .error c
        | .ok (ds, s) => .ok (d ++ ds, s)

/-- "NZVKEYRL". -/
def keyMagic : List Byte := [0x4E, 0x5A, 0x56, 0x4B, 0x45, 0x59, 0x52, 0x4C]

/-- The circle key of a release blob, or the error of the first check that fails (13 R469, R470). -/
def State.unwrapBlob (s : State) (b : List Byte) : Except Nat (BitVec 256) :=
  if !s.b F.secStatus_IDENTITY_ON 0 then .error 8
  else if b.take 8 != keyMagic || fieldAt b 8 4 != 1 || !zeroAt b 68 4 then .error 1
  else if (b.drop 16).take 32 != deviceBinding then .error 2
  else if s.counter 3 != some (fieldAt b 12 4) then .error 3
  else if s.fwSvn < fieldAt b 64 4 then .error 4
  else
    let ss := Config.mlkemDecaps s.sec.epochKey ((b.drop 72).take 1568)
    -- "NZV-KEK"
    let kek := Config.shake256 32 ([0x4E, 0x5A, 0x56, 0x2D, 0x4B, 0x45, 0x4B] ++ ss ++ b.take 72)
    match Config.aesUnwrap kek ((b.drop 1640).take 40) with
    | none => .error 5
    | some k => .ok (BitVec.ofNat 256 (leNat k))

/-- The slot a key goes into: the one with its circle, else the lowest free one. -/
def State.circleFor (s : State) (part : Nat) (circle : BitVec 128) : Option Nat :=
  match (List.range 16).find? (fun i =>
      (SMap.find s.sec.circles i).any (fun c => c.part == part && c.circle == circle)) with
  | some i => some i
  | none => (List.range 16).find? (fun i => (SMap.find s.sec.circles i).isNone)

/-- A load that failed is counted (13 R482). -/
def State.keyFails (s : State) (part err : Nat) : State := (s.bump .secEvtLo .secEvtHi 2 1).endKey part err

/-- The end of a load (13 R470); none while the blob's lines stall. A blob that cannot be read fails as
one out of format (log entry 39). -/
def State.endKeyLoad (s : State) (part : Nat) : Option State :=
  match SMap.find s.sec.keyBusy part with
  | none => none
  | some a =>
    let s0 := { s with sec := { s.sec with keyBusy := SMap.drop s.sec.keyBusy part } }
    match State.readRun part 15 a 1680 s0 with
    | .error 0 => none
    | .error _ => some (s0.keyFails part (if s.b F.secStatus_IDENTITY_ON 0 then 1 else 8))
    | .ok (b, s) =>
      match if a.toNat % 8 == 0 then s.unwrapBlob b else .error 1 with
      | .error e => some (s.keyFails part e)
      | .ok k =>
        let circle := BitVec.ofNat 128 (fieldAt b 48 16)
        match s.circleFor part circle with
        | none => some (s.keyFails part 6)
        | some i =>
          let s := { s with sec := { s.sec with circles := SMap.put s.sec.circles i ⟨part, circle, k⟩ } }
          some (((s.setF F.keyHeld_SLOTS part (s.f F.keyHeld_SLOTS part ||| 2 ^ i)).setF F.keyStatus_RSLOT part i).endKey part 0)

/-- KEY_LOAD_COMPLETE (13 R470). -/
def execKeyLoadComplete (part : Nat) (s : State) : Host.Outcome State Fault Refusal :=
  command (.keyLoadComplete part) (s.endKeyLoad part).isSome s
    ((s.endKeyLoad part).getD s)

end Sys2Proof.Machine
end

