-- ==== Sys2Proof/Machine/Clocks.lean ====
section
/-!
DEFINITION. Clocks (14 R485 to R497): the trim of the oscillator, gating, the switch of a running domain,
failing sources and the safe state.
-/
namespace Sys2Proof.Machine

/-! ### Switching a domain (14 R494) -/

def State.setDom (s : State) (n : Nat) (x : DomStage) : State :=
  { s with clk := { s.clk with dom := SMap.set .running s.clk.dom n x } }

/-- A write of CLK_DOMn. REF reads the requested reference while PEND is 1 (log entry 40). -/
def State.writeDom (s : State) (n : Nat) (v : W32) : State :=
  let old := s.f F.clkDom_REF n
  if bitsOf v 0 1 == old then s.code .clkDom n v
  else if s.b F.clkDom_PEND n then (s.code .clkDom n (withBits v 0 1 old)).ignored .clkDom n
  else ((s.code .clkDom n v).setF F.clkDom_PEND n 1).setDom n .locking

/-- DOMAIN_SWITCH (14 R494). -/
def execDomainSwitch (n : Nat) (v : W32) (s : State) : Host.Outcome State Fault Refusal :=
  command (.domainSwitch n v) (bitsOf v 0 1 != s.f F.clkDom_REF n) s (s.writeDom n v)

/-- The source of a domain's REF. -/
def refOf (ref : Bool) : ClockSource := if ref then .refclkSys else .iosc

/-- The new PLL locks, or the switch is abandoned. -/
def State.doPllLock (s : State) (n : Nat) (locked : Bool) : State :=
  if locked then s.setDom n .stopping
  else
    (((s.setF F.clkDom_REF n (1 - s.f F.clkDom_REF n)).setF F.clkDom_PEND n 0).setF F.clkDom_FAILED n 1).setDom n .running

/-- PLL_LOCK (14 R494). -/
def execPllLock (n : Nat) (locked : Bool) (s : State) : Host.Outcome State Fault Refusal :=
  command (.pllLock n locked)
    (s.domStage n == .locking && (!locked || !s.clk.failed.contains (refOf (s.b F.clkDom_REF n))))
    s (s.doPllLock n locked)

/-- The cores of a cluster by logical number. -/
def State.clusterCores (s : State) (cl : Nat) : List Nat :=
  (List.range 256).filter (fun c => s.corePresent c && s.physIdx c / 9 == cl)

/-- A cluster at its stop point: no engine instruction in progress, no transfer partway through landing. -/
def State.clusterStill (s : State) (cl : Nat) : Bool :=
  (s.clusterCores cl).all (fun c =>
    (s.core c).mats.all (fun m => !m.started) &&
      (s.core c).tm.all (fun t => t.xfers.all (fun x =>
        match x.stage with
        | .writing _ _ _ => false
        | _ => true)))

/-- The die-to-die ports that a NOC domain touches. -/
def nocPorts (n : Nat) : List Nat :=
  if 32 ≤ n && n < 40 then [2 * (n - 32), 2 * (n - 32) + 1, 16 + (n - 32), 16 + (n - 25) % 8]
  else if n == 40 then List.range 16 else []

/-- Whether a domain may stop: a CORE domain after the beat boundary that followed lock, the others at the
first moment after it; a NOC domain waits for the retrains of its links (15 R531). -/
def State.canStop (s : State) (n : Nat) : Bool :=
  if n < 32 then s.domStage n == .held && s.clusterStill n
  else s.domStage n == .stopping && (nocPorts n).all (fun q => s.f F.d2dStatus_STATE q != 1)

/-- DOMAIN_STOP_POINT (14 R494). -/
def execDomainStopPoint (n : Nat) (s : State) : Host.Outcome State Fault Refusal :=
  command (.domainStopPoint n) (s.canStop n) s (s.setDom n .stopped)

/-- The first beat boundary after lock holds the CORE domains that switch. -/
def State.holdDomains (s : State) : State :=
  { s with clk := { s.clk with dom := SMap.mapVals (fun n x =>
      if n < 32 && x == .stopping then .held else x) s.clk.dom } }

/-- What waited at the ports of a FABRIC domain is sent. -/
def State.wakePorts (s : State) (n : Nat) : State :=
  if 57 ≤ n && n < 61 then
    [2 * (n - 57), 2 * (n - 57) + 1].foldl State.pump s
  else s

/-- The domain runs from its new PLL, a CORE domain at the frequency ordered meanwhile. -/
def State.doRestart (s : State) (n : Nat) : State :=
  let s := (((s.setDom n .running).setF F.clkDom_PEND n 0).bump .clkEvtLo .clkEvtHi 0 1).wakePorts n
  if n < 32 then s.setF F.clkDom_FREQ n (s.f F.pwrCl_FREQ n) else s

/-- DOMAIN_RESTART (14 R494). -/
def execDomainRestart (n : Nat) (s : State) : Host.Outcome State Fault Refusal :=
  command (.domainRestart n) (s.domStage n == .stopped) s (s.doRestart n)

/-! ### Failing sources (14 R495 to R497) -/

/-- Whether a source is the reference of a switchable domain. -/
def State.inService (s : State) (x : ClockSource) : Bool :=
  match x with
  | .refclkPcie => false
  | .refclkSys => (s.words .clkDom).any (fun w => bitsOf w.2 0 1 == 1)
  | .iosc => (List.range 62).any (fun n => !s.b F.clkDom_REF n)

/-- The OK bit of a source. -/
def okBit : ClockSource → Fld
  | .iosc => F.clkStatus_IOSC_OK
  | .refclkSys => F.clkStatus_REFSYS_OK
  | .refclkPcie => F.clkStatus_REFPCIE_OK

/-- A failed source noted. -/
def State.noteFailed (s : State) (x : ClockSource) : State :=
  let s := { s with clk := { s.clk with failed := x :: s.clk.failed } }
  (s.setF (okBit x) 0 0).bump .clkEvtLo .clkEvtHi 1 1

/-- Stacks in or out of self-refresh. -/
def State.selfRefresh (s : State) (on : Bool) : State :=
  (List.range 16).foldl (fun s i =>
    if s.b F.stackStatus_TRAINED i then s.setF F.stackStatus_SELFREF i (if on then 1 else 0) else s) s

/-- Every fabric port leaves UP; an enabled one trains again once light returns (10 R331). -/
def State.darkPorts (s : State) : State :=
  State.portsChanged s ((List.range 8).foldl (fun s p =>
    if s.linked p then s.portDown p 1 else s) s)

/-- The safe state (14 R495); a further failure within it is waited for too. -/
def State.enterSafe (s : State) : State :=
  if s.b F.clkStatus_SAFE 0 then { s with clk := { s.clk with recovering := false } }
  else
    let s := ((s.setF F.clkStatus_SAFE 0 1).setF F.clkFlags_SAFE_SEEN 0 1).setF F.rasSvcCause_SAFE 0 1
    let s := { s with clk := { s.clk with recovering := false } }
    (s.darkPorts.selfRefresh true).dropLink

/-- A source fails (14 R495). Under Kuori compatibility no safe state is entered (14 R497). -/
def State.doFailure (s : State) (x : ClockSource) : State :=
  let t := s.noteFailed x
  if x == .refclkPcie then t.dropLink
  else if s.inService x && !s.b F.clkCfg_KUORI_CLK 0 then t.enterSafe
  else t

/-- REFERENCE_FAILURE (14 R495). -/
def execReferenceFailure (src : ClockSource) (s : State) : Host.Outcome State Fault Refusal :=
  command (.referenceFailure src) (!s.clk.failed.contains src) s
    (State.service s (s.doFailure src))

/-- The failed sources run within ±1% for 1 ms: the PLLs relock, and retraining starts. -/
def State.doRecovery (s : State) : State :=
  let t := s.clk.failed.foldl (fun s x => s.setF (okBit x) 0 1) s
  { t with clk := { t.clk with failed := [], recovering := s.b F.clkStatus_SAFE 0 } }

/-- SOURCE_RECOVERY (14 R495). -/
def execSourceRecovery (s : State) : Host.Outcome State Fault Refusal :=
  command .sourceRecovery (!s.clk.failed.isEmpty) s s.doRecovery

/-- The safe state ends: stacks retrained, issue resumed. -/
def State.doSafeExit (s : State) : State :=
  let t := { s with clk := { s.clk with recovering := false } }
  (t.setF F.clkStatus_SAFE 0 0).selfRefresh false

/-- SAFE_STATE_EXIT (14 R495). -/
def execSafeStateExit (s : State) : Host.Outcome State Fault Refusal :=
  command .safeStateExit (s.b F.clkStatus_SAFE 0 && s.clk.recovering) s
    (State.service s s.doSafeExit)

/-- A domain put back on IOSC (14 R497); a switch to the failed reference is abandoned (14 R494). -/
def State.toIosc (s : State) (n : Nat) : State :=
  let waits := [DomStage.locking, .stopping, .held].contains (s.domStage n)
  if s.b F.clkDom_REF n && waits then s.doPllLock n false
  else if s.b F.clkDom_REF n || waits then
    (((s.setF F.clkDom_REF n 0).setF F.clkDom_PEND n 0).setDom n .running).wakePorts n
  else s

/-- Two windows find REFCLK_SYS out of range (14 R497): its domains restart on IOSC and the clock event is
raised. -/
def State.doKuori (s : State) : State :=
  let t := if s.clk.failed.contains .refclkSys then s else s.noteFailed .refclkSys
  let t := (List.range 62).foldl State.toIosc t
  (t.setF F.clkFlags_SRCFAIL 0 1).msix 0 0

/-- KUORI_SOURCE_FAILURE (14 R497). -/
def execKuoriSourceFailure (s : State) : Host.Outcome State Fault Refusal :=
  command .kuoriSourceFailure (s.b F.clkCfg_KUORI_CLK 0 && s.inService .refclkSys)
    s (State.service s s.doKuori)

/-- PLL_LOSS_OF_LOCK (14 R497): the PLL's output stops at once. -/
def execPllLossOfLock (n : Nat) (s : State) : Host.Outcome State Fault Refusal :=
  command (.pllLossOfLock n) (s.b F.clkCfg_KUORI_CLK 0 && s.b F.clkDom_REF n && s.domStage n != .lost)
    s (s.setDom n .lost)

/-! ### The trim of the oscillator (14 R486) -/

/-- The reference that the trim loop uses: 0 none, 1 REFCLK_SYS, 2 marks. -/
def State.trimRef (s : State) : Nat :=
  match s.f F.clkCfg_TRIM_SRC 0 with
  | 3 =>
    if s.b F.beatStatus_LOCKED 0 && s.b F.beatCtrl_SOURCE 0 then 2
    else if s.b F.clkStatus_REFSYS_OK 0 then 1 else 0
  | n => n

/-- The code moves toward zero error: how far, within the bound, is open (log entry 41). -/
def State.doTrim (s : State) (err : W16) : State :=
  let e := err.toInt
  let lim := min e.natAbs (if s.trimRef == 1 then 64 else 8)
  let step : Int := (s.draw.1.toNat % (lim + 1) : Nat)
  let code : Int := (BitVec.ofNat 16 (s.f F.clkTrim_CODE 0)).toInt
  let new := if 0 ≤ e then code - step else code + step
  (s.draw.2.setF F.clkTrim_CODE 0 (BitVec.ofInt 16 (max (-32768) (min 32767 new))).toNat).setF F.clkTrim_ERR 0 err.toNat

/-- TRIM_WINDOW (14 R486). -/
def execTrimWindow (err : W16) (s : State) : Host.Outcome State Fault Refusal :=
  command (.trimWindow err) (s.trimRef != 0) s (s.doTrim err)

/-! ### Gating (14 R490 to R493) -/

/-- The bits of the gate registers that name units, by register (14 R491). -/
def gateUnits : Nat → Nat
  | 0 => 2 ^ 32 - 1
  | 1 => 2 ^ 26 - 1
  | _ => 2 ^ 16 - 1

/-- Whether a stack holds capacity of a valid region. -/
def State.stackAllotted (s : State) (i : Nat) : Bool :=
  s.hbm.allot.any (fun a => s.b F.llmRgnDesc_VALID a.1 && a.2.spots.any (fun x => x.1 / 32 == i))

/-- Whether a core of a cluster is held by a partition other than 0. -/
def State.clusterHeld (s : State) (cl : Nat) : Bool :=
  (s.clusterCores cl).any (fun c => s.enabledParts.any (fun p => (s.namedCores p).contains c))

/-- Why clearing a unit's bit is refused under EXPLICIT gating (14 R491). -/
def State.gateBusy (s : State) (gate bit : Nat) : Bool :=
  if gate == 0 then s.clusterHeld bit
  else if gate == 2 then s.stackAllotted bit
  else if bit < 16 then (SMap.find s.tun.copies bit).isSome
  else if bit < 20 then (SMap.find s.tun.aes (bit - 16)).isSome
  else if bit < 24 then s.b F.portCtrl_ENABLE (2 * (bit - 20)) || s.b F.portCtrl_ENABLE (2 * (bit - 20) + 1)
  else if bit == 25 then s.ras.testing.isSome
  else false

/-- A write of CLK_CTL_GATE (14 R490, R491). -/
def State.writeGate (s : State) (gate : Nat) (v : W32) : State :=
  if s.f F.clkCfg_GATING 0 == 1 then s.ignored .clkGate gate
  else
    let old := (s.rget .clkGate gate).toNat
    let kept := (List.range 32).filter (fun b =>
      old / 2 ^ b % 2 == 1 && !v.getLsbD b && s.gateBusy gate b)
    let new := kept.foldl (fun m b => m ||| 2 ^ b) (v.toNat &&& gateUnits gate)
    let t := s.rset .clkGate gate (BitVec.ofNat 32 new)
    if kept.isEmpty then t else t.ignored .clkGate gate

/-- The work that keeps a unit running under AUTO gating (14 R491). -/
def State.unitWorks (s : State) (gate bit : Nat) : Bool :=
  if gate == 0 then
    (s.clusterCores bit).any (fun c =>
      !(s.coreGroups c).isEmpty || !(s.core c).mats.isEmpty || !(s.core c).tm.isEmpty)
  else if gate == 2 then true
  else if bit == 24 then false
  else s.gateBusy 1 bit

/-- The units that have a wake time (14 R491). -/
def wakes (gate bit : Nat) : Bool := gate == 0 || (gate == 1 && (bit < 20 || bit == 25))

/-- UNIT_WAKE (14 R493). -/
def execUnitWake (gate bit : Nat) (s : State) : Host.Outcome State Fault Refusal :=
  let w := SMap.get 0 s.clk.awake gate
  command (.unitWake gate bit) (s.f F.clkCfg_GATING 0 == 1 && wakes gate bit && !w.getLsbD bit)
    s
    ({ s with clk := { s.clk with awake := SMap.set 0 s.clk.awake gate (w ||| bit32 bit) } }.bump .clkEvtLo .clkEvtHi 2 1)

/-- Awake units without work stop again; seen at beat boundaries (log entry 42). -/
def State.restUnits (s : State) : State :=
  { s with clk := { s.clk with awake := (s.clk.awake.map (fun (e : Nat × W32) =>
      (e.1, ((List.range 32).filter (fun b => e.2.getLsbD b && s.unitWorks e.1 b)).foldl
        (fun (m : W32) b => m ||| bit32 b) 0))).filter (fun e => e.2 != 0) } }

end Sys2Proof.Machine
end

