-- ==== Sys2Proof/Machine/Power.lean ====
section
/-!
DEFINITION. Power (14 R488, R498 to R507; 13 R479) and the temperatures of the stacks (09 R311 to R313): the
controller's step at each beat boundary, the fast limiters, margin offsets, and what a partition sees of
power. What the controller estimates is open: within the bounds of the rules it is drawn from free
values (log entry 43).
-/
namespace Sys2Proof.Config

/-- The frequency step and the duty at which a cluster keeps within the power allotted to a partition, from the
allotment, the demand and the cluster (14 R500): the spec gives no such table. -/
opaque powerStep : Nat → Nat → Nat → Nat × Nat

end Sys2Proof.Config

namespace Sys2Proof.Machine

/-! ### The fast limiters (14 R503) -/

/-- CURRENT_LIMIT_EVENT (14 R503): the die's clusters drop to duty 32. -/
def execCurrentLimitEvent (die : Nat) (s : State) : Host.Outcome State Fault Refusal :=
  command (.currentLimitEvent die) (!s.clk.limiter.contains die) s
    { s with clk := { s.clk with
        limiter := die :: s.clk.limiter
        limited := die :: s.clk.limited.filter (· != die) } }

/-- CURRENT_LIMIT_RELEASE (14 R503). -/
def execCurrentLimitRelease (die : Nat) (s : State) : Host.Outcome State Fault Refusal :=
  command (.currentLimitRelease die) (s.clk.limiter.contains die) s
    { s with clk := { s.clk with limiter := s.clk.limiter.filter (· != die) } }

/-- DROOP_EVENT (14 R503): a stretched clock changes timing alone; the beat counts it. -/
def execDroopEvent (cluster : Nat) (s : State) : Host.Outcome State Fault Refusal :=
  command (.droopEvent cluster) true s
    { s with clk := { s.clk with drooped := cluster :: s.clk.drooped.filter (· != cluster) } }

/-- The duty at which a cluster issues: at most 32 while its die is limited. -/
def State.dutyOf (s : State) (cl : Nat) : Nat :=
  if s.clk.limiter.contains (cl / 4) then min 32 (s.f F.pwrCl_DUTY cl) else s.f F.pwrCl_DUTY cl

/-! ### Stack temperatures (09 R312) -/

/-- A state that sets at a threshold and clears 3 °C below it. -/
def latched (old : Bool) (t limit : Nat) : Bool := limit ≤ t || (old && limit < t + 3)

/-- One stack's reading. -/
def State.readStack (s : State) (x : Nat × Nat) : State :=
  let (i, t) := x
  let bit (b : Bool) : Nat := if b then 1 else 0
  ((s.setF F.stackStatus_TEMP i (min 255 t)).setF F.stackStatus_HOT i
    (bit (latched (s.b F.stackStatus_HOT i) t (s.f F.stackTempCfg_HOT i)))).setF F.stackStatus_THROTTLE i
    (bit (latched (s.b F.stackStatus_THROTTLE i) t (s.f F.stackTempCfg_THROTTLE i)))

/-- The stacks' readings of a beat. -/
def State.readStacks (s : State) (ts : List Nat) : State :=
  (((List.range 16).zip ts)).foldl State.readStack s

/-! ### Margin (14 R507) -/

/-- A domain's offset, biased by 20 steps of 2.5 mV. -/
def State.marginOf (s : State) (d : Nat) : Nat := SMap.get 20 s.clk.margin d

def State.setMargin (s : State) (d n : Nat) : State :=
  let s := { s with clk := { s.clk with margin := SMap.set 20 s.clk.margin d n } }
  if d < 32 then s.setF F.pwrCl_MARGIN d ((n + 236) % 256) else s

/-- One step more, or at +30 mV a lower highest frequency. -/
def State.raiseMargin (s : State) (d : Nat) : State :=
  if s.marginOf d < 32 then s.setMargin d (s.marginOf d + 1)
  else
    let s := s.setF F.pwrFlags_MARGIN_LIMIT 0 1
    if d < 32 then s.setF F.clFmax_FMAX d (s.f F.clFmax_FMAX d - 25) else s

/-- One domain's slack in a beat. -/
def State.judgeSlack (m : Measure) (s : State) (d : Nat) : State :=
  let run := SMap.get 0 s.clk.highRun d + 1
  let keep (s : State) (n : Nat) : State :=
    { s with clk := { s.clk with highRun := SMap.set 0 s.clk.highRun d n } }
  if m.slackLow.contains d then keep (s.raiseMargin d) 0
  else if !m.slackHigh.contains d then keep s 0
  else if run < 65536 then keep s run
  else keep (s.setMargin d (s.marginOf d - 1)) 0

/-- Offsets and lowered frequencies written to the margin record every 2^24 beats. -/
def State.recordMargins (s : State) : State :=
  if s.beat % 2 ^ 24 != 0 then s
  else
    let f := (s.words .clFmax).map (fun (w : Nat × W32) => (64 + w.1, bitsOf w.2 0 13))
    { s with sec := { s.sec with margins := (List.range 41).map (fun d => (d, s.marginOf d)) ++ f } }

/-- The slacks of a beat; a lowered highest frequency shows in the tables (15 R532). -/
def State.stepMargins (s : State) (m : Measure) : State :=
  let t := (List.range 41).foldl (State.judgeSlack m) s
  let t := if s.words .clFmax == t.words .clFmax then t else t.ploro t.ras.tables
  t.recordMargins

/-! ### Means (14 R498, R509; 13 R479) -/

/-- Whether the last beat ended an interval of TIMEBASE. -/
def State.ends (s : State) (ticks : Nat) : Bool :=
  s.len ≤ s.tun.tb.toNat && s.tun.tb.toNat / ticks != (s.tun.tb.toNat - s.len) / ticks

/-- The nearest whole mean. -/
def meanOf (sum n : Nat) : Nat := if n == 0 then 0 else (2 * sum + n) / (2 * n)

/-- The nearest mean in tens, ties upward (13 R479). -/
def tensOf (sum n : Nat) : Nat := if n == 0 then 0 else (sum + 5 * n) / (10 * n)

/-- What each partition's window shows of the second that ended: the mean in 10 W, the hottest junction,
beats throttled by reason. -/
def State.showTenants (s : State) : State :=
  (List.range 64).foldl (fun s p =>
    let s := (s.setF F.tenMean_POWER p (tensOf s.clk.sumSec s.clk.cntSec)).setF F.tenMean_TEMP p s.clk.hotSec
    (List.range 6).foldl (fun s k =>
      s.setF F.tenThr_BEATS (p * 6 + k) (SMap.get 0 s.clk.thrSec (p * 6 + k))) s) s

/-- The beat's readings entered, and the millisecond and second means when they end. -/
def State.stepMeans (s : State) (m : Measure) : State :=
  let hot := m.dieTemps.foldl max 0
  let s := ((s.setF F.pwrBeat_WATTS 0 m.watts).setF F.pwrBeat_AMPS 0 m.amps)
  let s := ((List.range 9).zip m.dieTemps).foldl (fun (s : State) (x : Nat × Nat) => s.setF F.pwrTemp_TJ x.1 (min 255 x.2)) s
  let s := { s with clk := { s.clk with
    sumMs := s.clk.sumMs + m.watts
    cntMs := s.clk.cntMs + 1
    hotMs := max s.clk.hotMs hot
    sumSec := s.clk.sumSec + m.watts
    cntSec := s.clk.cntSec + 1
    hotSec := max s.clk.hotSec hot } }
  let s := if s.ends 1000000 then
      let s := s.setF F.pwrMs_WATTS 0 (meanOf s.clk.sumMs s.clk.cntMs)
      { s with
        boot := { s.boot with maxTemp := s.clk.hotMs }
        clk := { s.clk with sumMs := 0, cntMs := 0, hotMs := 0 } }
    else s
  if s.ends 1000000000 then
    let s := (s.setF F.pwrSec_WATTS 0 (meanOf s.clk.sumSec s.clk.cntSec)).showTenants
    { s with clk := { s.clk with sumSec := 0, cntSec := 0, hotSec := 0, thrSec := [] } }
  else s

/-! ### Budget and allotment (01 R39; 14 R499, R500) -/

/-- CAP in force: more than 6,400 W acts as 6,400 (14 R499). -/
def State.cap (s : State) : Nat := min 6400 (s.f F.pwrLimit_CAP 0)

/-- Whether a beat's mean power, as the regulators report it to ±1.5 %, keeps the budget that the controller set for
it (01 R39; 14 R498, R499). -/
def State.keepsBudget (s : State) (m : Measure) : Bool :=
  !s.b F.pwrCtrl_ENABLE 0 || 1000 * m.watts ≤ 1015 * s.clk.budget

/-- The budget of the next beat: 7,800 W, CAP once a run above it would span more than 2 ms of ticks, and no more than
keeps the mean of the second at CAP (14 R499; log entry 43). -/
def State.stepBudget (s : State) (m : Measure) : State :=
  let above := if s.cap < m.watts then s.clk.overTicks + s.len else 0
  let peak := if 2000000 < above + s.len then s.cap else 7800
  let second := s.cap * (1000000000 / s.len + 1) - s.clk.sumSec
  { s with clk := { s.clk with overTicks := above, budget := min peak second } }

/-- The power allotted to partitions of given demand and share out of what is available (14 R500): the demands when
they fit; else those above their share are lowered in proportion to their excess, at most to the share; else all in
proportion to what is left of their demand. -/
def allotPower (avail : Nat) (ps : List (Nat × Nat)) : List Nat :=
  let sum (f : Nat × Nat → Nat) : Nat := (ps.map f).foldl (· + ·) 0
  let total := sum Prod.fst
  let excess := sum (fun x => x.1 - x.2)
  let need := total - avail
  if total ≤ avail then ps.map Prod.fst
  else if need ≤ excess then ps.map (fun x => x.1 - ((x.1 - x.2) * need + excess - 1) / excess)
  else
    let low := sum (fun x => min x.1 x.2)
    ps.map (fun x => min x.1 x.2 * avail / low)

/-- A share in watts: PWR_SHARE / 255 of CAP. -/
def State.shareWatts (s : State) (p : Nat) : Nat := s.f F.partCfg_PWR_SHARE p * s.cap / 255

/-- The hints whose phase holds in the beat that begins (14 R504). -/
def State.phases (s : State) : List Hint := s.tun.hints.filter (fun h => h.starts ≤ s.beat && s.beat < h.ends)

/-- Whether a partition is in a quiet phase, its share lent to the others (14 R504). -/
def State.quietPart (s : State) (p : Nat) : Bool := s.phases.any (fun h => h.part == p && h.kind == 4)

/-- A partition's share in the beat: nothing while it is quiet, else its own with what quiet ones lend, in proportion to
the shares (14 R504, log entry 151). -/
def State.shareNow (s : State) (p : Nat) : Nat :=
  if s.quietPart p then 0
  else
    let sum (ps : List Nat) : Nat := (ps.map s.shareWatts).foldl (· + ·) 0
    let lent := sum (s.enabledParts.filter s.quietPart)
    let own := sum (s.enabledParts.filter (fun q => !s.quietPart q))
    s.shareWatts p + (if own == 0 then 0 else s.shareWatts p * lent / own)

/-- What the phases of a partition's contexts reserve for it: LEVEL / 255 of its share each, at most the share (14
R504). -/
def State.reserved (s : State) (p : Nat) : Nat :=
  min (s.shareNow p) ((s.phases.filter (fun h => h.part == p && h.kind < 4)).foldl
    (fun n h => n + h.level * s.shareNow p / 255) 0)

/-- A partition in a beat's allotment: its demand, what it would have without the reservations of phases, and what it
has (14 R500, R504). -/
structure Allotted where
  part : Nat
  demand : Nat
  plain : Nat
  has : Nat

/-- What each partition is allotted of a beat's budget: the reservations first, the rest under R500. The demands and
what no partition draws are estimates, and free (log entry 43). -/
def State.allotments (s : State) : List Allotted × State :=
  let ps := s.enabledParts
  let ds := (List.range ps.length).map (fun k => (Config.freeValue (s.free + 1 + k)).toNat % 8192)
  let avail := s.clk.budget - (Config.freeValue s.free).toNat % 8192
  let shares := ps.map s.shareNow
  let rs := ps.map s.reserved
  let plain := allotPower avail (ds.zip shares)
  let rest := allotPower (avail - rs.foldl (· + ·) 0)
    ((List.zipWith (· - ·) ds rs).zip (List.zipWith (· - ·) shares rs))
  let has := List.zipWith (fun x y => min x.1 x.2 + y) (ds.zip rs) rest
  ((ps.zip (ds.zip (plain.zip has))).map (fun x => ⟨x.1, x.2.1, x.2.2.1, x.2.2.2⟩),
    { s with free := s.free + 1 + ps.length })

/-! ### The step (14 R498) -/

/-- The dies throttled for heat: at or above THROTTLE, until 3 °C below it. -/
def State.hotDies (s : State) (m : Measure) : List Nat :=
  (List.range 8).filter (fun d => latched (s.clk.hot.contains d) (m.dieTemps.getD d 0) (s.f F.pwrTj_THROTTLE 0))

/-- A mask of the clusters that satisfy a test. -/
def clusterMask (p : Nat → Bool) : W32 := ((List.range 32).filter p).foldl (fun (m : W32) c => m ||| bit32 c) 0

/-- The clusters that a partition uses. -/
def State.partClusters (s : State) (p : Nat) : List Nat :=
  ((s.namedCores p).map (fun c => s.physIdx c / 9)).eraseDups

/-- Whether the demand of the beat that begins exceeds the rise that its current may take: RISE / 64 of the last
beat's, or 20 A (14 R504). -/
def State.risesPast (s : State) (m : Measure) : Bool :=
  m.amps + max 20 (m.amps * max 1 (s.f F.pwrCfg_RISE 0) / 64) < m.demandAmps

/-- The clusters that each reason of 14 R502 throttles, in its order: POWER those of the partitions whose allotment is
below their demand, HINT those of the partitions that the reservations of others lower. Which clusters the rise limit
takes is open; it takes none of a partition in a phase. -/
def State.reasonMasks (s : State) (m : Measure) (hot : List Nat) (al : List Allotted) : List W32 × State :=
  let (r, s) := s.draw
  let clusters (f : Allotted → Bool) : List Nat := (al.filter f).flatMap (fun x => s.partClusters x.part)
  let short := clusters (fun x => x.plain < x.demand)
  let exempt := (s.phases.filter (fun h => h.kind < 4)).flatMap (fun h => s.partClusters h.part)
  let current := clusterMask (fun c => s.clk.limited.contains (c / 4) ||
    (s.risesPast m && r.getLsbD c && !exempt.contains c))
  let thermal := clusterMask (fun c => hot.contains (c / 4) ||
    s.b F.stackStatus_THROTTLE (c / 4 * 2) || s.b F.stackStatus_THROTTLE (c / 4 * 2 + 1))
  let droop := clusterMask s.clk.drooped.contains
  let sync := if s.b F.pwrCfg_SYNC_HOLD 0 && s.fab.mark.hold then BitVec.allOnes 32 else 0
  let hint := clusterMask (clusters (fun x => x.has < x.plain && x.has < x.demand)).contains
  ([clusterMask short.contains, current, thermal, droop, sync, hint], s)

/-- A cluster's highest frequency: boost only when allowed, no reason is active for it, and the budget leaves room, every
demand met (14 R488, R498). -/
def State.topFreq (s : State) (cl : Nat) (al : List Allotted) (reasons : List W32) : Nat :=
  let boost := s.b F.pwrCfg_BOOST 0 && reasons.all (fun m => !m.getLsbD cl) && al.all (fun x => x.demand ≤ x.has)
  min (if boost then 4400 else 4000) (s.f F.clFmax_FMAX cl)

/-- The frequency and duty that the allotments give a cluster: the lowest that any of its partitions has, which is the
highest frequency and full duty for one whose demand is met (14 R500). -/
def State.allotted (s : State) (top : Nat) (al : List Allotted) (cl : Nat) : Nat × Nat :=
  let mine := al.filter (fun x => x.has < x.demand && (s.partClusters x.part).contains cl)
  mine.foldl (fun fd x =>
    let p := Config.powerStep x.has x.demand cl
    (min fd.1 (2400 + 25 * (p.1 % ((top - 2400) / 25 + 1))), min fd.2 (8 + p.2 % 57))) (top, 64)

/-- A cluster's frequency and duty for the next beat (14 R499 to R502): fixed by the mode, as the allotments give it,
lowered step by step while its die is hot, and open below that where CURRENT throttles it. -/
def State.actuate (s : State) (m : Measure) (hot : List Nat) (al : List Allotted) (reasons : List W32)
    (cl : Nat) : State :=
  let (r, s) := s.draw
  let oldF := max 2400 (s.f F.pwrCl_FREQ cl)
  let oldD := s.f F.pwrCl_DUTY cl
  let burning := s.f F.pwrTj_THROTTLE 0 ≤ m.dieTemps.getD (cl / 4) 0
  let held := hot.contains (cl / 4)
  let lowered := (reasons.getD 1 0).getLsbD cl
  let top := max 2400 (s.topFreq cl al reasons)
  let give := s.allotted top al cl
  let openD := if lowered then min give.2 (8 + r.toNat / 2 ^ 32 % 57) else give.2
  if s.b F.pwrCfg_MODE 0 then
    let f := 2400 + 25 * min 64 (s.f F.pwrCfg_FIXED_STEP 0)
    let d := if burning then max 8 (oldD - 4) else if held then min oldD openD else openD
    (s.setF F.pwrCl_FREQ cl f).setF F.pwrCl_DUTY cl d
  else
    let openF := if lowered then min give.1 (2400 + 25 * (r.toNat % 2 ^ 32 % ((top - 2400) / 25 + 1))) else give.1
    let f := if burning then max 2400 (oldF - 25) else if held then min oldF openF else openF
    let f := min f top
    (s.setF F.pwrCl_FREQ cl f).setF F.pwrCl_DUTY cl (if f == 2400 then openD else 64)

/-- The reasons recorded: bits, counters, and each partition's beats of the second. -/
def State.recordReasons (s : State) (masks : List W32) : State :=
  let ks := masks.zipIdx.filter (fun x => x.1 != 0)
  let s := s.setF F.pwrStatus_REASONS 0 (ks.foldl (fun m x => m + 2 ^ x.2) 0)
  ks.foldl (fun (s : State) (x : W32 × Nat) =>
    let s := s.bump .pwrEvtLo .pwrEvtHi x.2 1
    (s.enabledParts.filter (fun p => (s.partClusters p).any (fun c => x.1.getLsbD c))).foldl (fun (s : State) p =>
      let k := p * 6 + x.2
      { s with clk := { s.clk with thrSec := SMap.put s.clk.thrSec k (SMap.get 0 s.clk.thrSec k + 1) } }) s) s

/-- Whether ballast may run on a cluster: its clock runs (14 R505). -/
def State.ballastOk (s : State) (cl : Nat) : Bool := !s.unitOff 0 cl && (s.clusterCores cl).any s.coreClocked

/-- Sparge (14 R505): ballast in the next beat where the demand falls below 0.92 of the measured current; a
measured fall of more than 10% shows that it fell short. -/
def State.stepSparge (s : State) (m : Measure) : State :=
  let on := s.b F.pwrCfg_SPARGE 0
  let ran := s.clk.sparge
  let s := s.setF F.pwrStatus_SPARGING 0 (if ran then 1 else 0)
  let s := if ran then s.bump .pwrEvtLo .pwrEvtHi 6 1 else s
  let s := if on && 10 * m.amps < 9 * s.clk.lastAmps then s.setF F.pwrFlags_SPARGE_SHORT 0 1 else s
  let (r, s) := s.draw
  let s := (List.range 32).foldl (fun (s : State) c =>
    s.setF F.pwrCl_BALLAST c (if ran && r.getLsbD c && s.ballastOk c then 1 else 0)) s
  { s with clk := { s.clk with
    lastAmps := m.amps
    sparge := on && 100 * m.demandAmps < 92 * m.amps } }

/-- CORE domains at their frequency (14 R485, R509); one that switches follows after its restart (14 R494). -/
def State.showFreqs (s : State) : State :=
  (List.range 32).foldl (fun (s : State) c =>
    if s.b F.clkDom_PEND c then s else s.setF F.clkDom_FREQ c (s.f F.pwrCl_FREQ c)) s

/-- The frequency and duty of every CORE domain while the controller does not step. -/
def State.floorFreqs (s : State) : State :=
  ((List.range 32).foldl (fun (s : State) c =>
    (s.setF F.pwrCl_FREQ c 2400).setF F.pwrCl_DUTY c 64) s).showFreqs

/-- Whether a cluster runs above 4,000 MHz. -/
def State.boosting (s : State) : Bool := (List.range 32).any (fun c => 4000 < s.f F.pwrCl_FREQ c)

/-- One step of the power controller (14 R498, step 6 of 11 R377). -/
def State.powerStep (s : State) (m : Measure) : State :=
  let clear (s : State) : State :=
    { s with
      clk := { s.clk with limited := s.clk.limiter, drooped := [] }
      fab := { s.fab with mark := { s.fab.mark with hold := false } } }
  let s := { s with tun := { s.tun with hints := s.tun.hints.filter (fun h => s.beat < h.ends) } }
  if !s.b F.pwrCtrl_ENABLE 0 then clear s
  else
    let boosted := s.boosting
    let hot := s.hotDies m
    let s := s.stepMeans m
    let s := s.stepBudget m
    let (al, s) := s.allotments
    let (masks, s) := s.reasonMasks m hot al
    let s := s.recordReasons masks
    let s := (s.setF F.pwrStatus_BOOSTING 0 (if boosted then 1 else 0))
    let s := if boosted then s.bump .pwrEvtLo .pwrEvtHi 7 1 else s
    let s := s.stepSparge m
    let s := s.stepMargins m
    let s := (List.range 32).foldl (fun s c => s.actuate m hot al masks c) s
    let s := { s with clk := { s.clk with hot := hot } }
    clear s.showFreqs

end Sys2Proof.Machine
end

