-- ==== Sys2Proof/Machine/Ras.lean ====
section
/-!
DEFINITION. Faults, spares and service (15 R514 to R535): fences, core-array errors, the cellar, in-field
tests, the directory sample and the die-to-die links.
-/
namespace Sys2Proof.Machine

/-! ### Fences (15 R517 to R520) -/

/-- Whether an identifier names a physical core (01 R30). -/
def coreId (id : Nat) : Bool := id < 512 && id % 16 ≤ 8

/-- The partition that holds a logical core; 0 for the pool. -/
def State.holder (s : State) (c : Nat) : Nat :=
  (s.enabledParts.find? (fun p => (s.namedCores p).contains c)).getD 0

/-- The context of a group's tag, while a task of it is known. -/
def State.tagCtx (s : State) (tag : Nat) : Option Nat :=
  (s.tun.ctxs.find? (fun e => e.2.tasks.any (fun t => t.tags.contains tag))).map Prod.fst

/-- The contexts with a resident group, a queued engine instruction or a transfer on a core, ascending,
with the fault's source. -/
def State.ctxsOn (s : State) (c : Nat) : List (Nat × Nat) :=
  let groups := (s.coreGroups c).map (fun e => 16 * e.2.part + e.2.ctx)
  let mats := (s.core c).mats.filterMap (fun m => s.tagCtx m.gtag)
  let tms := ((s.core c).tm.filter (fun t => !t.xfers.isEmpty)).map (fun t => 16 * t.part + t.ctx)
  (List.range 1024).filterMap (fun k =>
    if groups.contains k || mats.contains k then some (k, 0)
    else if tms.contains k then some (k, 1) else none)

/-- The lowest resident slot of a context on a core. -/
def State.slotOn (s : State) (c key : Nat) : Nat :=
  (((s.coreGroups c).find? (fun e => 16 * e.2.part + e.2.ctx == key)).map (fun e => e.1 % 64)).getD 0

/-- What a cut core leaves behind: nothing queued, nothing in flight (15 R517). -/
def State.emptyCore (s : State) (c : Nat) : State :=
  let x := s.core c
  let t := s.setCore c { x with me0 := [], me1 := [], me2 := [], me3 := [], tm := [] }
  { t with co := { t.co with accesses := SMap.keep (fun _ a => a.who.core != c) t.co.accesses } }

/-- A core fenced (15 R517). Whoever raised the cause has been torn down already. -/
def State.fenceCore (s : State) (i : Nat) : State :=
  if s.fencedPhys i then s
  else
    let s := (s.rset .rasFenced (i / 32) (s.rget .rasFenced (i / 32) ||| bit32 (i % 32))).rasCount 9
    match s.logicalOf i with
    | none => s.ploro []
    | some c =>
      let s := (s.ctxsOn c).foldl (fun (s : State) (k : Nat × Nat) =>
        s.raiseLate c (s.slotOn c k.1) (k.1 / 16) (k.1 % 16) 0x0801 0xFF k.2 (BitVec.ofNat 32 (physIdOf i)) 0) s
      (s.emptyCore c).ploro [s.holder c]

/-- A refused OP of RAS_FENCE. -/
def State.refuseFence (s : State) (reason : Nat) : State :=
  ((s.setF F.rasFence_ERR 0 1).setF F.rasFence_REASON 0 reason).ignored .rasFence 0

/-- The lines of a core's L1 invalidated without write-back (15 R520). -/
def State.emptyL1 (s : State) (c : Nat) : State :=
  (s.l1Lines c).foldl (fun s l => s.surrender c l false) s

/-- A fenced core returned to service (15 R520). -/
def State.unfenceCore (s : State) (i : Nat) : State :=
  let s := match s.logicalOf i with
    | some c => s.emptyL1 c
    | none => s
  let s := s.rset .rasFenced (i / 32) (s.rget .rasFenced (i / 32) &&& ~~~bit32 (i % 32))
  s.ploro (match s.logicalOf i with
    | some c => [s.holder c]
    | none => [])

/-- Whether the spare of its cluster has taken a core's number: it stays fenced until the next boot (15 R522). -/
def State.replaced (s : State) (i : Nat) : Bool :=
  s.fencedPhys i && (s.logicalOf i).isNone && s.f F.clStatus_SPARE_STATE (i / 9) == 1 &&
    s.f F.clStatus_SPARE (i / 9) != i % 9

/-- A write of RAS_FENCE (15 R517, R520, R534). A core that its spare has replaced is not unfenced; the spec gives no
REASON for it (log entry 152). -/
def State.writeFence (s : State) (v : W32) : State :=
  let t := s.code .rasFence 0 v
  let id := bitsOf v 0 9
  if bitsOf v 10 1 == 0 then t
  else if !coreId id then t.refuseFence 1
  else if bitsOf v 9 1 == 0 then (t.setF F.rasFence_REASON 0 0).fenceCore (physIndexOf id)
  else if s.replaced (physIndexOf id) || (s.fencedPhys (physIndexOf id) && !s.ras.tested.contains (physIndexOf id)) then
    t.refuseFence 2
  else (t.setF F.rasFence_REASON 0 0).unfenceCore (physIndexOf id)

/-- What a cause of a fence does. -/
def State.doFence (s : State) (cause : FenceCause) (phys : Nat) : State :=
  match cause with
  | .manager v => s.writeFence v
  | _ => s.fenceCore (physIndexOf phys)

/-- Whether a cause may fence a core: the manager by a write that says so, any other only a core that is
not fenced yet. -/
def State.canFence (s : State) (cause : FenceCause) (phys : Nat) : Bool :=
  match cause with
  | .manager v => bitsOf v 10 1 == 1 && bitsOf v 9 1 == 0 && bitsOf v 0 9 == phys
  | _ => coreId phys && !s.fencedPhys (physIndexOf phys)

/-- CORE_FENCE (15 R517). -/
def execCoreFence (cause : FenceCause) (phys : Nat) (s : State) : Host.Outcome State Fault Refusal :=
  command (.coreFence cause phys) (s.canFence cause phys) s
    (State.service s (s.doFence cause phys))

/-- CORE_UNFENCE (15 R520). -/
def execCoreUnfence (v : W32) (s : State) : Host.Outcome State Fault Refusal :=
  command (.coreUnfence v) (bitsOf v 10 1 == 1 && bitsOf v 9 1 == 1) s
    (State.service s (s.writeFence v))

/-- TILE_OPERATION_TIMEOUT (15 R514): the core of the engine is fenced. -/
def execTileOperationTimeout (core me : Nat) (s : State) : Host.Outcome State Fault Refusal :=
  command (.tileOperationTimeout core me)
    ((s.engineHead core me).any (fun m => m.started) && !s.b F.clkStatus_SAFE 0 && s.corePresent core)
    s (State.service s (s.fenceCore (s.physIdx core)))

/-! ### Core arrays (15 R519) -/

/-- 32 free bytes and the state after drawing them. -/
def State.drawWord (s : State) : List Byte × State :=
  (List.range 4).foldl (fun x _ => (x.1 ++ leBytes 8 x.2.draw.1.toNat, x.2.draw.2)) ([], s)

/-- The context that owns what a core holds. -/
def State.coreOwner (s : State) (c : Nat) : Option Nat :=
  (s.tun.ctxs.find? (fun e => e.2.resident.contains c)).map Prod.fst

/-- The L1 line at a word of the array: which of its set's lines lies there is open (log entry 15). -/
def State.lineAtWord (s : State) (c word : Nat) : Option Nat × State :=
  let inSet := (s.l1Lines c).filter (fun l => Config.l1Set l % 128 == word / 64 % 128)
  (inSet[s.draw.1.toNat % 16]?, s.draw.2)

/-- The data of a word stay as read, that is open (15 R519). -/
def State.spoil (s : State) (c array word : Nat) (line : Option Nat) : State :=
  let (d, t) := s.drawWord
  match array, line with
  | 2, _ => { t with mem := { t.mem with loc := Memory.writeN t.mem.loc (c * 2 ^ 22 + 32 * word % 2 ^ 22) d } }
  | 1, some l => t.l1Write l (32 * (word % 4)) d
  | _, _ => s

/-- An uncorrectable word outside a clean L1 line: the owner is torn down. -/
def State.loseWord (s : State) (c array word : Nat) (line : Option Nat) : State :=
  let s := (s.spoil c array word line).rasCount 7
  match s.coreOwner c with
  | some k => s.raiseLate c (s.slotOn c k) (k / 16) (k % 16) 0x0804 0xFF 0 (BitVec.ofNat 32 (array + 4 * word)) 0
  | none => s

/-- A second uncorrectable error within 65,536 beats fences the core (15 R517). -/
def State.noteUe (s : State) (c : Nat) : State :=
  let now := s.beat
  let old := (SMap.get [] s.ras.ueBeats c).filter (fun b => now < b + 65536)
  let t := { s with ras := { s.ras with ueBeats := SMap.put s.ras.ueBeats c (now :: old) } }
  if old.isEmpty then t else t.fenceCore (t.physIdx c)

/-- A core-array error. -/
def State.doArrayError (s : State) (c array word : Nat) (correctable : Bool) : State :=
  if correctable then s.rasCount 6
  else if array == 1 then
    match s.lineAtWord c word with
    | (some l, t) => if t.l1State c l == some .m then (t.loseWord c 1 word (some l)).noteUe c else t.noteUe c
    | (none, t) => t.noteUe c
  else (s.loseWord c array word none).noteUe c

/-- The words of a core's arrays: registers, and 32-byte words of L1 and Local. -/
def arrayWords (array : Nat) : Nat := if array == 0 then 65536 else if array == 1 then 8192 else 131072

/-- CORE_ARRAY_ERROR (15 R519). -/
def execCoreArrayError (core array word : Nat) (correctable : Bool) (s : State) :
    Host.Outcome State Fault Refusal :=
  command (.coreArrayError core array word correctable)
    (s.corePresent core && !s.fenced core && word < arrayWords array) s
    (State.service s (s.doArrayError core array word correctable))

/-! ### The cellar (15 R521 to R523) -/

/-- A lost contest (15 R531). -/
def State.contend (s : State) (resource claimant : Nat) : State :=
  ((s.setF F.rasFlags_CONTEND 0 1).setF F.rasContendInfo_RESOURCE 0 resource).setF F.rasContendInfo_CLAIMANT 0 claimant

/-- A refused request of RAS_CELLAR. -/
def State.refuseCellar (s : State) (reason : Nat) : State :=
  ((s.setF F.rasCellar_ERR 0 1).setF F.rasCellar_REASON 0 reason).ignored .rasCellar 0

/-- Whether the spare way of a slice is in use (15 R523): the map keeps the way it stands for, plus 1. -/
def State.spareUsed (s : State) (slice : Nat) : Bool := SMap.get 0 s.ras.spareWay slice != 0

/-- A bring-in begins. -/
def State.beginCellar (s : State) (kind target way : Nat) : State :=
  { s with ras := { s.ras with cellar := some (kind, target, way) } }.setF F.rasCellar_BUSY 0 1

/-- A write of RAS_CELLAR (15 R521 to R523, R534). -/
def State.writeCellar (s : State) (v : W32) : State :=
  let t := s.code .rasCellar 0 v
  let id := bitsOf v 1 9
  let i := physIndexOf id
  if bitsOf v 14 1 == 0 || s.b F.rasCellar_BUSY 0 then t
  else
    let t := t.setF F.rasCellar_REASON 0 0
    if bitsOf v 0 1 == 0 then
      if !coreId id then t.refuseCellar 2
      else if !s.fencedPhys i then t.refuseCellar 1
      else if (s.logicalOf i).isNone then t.refuseCellar 2
      else if s.f F.clStatus_SPARE_STATE (i / 9) != 0 then t.refuseCellar 3
      else t.beginCellar 0 i 0
    else if s.spareUsed id then t.refuseCellar 3
    else (t.beginCellar 1 id (bitsOf v 10 4)).setF F.sliceWay_BUSY (id * 16 + bitsOf v 10 4) 1

/-- CORE_SPARE_BRING_IN (15 R522). -/
def execCoreSpareBringIn (v : W32) (s : State) : Host.Outcome State Fault Refusal :=
  command (.coreSpareBringIn v) (bitsOf v 14 1 == 1 && bitsOf v 0 1 == 0) s
    (State.service s (s.writeCellar v))

/-- WAY_SPARE_BRING_IN (15 R523). -/
def execWaySpareBringIn (v : W32) (s : State) : Host.Outcome State Fault Refusal :=
  command (.waySpareBringIn v) (bitsOf v 14 1 == 1 && bitsOf v 0 1 == 1) s
    (State.service s (s.writeCellar v))

/-- A bring-in ends. -/
def State.closeCellar (s : State) : State :=
  { s with ras := { s.ras with cellar := none } }.setF F.rasCellar_BUSY 0 0

/-- A bring-in ends well. -/
def State.doneCellar (s : State) : State :=
  (s.closeCellar.setF F.rasCellar_DONE 0 1).setF F.rasSvcCause_CELLAR 0 1

/-- The registers of a core's block that a new physical core brings with it: all but its configuration
(log entry 44). -/
def State.freshCoreRegs (s : State) (c : Nat) : State :=
  let s := [Reg.coreFlags, .coreFaultStatus, .coreFaultPcLo, .coreFaultPcHi, .coreFaultInfo, .coreGroupSel].foldl
    (fun (s : State) r => s.rset r c (r.resetWord c)) s
  (List.range 8).foldl (fun s j => (s.rset .coreEvtLo (8 * c + j) 0).rset .coreEvtHi (8 * c + j) 0) s

/-- The spare of a cluster takes a logical number (15 R522, 01 R34). -/
def State.placeSpare (s : State) (i c : Nat) : State :=
  let cl := i / 9
  let p := s.f F.clStatus_SPARE cl
  let act := s.f F.clStatus_ACTIVE cl
  let s := s.emptyL1 c
  let s := { s with mem := { s.mem with
    tags := SMap.keep (fun k _ => k / 1024 != c) s.mem.tags
    loc := Memory.clear s.mem.loc (c * 2 ^ 22) (2 ^ 22) } }
  let s := (s.setCore c { CoreSt.reset with phys := some (physIdOf (cl * 9 + p)) }).freshCoreRegs c
  let s := s.setF F.clStatus_ACTIVE cl ((if act / 2 ^ (i % 9) % 2 == 1 then act - 2 ^ (i % 9) else act) ||| 2 ^ p)
  (s.setF F.clStatus_SPARE_STATE cl 1).setF F.rasCellarWays_CORES 0 (s.f F.rasCellarWays_CORES 0 + 1)

/-- A core bring-in ends. -/
def State.endCoreSpare (s : State) (i : Nat) (passed : Bool) : State :=
  match s.logicalOf i with
  | none => s.closeCellar
  | some c =>
    if passed then ((s.placeSpare i c).doneCellar).ploro [s.holder c]
    else ((s.closeCellar.setF F.clStatus_SPARE_STATE (i / 9) 2).refuseCellar 4).ploro [s.holder c]

/-- The dirty lines of a cache-mode way written back, the rest dropped; a scratch way's lines are copied, which
changes nothing that is seen (15 R523). -/
def State.moveWay (s : State) (w : Nat) : State :=
  if s.f F.sliceWay_MODE w == 1 then
    (s.waySlots w).foldl (fun s k => if (SMap.find s.mem.cache k).any (fun c => c.busy == 0) then s.dropSlot k true else s) s
  else s

/-- The spare way of a slice stands for a logical way from now on. -/
def State.keepSpare (s : State) (slice way : Nat) : State :=
  let t := { s with ras := { s.ras with spareWay := SMap.put s.ras.spareWay slice (way + 1) } }
  (t.setF F.rasCellarWays_COUNT 0 (s.f F.rasCellarWays_COUNT 0 + 1)).ploro [s.f F.sliceWay_OWNER (slice * 16 + way)]

/-- A way bring-in ends; a test of the same slice that failed meanwhile has taken the spare. -/
def State.endWaySpare (s : State) (slice way : Nat) : State :=
  let w := slice * 16 + way
  let t := (s.moveWay w).setF F.sliceWay_BUSY w 0
  if s.spareUsed slice then
    if SMap.get 0 s.ras.spareWay slice == way + 1 then t.doneCellar else t.closeCellar.refuseCellar 3
  else (t.keepSpare slice way).doneCellar

/-- Whether the running bring-in can end: the network or the spare is free, and no line of the way is
reduction-busy or being reassigned. -/
def State.cellarReady (s : State) (passed : Bool) : Bool :=
  match s.ras.cellar with
  | none => false
  | some (0, _, _) => s.ras.testing.isNone
  | some (_, slice, way) =>
    passed && s.wayFree (slice * 16 + way) && (SMap.find s.mem.reassign (slice * 16 + way)).isNone &&
      (match s.ras.testing with
        | some (1, sl, _) => sl != slice
        | _ => true)

/-- SPARE_BRING_IN_COMPLETE (15 R521 to R523). -/
def State.endCellar (s : State) (passed : Bool) : State :=
  match s.ras.cellar with
  | none => s
  | some (0, i, _) => s.endCoreSpare i passed
  | some (_, slice, way) => s.endWaySpare slice way

def execSpareBringInComplete (passed : Bool) (s : State) : Host.Outcome State Fault Refusal :=
  command (.spareBringInComplete passed) (s.cellarReady passed) s
    (State.service s (s.endCellar passed))

/-! ### In-field test (15 R524) -/

/-- A refused test. -/
def State.refuseIft (s : State) (reason : Nat) : State :=
  ((s.setF F.rasIftStatus_ERR 0 1).setF F.rasIftStatus_REASON 0 reason).ignored .rasIftCmd 0

/-- Whether another claimant holds the test network (15 R531). -/
def State.networkHeld (s : State) : Bool :=
  s.ras.testing.isSome || s.boot.step == 1 || s.boot.step == 4 ||
    (match s.ras.cellar with
      | some (0, _, _) => true
      | _ => false)

/-- Whether a way bring-in holds or claims the spare of a slice. -/
def State.spareClaimed (s : State) (slice : Nat) : Bool :=
  match s.ras.cellar with
  | some (1, sl, _) => sl == slice
  | _ => false

/-- The test runs. -/
def State.beginIft (s : State) (kind target way : Nat) : State :=
  let s := { s with ras := { s.ras with testing := some (kind, target, way), tested := s.ras.tested.filter (fun x => kind != 0 || x != target) } }
  let s := (s.setF F.rasIftStatus_STATE 0 1).setF F.rasIftStatus_REASON 0 0
  if kind == 1 then s.moveWay (target * 16 + way) else s

/-- A write of RAS_IFT_CMD (15 R524, R531). A test while the network's clock is gated is refused (log entry 152). -/
def State.writeIft (s : State) (v : W32) : State :=
  let t := s.code .rasIftCmd 0 v
  let id := bitsOf v 1 9
  if bitsOf v 14 1 == 0 then t
  else if s.networkHeld then (t.refuseIft 2).contend 0 2
  else if s.unitOff 1 25 then t.refuseIft 1
  else if bitsOf v 0 1 == 0 then
    if coreId id && s.fencedPhys (physIndexOf id) then t.beginIft 0 (physIndexOf id) 0 else t.refuseIft 1
  else if s.spareClaimed id then (t.refuseIft 1).contend 1 1
  else if s.spareUsed id then t.refuseIft 1
  else t.beginIft 1 id (bitsOf v 10 4)

/-- IN_FIELD_TEST (15 R524). -/
def execInFieldTest (v : W32) (s : State) : Host.Outcome State Fault Refusal :=
  command (.inFieldTest v) (bitsOf v 14 1 == 1) s (State.service s (s.writeIft v))

/-- A test ends: a core that passed may be unfenced, a way's lines move back or stay on the spare. -/
def State.endIft (s : State) (passed : Bool) : State :=
  match s.ras.testing with
  | none => s
  | some (kind, target, way) =>
    let t := { s with ras := { s.ras with testing := none } }.setF F.rasIftStatus_STATE 0 (if passed then 2 else 3)
    if kind == 0 then
      if passed then { t with ras := { t.ras with tested := target :: t.ras.tested } } else t
    else if passed then t.moveWay (target * 16 + way)
    else t.keepSpare target way

/-- Whether the running test can end: no line of a tested way is reduction-busy. -/
def State.iftReady (s : State) : Bool :=
  match s.ras.testing with
  | none => false
  | some (0, _, _) => true
  | some (_, slice, way) => s.wayFree (slice * 16 + way)

/-- IN_FIELD_TEST_COMPLETE (15 R524). -/
def execInFieldTestComplete (passed : Bool) (s : State) : Host.Outcome State Fault Refusal :=
  command (.inFieldTestComplete passed) s.iftReady s (State.service s (s.endIft passed))

/-! ### The directory sample (15 R534) -/

/-- The 301 bits of a directory entry (08 R285). -/
def DirEntry.bits (e : DirEntry) : Nat :=
  let st := match e.state with
    | .u => 0
    | .sh => 1
    | .ex => 2
    | .p => 3
  e.sharers.toNat + st * 2 ^ 288 + e.fwd % 512 * 2 ^ 291 + (if e.transient then 1 else 0) * 2 ^ 300

/-- A write of DIR_SEL; GO samples the entry. A slot without an entry is in state U. -/
def State.writeDirSel (s : State) (v : W32) : State :=
  let t := s.code .rasDirSel 0 v
  if bitsOf v 31 1 == 0 then t
  else
    let e := s.mem.dir.find? (fun e =>
      e.2.slice == bitsOf v 0 9 && e.2.set == bitsOf v 9 8 && e.2.way == bitsOf v 17 4)
    let n := match e with
      | some e => e.2.bits
      | none => 0x1FF * 2 ^ 291
    (List.range 10).foldl (fun s k => s.rset .rasDirData k (BitVec.ofNat 32 (n / 2 ^ (32 * k)))) t

/-- DIRECTORY_SAMPLE (15 R534). -/
def execDirectorySample (v : W32) (s : State) : Host.Outcome State Fault Refusal :=
  command (.directorySample v) (bitsOf v 31 1 == 1) s (s.writeDirSel v)

/-! ### Die-to-die links (15 R525 to R530) -/

def State.d2dState (s : State) (q : Nat) : Nat := s.f F.d2dStatus_STATE q

/-- The lanes of a port that no spare carries. -/
def State.lostLanes (s : State) (q : Nat) : List Nat := SMap.get [] s.ras.d2dFailed q

/-- The widest width the lanes allow, coded as WIDTH: a neighbour port has no half (15 R526, R527). -/
def State.d2dWidest (s : State) (q : Nat) : Nat :=
  let ls := s.lostLanes q
  if ls.isEmpty then 2
  else if 16 ≤ q then 0
  else if ls.all (fun l => 256 ≤ l) || ls.all (fun l => l < 256) then 1
  else 0

/-- A retrain of both sides ordered. -/
def State.d2dOrder (s : State) (q : Nat) : State :=
  { (s.setF F.d2dStatus_STATE q 1).bump .d2dEvtLo .d2dEvtHi q 1 with
    ras := { s.ras with d2dRes := SMap.drop s.ras.d2dRes q } }

/-- Whether a die is reached by a Tun port of its own. -/
def State.dieUp (s : State) (d : Nat) : Bool :=
  !s.ras.isolated.contains d && [2 * d, 2 * d + 1].any (fun q => 1 ≤ s.d2dState q && s.d2dState q ≤ 3)

/-- The neighbour ports of a die with the die they lead to, the lower-numbered die first (15 R525, R528). -/
def neighbours (d : Nat) : List (Nat × Nat) :=
  let up := (16 + d, (d + 1) % 8)
  let down := (16 + (d + 7) % 8, (d + 7) % 8)
  if up.2 < down.2 then [up, down] else [down, up]

/-- The neighbour port over which a die without Tun ports is detoured. -/
def State.detour (s : State) (d : Nat) : Option Nat :=
  ((neighbours d).find? (fun n => (s.d2dState n.1 == 2 || s.d2dState n.1 == 5) && s.dieUp n.2)).map Prod.fst

/-- Whether both Tun ports of a die have failed, or it is isolated and none is back (15 R530). -/
def State.dieCut (s : State) (d : Nat) : Bool :=
  [2 * d, 2 * d + 1].all (fun q => s.d2dState q == 4 || (s.ras.isolated.contains d && s.d2dState q == 1))

/-- A copy engine's request ends with a fault. -/
def State.endEngine (s : State) (e code : Nat) (info : W32) : State :=
  match SMap.find s.tun.copies e with
  | some c => s.engineFault e c code info
  | none => s

/-- A request that waits at a home ends with a fault (15 R530); a window's or the fabric's is answered by its own
command. -/
def State.endTxn (s : State) (line code : Nat) (r : HomeReq) : State :=
  let info : W32 := BitVec.ofNat 32 (line * 128)
  match r with
  | .gets core slot => s.raise (.group core slot) code 0xFF info
  | .getm core slot => s.raise (.group core slot) code 0xFF info
  | .naRead (.group core slot) => s.raise (.group core slot) code 0xFF info
  | .naRead (.xfer core cmd idx) => s.faultXfer core cmd idx code info
  | .naWrite (.group core slot) _ _ => s.raise (.group core slot) code 0xFF info
  | .naWrite (.xfer core cmd idx) _ _ => s.faultXfer core cmd idx code info
  | .naRead (.copyEngine e) => s.endEngine e code info
  | .naWrite (.copyEngine e) _ _ => s.endEngine e code info
  | _ => s

/-- The requests at the homes of a die end with fault 0x0802. -/
def State.endHomes (s : State) (d : Nat) : State :=
  let code := lostDie d
  let ops := s.mem.farOps.filter (fun o => o.slice / 64 == d)
  let s := ops.foldl (fun s o => s.farFault o code (BitVec.ofNat 64 (o.line * 128))) s
  let txs := s.mem.txns.filter (fun e => (s.homeOf e.1).1 / 64 == d)
  let s := { s with mem := { s.mem with
    txns := SMap.keep (fun k _ => (s.homeOf k).1 / 64 != d) s.mem.txns
    dir := SMap.mapVals (fun _ e => if e.slice / 64 == d then { e with transient := false } else e) s.mem.dir } }
  txs.foldl (fun (s : State) (e : Nat × HomeTxn) =>
    (e.2.req :: e.2.queue).foldl (fun s r => s.endTxn e.1 code r) s) s

/-- A die isolated (15 R530). -/
def State.isolate (s : State) (d : Nat) : State :=
  let s := { s with ras := { s.ras with isolated := s.ras.isolated ++ [d] } }.setF F.cdStatus_ISOLATED d 1
  let s := (List.range 36).foldl (fun s j => s.fenceCore (36 * d + j)) s
  (s.endHomes d).ploro s.ras.tables

/-- A die that a Tun port or a detour reaches again. -/
def State.rejoin (s : State) (d : Nat) : State :=
  ({ s with ras := { s.ras with isolated := s.ras.isolated.filter (· != d) } }.setF F.cdStatus_ISOLATED d 0).ploro
    s.ras.tables

/-- One die judged after ports have changed. -/
def State.judgeDie (s : State) (d : Nat) : State :=
  let cut := s.dieCut d && (s.detour d).isNone
  if cut && !s.ras.isolated.contains d then s.isolate d
  else if !cut && s.ras.isolated.contains d then s.rejoin d
  else s

/-- Which neighbour ports carry a detour (STATE DETOUR, log entry 45). -/
def State.showDetours (s : State) : State :=
  let ds := (List.range 8).filterMap (fun d => if s.dieCut d then s.detour d else none)
  (List.range 8).foldl (fun s d =>
    let q := 16 + d
    if s.d2dState q == 2 && ds.contains q then s.setF F.d2dStatus_STATE q 5
    else if s.d2dState q == 5 && !ds.contains q then s.setF F.d2dStatus_STATE q 2
    else s) s

/-- What follows a change of ports: dies judged until nothing changes, detours shown, tables updated. -/
def State.judgeDies (s : State) : State :=
  let pass (s : State) : State := (List.range 8).foldl State.judgeDie s
  let s := (List.range 8).foldl (fun s _ => pass s) s
  s.showDetours.ploro []

/-- A lane fails (15 R526, R527). -/
def State.doLane (s : State) (q lane : Nat) : State :=
  let used := s.f F.d2dStatus_SPARES_USED q
  if q < 16 && used < 32 then (s.setF F.d2dStatus_SPARES_USED q (used + 1)).d2dOrder q
  else
    let s := { s with ras := { s.ras with d2dFailed := SMap.put s.ras.d2dFailed q (lane :: (s.lostLanes q).filter (· != lane)) } }
    if s.d2dWidest q == 0 then s.setF F.d2dStatus_STATE q 4 else s.d2dOrder q

/-- D2D_LANE_FAILURE (15 R525 to R527). -/
def execD2dLaneFailure (port lane : Nat) (s : State) : Host.Outcome State Fault Refusal :=
  command (.d2dLaneFailure port lane)
    (s.d2dState port != 0 && s.d2dState port != 4 && lane < 512 && !(s.lostLanes port).contains lane)
    s (State.service s (s.doLane port lane).judgeDies)

/-- A port's STATE at a width (15 R526, R535). -/
def State.setWidth (s : State) (q width : Nat) : State :=
  let s := { s with ras := { s.ras with d2dTries := SMap.drop s.ras.d2dTries q, d2dRes := SMap.drop s.ras.d2dRes q } }
  (s.setF F.d2dStatus_WIDTH q width).setF F.d2dStatus_STATE q (if width == 2 then 2 else if width == 1 then 3 else 4)

/-- Training completes (15 R529). After a partial reset only the reset side reports, and a width other than
the one the other side holds has both sides retrain. -/
def State.doD2dTrained (s : State) (q capTun capDie : Nat) : State :=
  match SMap.get 0 s.ras.d2dRes q with
  | 0 =>
    let s := (s.setF F.d2dStatus_CAP_TUN q capTun).setF F.d2dStatus_CAP_DIE q capDie
    s.setWidth q (min capTun capDie)
  | side =>
    let cap := if side == 1 then capTun else capDie
    let t := s.setF (if side == 1 then F.d2dStatus_CAP_TUN else F.d2dStatus_CAP_DIE) q cap
    if cap == s.f F.d2dStatus_WIDTH q then t.setWidth q cap else t.d2dOrder q

/-- Whether the capabilities suit the lanes. -/
def State.capsOk (s : State) (q capTun capDie : Nat) : Bool :=
  capTun ≤ 2 && capDie ≤ 2 && (SMap.get 0 s.ras.d2dRes q != 0 || min capTun capDie ≤ s.d2dWidest q) &&
    (q < 16 || (capTun != 1 && capDie != 1))

/-- D2D_TRAINING_COMPLETE (15 R529). -/
def execD2dTrainingComplete (port capTun capDie : Nat) (s : State) : Host.Outcome State Fault Refusal :=
  command (.d2dTrainingComplete port capTun capDie) (s.d2dState port == 1 && s.capsOk port capTun capDie)
    s
    (State.service s (s.doD2dTrained port capTun capDie).judgeDies)

/-- A training attempt fails; the third within a second makes the port FAILED (15 R528). -/
def State.doTrainTimeout (s : State) (q : Nat) (withinSecond : Bool) : State :=
  let n := if withinSecond then SMap.get 0 s.ras.d2dTries q + 1 else 1
  if 3 ≤ n then
    { s with ras := { s.ras with d2dTries := SMap.drop s.ras.d2dTries q, d2dRes := SMap.drop s.ras.d2dRes q } }.setF
      F.d2dStatus_STATE q 4
  else { s with ras := { s.ras with d2dTries := SMap.put s.ras.d2dTries q n } }

/-- D2D_TRAINING_TIMEOUT (15 R528, R530). -/
def execD2dTrainingTimeout (port : Nat) (withinSecond : Bool) (s : State) : Host.Outcome State Fault Refusal :=
  command (.d2dTrainingTimeout port withinSecond) (s.d2dState port == 1 && !s.b F.clkStatus_SAFE 0)
    s (State.service s (s.doTrainTimeout port withinSecond).judgeDies)

/-- One side's port logic reset; the port trains (15 R529). -/
def State.partialReset (s : State) (q : Nat) (dieSide : Bool) : State :=
  { s.setF F.d2dStatus_STATE q 1 with
    ras := { s.ras with d2dRes := SMap.put s.ras.d2dRes q (if dieSide then 2 else 1) } }

/-- A write of RAS_D2D_CTRL (15 R535). A port that boot has not trained stays DOWN; RESET comes first where
both are written. -/
def State.writeD2d (s : State) (q : Nat) (v : W32) : State :=
  let t := s.code .d2dCtrl q v
  if s.d2dState q == 0 then t
  else if bitsOf v 1 1 == 1 && s.d2dState q != 4 then t.partialReset q (bitsOf v 2 1 == 1)
  else if bitsOf v 0 1 == 1 || bitsOf v 1 1 == 1 then t.d2dOrder q
  else t

/-- D2D_RETRAIN (15 R529, R535). -/
def execD2dRetrain (port : Nat) (v : W32) (s : State) : Host.Outcome State Fault Refusal :=
  command (.d2dRetrain port v) (bitsOf v 0 1 == 1) s (State.service s (s.writeD2d port v).judgeDies)

/-- D2D_PARTIAL_RESET (15 R529). -/
def execD2dPartialReset (port : Nat) (v : W32) (s : State) : Host.Outcome State Fault Refusal :=
  command (.d2dPartialReset port v) (bitsOf v 1 1 == 1) s (State.service s (s.writeD2d port v).judgeDies)

/-- D2D_FATAL_ERROR (15 R529). -/
def execD2dFatalError (port : Nat) (dieSide : Bool) (s : State) : Host.Outcome State Fault Refusal :=
  command (.d2dFatalError port dieSide) (s.d2dState port != 0 && s.d2dState port != 4) s
    (State.service s (s.partialReset port dieSide).judgeDies)

end Sys2Proof.Machine
end

