-- ==== Sys2Proof/Machine/Boot.lean ====
section
/-!
DEFINITION. Rails, resets, boot and the management port (17 R567 to R582; 13 R449, R455 to R459): power up
and down, cold reset, the steps of boot, PERST_N, the thermal safe state.
-/
namespace Sys2Proof.Machine

/-! ### What the resets keep (17 R578) -/

/-- What the flash and the MRAM of the Keg hold. -/
def SecState.stored (x : SecState) : SecState :=
  { SecState.reset with
    keg := x.keg, fwSlots := x.fwSlots, conf := x.conf, repairs := x.repairs, retired := x.retired,
    margins := x.margins }

/-- The block with every register and memory at reset: what stays is what the flash and the MRAM hold, the
state of the reference clocks, the queue, and what has been sent. -/
def State.blank (s : State) : State :=
  { State.reset with
    sec := s.sec.stored, clk := { ClkState.reset with failed := s.clk.failed }
    out := s.out, free := s.free, pending := s.pending }

/-- Whether a register key lies in TUN_AON, which a loss of VIN_MAIN keeps (16 R548). -/
def aonKey (k : Nat) : Bool := Reg.all.any (fun r => r.info.blk == .tunAon && r.num == k / 2 ^ 24)

/-- The main domain at reset, the always-on domain as it stands; the Keg has been powered up anew (17
R578), so its link is down and SEED not served. -/
def State.blankMain (s : State) : State :=
  { s.blank with
    regs := SMap.keep (fun k _ => aonKey k) s.regs, aon := s.aon, aonCopy := s.aonCopy }.noteKeg

/-! ### Rails (17 R567 to R571) -/

/-- VIN_AUX in its range (17 R569): AON reset. -/
def State.auxOn (s : State) : State :=
  { s.blank with
    boot := { BootState.reset with
      straps := s.boot.straps, aux := true, main := s.boot.main, perst := s.boot.perst, pwrgoodLow := true } }.noteKeg

/-- VIN_AUX_ON (17 R569): outside its range it brings nothing up; beyond the absolute maximum the spec states
no behaviour (17 R568). -/
def execVinAuxOn (mv : Nat) (s : State) : Host.Outcome State Fault Refusal :=
  if 3900 < mv then .fault (.absoluteMaximum mv)
  else command (.vinAuxOn mv) (!s.boot.aux) s
    (if 3135 ≤ mv && mv ≤ 3465 then s.auxOn else s)

/-- VIN_MAIN in its range (17 R569, R570): MAIN_LOST sets when it returns after a loss that VIN_AUX outlived. -/
def State.mainOn (s : State) : State :=
  let t := { s with boot := { s.boot with main := true } }
  if t.boot.lost && t.boot.aux then
    { t with boot := { t.boot with lost := false } }.setF F.aonEvent_MAIN_LOST 0 1
  else t

/-- VIN_MAIN_ON (17 R569, R570). -/
def execVinMainOn (mv : Nat) (s : State) : Host.Outcome State Fault Refusal :=
  if 14000 < mv then .fault (.absoluteMaximum mv)
  else command (.vinMainOn mv) (!s.boot.main) s
    (if 11400 ≤ mv && mv ≤ 12600 then s.mainOn else s)

/-- VIN_AUX lost (17 R570): every regulator off, both rails count as lost. -/
def State.auxLoss (s : State) : State :=
  { s.kegPowerLoss.blank with
    boot := { BootState.reset with straps := s.boot.straps, main := s.boot.main, perst := s.boot.perst } }

/-- VIN_AUX_LOSS (17 R570). -/
def execVinAuxLoss (s : State) : Host.Outcome State Fault Refusal :=
  command .vinAuxLoss s.boot.aux s s.auxLoss

/-- VIN_MAIN lost (17 R570): the always-on domain keeps running. -/
def State.mainLoss (s : State) : State :=
  if s.boot.aux then
    { s.blankMain with
      boot := { BootState.reset with
        straps := s.boot.straps, aux := true, perst := s.boot.perst, pwrgoodLow := true, lost := true
        thermtripN := s.boot.thermtripN, alertN := s.boot.thermtripN } }
  else { s with boot := { s.boot with main := false } }

/-- VIN_MAIN_LOSS (17 R570). -/
def execVinMainLoss (s : State) : Host.Outcome State Fault Refusal :=
  command .vinMainLoss s.boot.main s s.mainLoss

/-- Frequencies after reset (14 R485); those of the HBM PHYs follow when the records give RATE. -/
def State.resetFreqs (s : State) : State :=
  let put (s : State) (ns : List Nat) (f : Nat) : State := ns.foldl (fun s n => s.setF F.clkDom_FREQ n f) s
  put (put (put s.floorFreqs ((List.range 9).map (32 + ·)) 2000) [57, 58, 59, 60] 1562) [61] 500

/-- The sources as they stand (14 R509). -/
def State.showSources (s : State) : State :=
  [ClockSource.iosc, .refclkSys, .refclkPcie].foldl (fun s x =>
    s.setF (okBit x) 0 (if s.clk.failed.contains x then 0 else 1)) s

/-- What a die's straps read (17 R575). -/
def State.strap (s : State) (d : Nat) : Nat := s.boot.straps.getD d (strapOf d)

/-- Whether a die's straps hold odd parity over all four. -/
def State.strapOk (s : State) (d : Nat) : Bool := (s.strap d + s.strap d / 2 + s.strap d / 4 + s.strap d / 8) % 2 == 1

/-- A die learns its number, ROTATION and MIRROR from its straps (01 R23, 17 R575). -/
def State.sampleStraps (s : State) (d : Nat) : State :=
  let n := s.strap d % 8
  ((s.setF F.cdStatus_DIE d n).setF F.cdStatus_ROTATION d (n / 2)).setF F.cdStatus_MIRROR d (n % 2)

/-- Cold reset ends (17 R578): PWRGOOD is released, the straps are sampled (R575), boot step 1 begins. -/
def State.coldReset (s : State) : State :=
  let t := { s.blankMain with
    boot := { BootState.reset with
      straps := s.boot.straps, aux := true, main := true, regulators := true, step := 1, perst := s.boot.perst
      thermtripN := s.boot.thermtripN, alertN := s.boot.thermtripN } }
  let t := (List.range 8).foldl (fun t d => (t.setF F.cdStatus_IORING_OK d 1).sampleStraps d) t
  t.resetFreqs.showSources

/-- REGULATORS_IN_REGULATION (17 R578). -/
def execRegulatorsInRegulation (s : State) : Host.Outcome State Fault Refusal :=
  command .regulatorsInRegulation (s.boot.aux && s.boot.main && !s.boot.regulators && !s.boot.thermal)
    s s.coldReset

/-! ### The thermal safe state (17 R581, R582) -/

/-- What a trip does within a millisecond: pins, issue, lasers, stacks, regulators. -/
def State.trip (s : State) (what : TripSource) : State :=
  let s := match what with
    | .stack n => s.setF F.stackStatus_TRIPPED n 1
    | .die _ => s
  let s := (s.darkPorts.selfRefresh true).dropLink
  { s with boot := { s.boot with
    thermal := true, thermtripN := true, regulators := false, pwrgoodLow := true, result := 4 } }

/-- Whether a trip can come from a source: nine dies, sixteen stacks. -/
def tripOk : TripSource → Bool
  | .die n => n < 9
  | .stack n => n < 16

/-- THERMAL_TRIP (17 R581). -/
def execThermalTrip (what : TripSource) (s : State) : Host.Outcome State Fault Refusal :=
  command (.thermalTrip what) (s.boot.regulators && !s.boot.thermal && tripOk what)
    s (State.service s (s.trip what))

/-- Every junction sensor reads below 95 °C (17 R582). -/
def cool (tj : List Nat) : Bool := tj.all (· < 95)

/-- THERMAL_RECHECK (17 R582). -/
def execThermalRecheck (tj : List Nat) (s : State) : Host.Outcome State Fault Refusal :=
  command (.thermalRecheck tj) (s.boot.step == 1 && s.boot.result == 0 && s.boot.thermtripN)
    s
    (State.service s (if cool tj then { s with boot := { s.boot with thermtripN := false } } else s))

/-! ### Settings records (13 R457 to R459) -/

/-- An entry of a SETTINGS record. -/
structure Setting where
  reg : Reg
  idx : Nat
  value : W32
  mask : W32
  deriving DecidableEq, Repr

/-- The entry at the head of a payload; none when it names no register. -/
def State.settingAt (s : State) (d : List Byte) : Option Setting :=
  (Block.all.find? (fun b => b.code == fieldAt d 0 2)).bind (fun b =>
    (s.regAt b (fieldAt d 2 2) (fieldAt d 4 4)).map (fun x =>
      ⟨x.1, x.2, BitVec.ofNat 32 (fieldAt d 8 4), BitVec.ofNat 32 (fieldAt d 12 4)⟩))

/-- The whole entries of a payload. -/
def chunks (n : Nat) (d : List Byte) : List (List Byte) :=
  (List.range (d.length / n)).map (fun i => (d.drop (n * i)).take n)

/-- The fields whose Reset is CFG, as a mask over their register (00 R13). -/
def cfgMask : Reg → W32
  | .llmRgnDesc => 0x003FFF7F
  | .hbmCtlCfg => 0x03000000
  | .bxfCtlCfg | .bxfCtlBmaster | .bxfCtlColl => 0x0001FFFF
  | .bxfCtlRouteData => 0x00003FFF
  | .beatCtrl => 2
  | .beatCfg => 0x0001FFFF
  | .beatInDelay => 0x0000FFFF
  | .rgnown => 0x0000007F
  | .pciCtlCtrl => 1
  | .clkCfg | .pwrCfg => 3
  | .clkTrim => 0x0000FFFF
  | _ => 0

/-- The boot-applied fields (13 R459). -/
def bootMask : Reg → W32
  | .clkDom => 1
  | .portCfg => 0x0007FFFF
  | .portCtrl => 1
  | _ => 0

/-- Beat lengths that R376 allows. -/
def lenLegal (n : Nat) : Bool := n % 64 == 0 && 1024 ≤ n && n ≤ 65536

/-- Whether the fields of a register take a word. -/
def State.settingOk (s : State) (r : Reg) (w : W32) : Bool :=
  match r with
  | .llmRgnDesc => descLegal w
  | .hbmCtlCfg => bitsOf w 24 2 != 3
  | .beatCfg => lenLegal (bitsOf w 0 17)
  | .rgnown => s.canOwn (bitsOf w 0 6)
  | _ => true

/-- A word with the masked bits of another. -/
def merge (old v m : W32) : W32 := (old &&& ~~~m) ||| (v &&& m)

/-- A rejected entry (13 R457). -/
def State.rejectEntry (s : State) : State :=
  s.setF F.secStatus_REJECTED 0 (min 255 (s.f F.secStatus_REJECTED 0 + 1))

/-- An accepted value goes into its register. VALID waits for step 4 and LEN for step 7 (09 R324, 11 R376). -/
def State.putSetting (s : State) (e : Setting) (w m : W32) : State :=
  match e.reg with
  | .beatCfg => s
  | .llmRgnDesc =>
    let t := s.rset .llmRgnDesc e.idx (withBits w 0 1 0)
    if !m.getLsbD 0 then t
    else
      let ns := t.hbm.deferred.filter (· != e.idx)
      { t with hbm := { t.hbm with deferred := if w.getLsbD 0 then ns ++ [e.idx] else ns } }
  | r => s.rset r e.idx w

/-- One entry. -/
def State.applySetting (s : State) (d : List Byte) : State :=
  match s.settingAt d with
  | none => s.rejectEntry
  | some e =>
    let m := e.mask &&& cfgMask e.reg
    let w := merge (s.rget e.reg e.idx) e.value m
    let odd := e.mask &&& ~~~(cfgMask e.reg ||| bootMask e.reg) != 0
    if m != 0 && !s.settingOk e.reg w then s.rejectEntry
    else
      let t := if m != 0 then s.putSetting e w m else s
      if odd then t.rejectEntry else t

/-- A record in force applied. -/
def State.applyRecord (s : State) (r : List Byte) : State :=
  let d := recPayload r
  match recType r with
  | 2 => (chunks 16 d).foldl State.applySetting s
  | 3 => (chunks 8 d).foldl (fun (s : State) e =>
      s.rset .bxfCtlRouteData (fieldAt e 0 2) (BitVec.ofNat 32 (fieldAt e 2 4) &&& cfgMask .bxfCtlRouteData)) s
  | 4 => s.setF F.clkCfg_KUORI_CLK 0 (fieldAt d 0 4 % 2)
  | _ => s

/-- The entries of the records in force, in flash order. -/
def State.settings (s : State) : List Setting :=
  (s.sec.inForce.filter (fun r => recType r == 2)).flatMap (fun r => (chunks 16 (recPayload r)).filterMap s.settingAt)

/-- What the entries give the masked fields of a register. -/
def State.recorded (s : State) (r : Reg) (i : Nat) (m init : W32) : W32 :=
  (s.settings.filter (fun e => e.reg == r && e.idx == i)).foldl (fun w e => merge w e.value (e.mask &&& m)) init

/-- The beat length: the last accepted entry's, else 8,192 (13 R458). -/
def State.recordedLen (s : State) : Nat :=
  (s.settings.filter (fun e => e.reg == .beatCfg)).foldl (fun n e =>
    let w := merge (BitVec.ofNat 32 n) e.value (e.mask &&& cfgMask .beatCfg)
    if lenLegal (bitsOf w 0 17) then bitsOf w 0 17 else n) 8192

/-! ### The steps of boot (17 R579) -/

/-- Boot halts. -/
def State.halt (s : State) (code : Nat) : State :=
  let t := s.darkPorts
  { t with boot := { t.boot with halted := true, haltCode := code, result := 2, pwrgoodLow := false } }

/-- The next step begins. -/
def State.nextStep (s : State) : State := { s with boot := { s.boot with step := s.boot.step + 1 } }

/-- Step 1: the Keg, the PUF and the counters (13 R446, R449). -/
def State.boot1 (s : State) (r : BootReport) : State :=
  let s := { s with boot := { s.boot with thermtripN := false } }
  if !r.selfTestOk then s.halt 0x0101
  else if !r.kegLinkOk then s.halt 0x0102
  else
    let s := s.setF F.kegStatus_LINK 0 1
    if !r.pufOk then s.halt 0x0103
    else if (s.counter 0).isNone || (s.counter 1).isNone then s.halt 0x0104
    else
      let signs := (s.counter 2).isSome && (s.counter 3).isSome
      let s := { s with sec := { s.sec with seedServed := true, vault := true, epochKey := (s.counter 3).getD 0 } }
      let s := (s.setF F.kegStatus_SEEDED 0 1).setF F.secStatus_IDENTITY_ON 0 (if signs then 1 else 0)
      let s := if (s.counter 2).any (2 ^ 40 - 2 ^ 32 < ·) then s.setF F.secFlags_IDX_LOW 0 1 else s
      s.nextStep

/-- A table built (16 R551). -/
def State.buildTable (s : State) (p : Nat) : State :=
  { s with ras := { s.ras with tables := s.ras.tables ++ (if s.ras.tables.contains p then [] else [p]) } }

/-- Step 2: a firmware slot passes, or RECOVERY (13 R452, R454). -/
def State.boot2 (s : State) (r : BootReport) : State :=
  let see (s : State) (n : Nat) (ok : Bool) : State :=
    { s with sec := { s.sec with fwSlots := SMap.put s.sec.fwSlots n { s.fwSlot n with readable := ok } } }
  let s := see (see s 0 r.slotAReadable) 1 r.slotBReadable
  match s.pickFirmware with
  | some n => (s.runFirmware n).nextStep
  | none =>
    let t := (s.setF F.secStatus_SLOT 0 2).buildTable 0
    { t with boot := { t.boot with recovery := true, result := 3 } }

/-- Step 3: the records judged and applied, then the reference switches. -/
def State.boot3 (s : State) : State :=
  let s := match s.confHalf with
    | none => s.setF F.secFlags_REC_BAD 0 1
    | some (_, h) =>
      let x := s.judgeRecords h.data
      let s := { s with sec := { s.sec with inForce := x.1 } }
      let s := s.setF F.secStatus_OWNER 0 (if x.1.any (fun r => recType r == 1) then 1 else 0)
      let s := (s.setF F.secStatus_RECORDS 0 (min 255 x.1.length)).reject x.2
      if (recordsOf h.data).2 == RecEnd.torn then s.setF F.secFlags_REC_BAD 0 1 else s
  let s := s.sec.inForce.foldl State.applyRecord s
  let phy := if s.f F.hbmCtlCfg_RATE 0 == 0 then 1200 else if s.f F.hbmCtlCfg_RATE 0 == 1 then 1000 else 800
  let s := (List.range 16).foldl (fun (s : State) i => s.setF F.clkDom_FREQ (41 + i) phy) s
  let s := (List.range 62).foldl (fun (s : State) n => s.writeDom n (s.recorded .clkDom n 1 0)) s
  s.nextStep

/-- The dies that fail their straps or carry a wrong or doubled number (17 R575, R577). -/
def State.badDies (s : State) : List Nat :=
  let num (d : Nat) : Nat := s.f F.cdStatus_DIE d
  (List.range 8).filter (fun d =>
    !s.strapOk d || num d != d || (List.range 8).any (fun e => e != d && num e == num d))

/-- Every port of a die. -/
def diePorts (d : Nat) : List Nat := [2 * d, 2 * d + 1, 16 + d, 16 + (d + 7) % 8]

/-- The cores and the spare of a cluster (01 R32, R33). -/
def State.placeCluster (s : State) (cl : Nat) (passed : BitVec 9) : State :=
  let ok := (List.range 9).filter (fun p => passed.getLsbD p)
  let act := ok.take 8
  let s := (act.zipIdx).foldl (fun (s : State) (x : Nat × Nat) =>
    s.setCore (cl / 4 * 32 + cl % 4 * 8 + x.2) { CoreSt.reset with phys := some (physIdOf (cl * 9 + x.1)) }) s
  let rest := (List.range 9).filter (fun p => !act.contains p)
  let (spare, st) := if ok.length == 9 then (rest.headD 15, 0) else if ok.length == 8 then (rest.headD 15, 2) else (15, 3)
  let s := (s.setF F.clStatus_PASSED cl passed.toNat).setF F.clStatus_ACTIVE cl (act.foldl (fun m p => m + 2 ^ p) 0)
  let s := (s.setF F.clStatus_SPARE cl spare).setF F.clStatus_SPARE_STATE cl st
  { s with boot := { s.boot with passed := SMap.put s.boot.passed cl passed.toNat } }

/-- A die-to-die port after its training at boot; the ports of a bad die are fenced. -/
def State.trainPort (s : State) (bad : List Nat) (q width : Nat) : State :=
  if bad.any (fun d => (diePorts d).contains q) then
    { s.setF F.d2dStatus_STATE q 4 with
      ras := { s.ras with d2dFailed := SMap.put s.ras.d2dFailed q [0, 256] } }
  else
    let w := if 16 ≤ q && width == 1 then 0 else min 2 width
    ((s.setF F.d2dStatus_CAP_TUN q w).setF F.d2dStatus_CAP_DIE q w).setWidth q w

/-- The retired set of the repair record, and the stacks that fail training, retired without a move (09
R319, R324). A record with no valid copy counts as empty (17 R580). -/
def State.bootStacks (s : State) (r : BootReport) : State :=
  let s := if r.repairsOk then s
    else { s with sec := { s.sec with repairs := [], retired := [] }, boot := { s.boot with badRepairs := true } }
  let kept := s.sec.retired
  let lost := r.failedStacks.flatMap (fun i => (List.range 32).map (fun k => 32 * i + k))
  let s := (kept ++ lost).foldl (fun (s : State) pc => if s.retiredPc pc || 512 ≤ pc then s else s.markRetired pc) s
  let s := { s with sec := { s.sec with retired := kept, repairs := [] } }
  let s := (List.range 16).foldl (fun (s : State) i =>
    if r.failedStacks.contains i then s else (s.setF F.stackStatus_TRAINED i 1).setF F.stackCtrl_ENABLE i 1) s
  (List.range 512).foldl (fun (s : State) pc =>
    let n := r.pprLeft.getD pc 0
    { s with hbm := { s.hbm with pprLeft := SMap.set 0 s.hbm.pprLeft pc n } }.setF F.stackPcStatus_PPR_LEFT pc (min 15 n)) s

/-- The units that firmware brings into service, under EXPLICIT gating (14 R490): which is its choice (log
entry 46). -/
def State.bootGates (s : State) : State :=
  let cls := (List.range 32).filter (fun c => !s.ras.isolated.contains (c / 4))
  let trained := (List.range 16).filter (fun i => s.b F.stackStatus_TRAINED i)
  let s := s.rset .clkGate 0 (cls.foldl (fun (m : W32) c => m ||| bit32 c) 0)
  (s.rset .clkGate 1 (BitVec.ofNat 32 (gateUnits 1))).rset .clkGate 2 (trained.foldl (fun (m : W32) i => m ||| bit32 i) 0)

/-- The margin record in force, each offset 2 steps higher, at most +30 mV (14 R507); one with no valid copy counts as empty (17 R580). -/
def State.bootMargins (s : State) (r : BootReport) : State :=
  let s := if r.marginsOk then s
    else { s with sec := { s.sec with margins := [] }, boot := { s.boot with badMargins := true } }
  s.sec.margins.foldl (fun (s : State) (e : Nat × Nat) =>
    if e.1 < 64 then s.setMargin e.1 (min 32 (e.2 + 2)) else s.setF F.clFmax_FMAX (e.1 - 64) e.2) s

/-- The regions that the records put in service, once the retired set is applied. A mirror that R475 does
not allow has the entry rejected. -/
def State.bootRegions (s : State) : State :=
  let ns := s.hbm.deferred
  ns.foldl (fun (s : State) n => if s.mirrorOk n then s.writeValid n true else s.rejectEntry)
    { s with hbm := { s.hbm with deferred := [] } }

/-- Step 4: cores, dies, stacks, slices, and what rests on them. -/
def State.boot4 (s : State) (r : BootReport) : State :=
  let bad := s.badDies
  let s := (List.range 32).foldl (fun (s : State) cl =>
    s.placeCluster cl (((r.clusters[cl]?).map ClusterTest.passed).getD 0)) s
  let s := (List.range 24).foldl (fun (s : State) q => s.trainPort bad q (r.portWidths.getD q 0)) s
  let s := s.judgeDies
  if s.ras.isolated.length == 8 then s.halt 0x0401
  else
    let s := s.bootStacks r
    let s := (List.range 512).foldl (fun (s : State) n => s.setF F.sliceCtrl_ENABLE n 1) s
    let s := ((s.setF F.llmCtlCtrl_ENABLE 0 1).setF F.hbmCtlCtrl_ENABLE 0 1).setF F.rasCtrl_ENABLE 0 1
    ((s.bootGates.bootMargins r).bootRegions).nextStep

/-- Step 6: the fabric in service, the recorded fields of each port, then its ENABLE (13 R459). -/
def State.boot6 (s : State) : State :=
  let s := s.setF F.bxfCtlCtrl_ENABLE 0 1
  let s := (List.range 8).foldl (fun (s : State) p =>
    s.rset .portCfg p (s.recorded .portCfg p (bootMask .portCfg) (s.rget .portCfg p))) s
  let s := (List.range 8).foldl (fun (s : State) p =>
    let v := s.recorded .portCtrl p 1 0
    if v.getLsbD 0 then s.writePortCtrl p v else s) s
  s.nextStep

/-- Step 7: beats, and the first accepted mark where SOURCE says so (11 R376, R380). -/
def State.boot7 (s : State) (r : BootReport) : State :=
  let s := (s.tick.setF F.beatCfg_LEN 0 s.recordedLen).setF F.beatCtrl_ENABLE 0 1
  let s := if !s.b F.beatCtrl_SOURCE 0 then s
    else
      match r.firstMark with
      | some m => s.takeMark m.port m.mark m.arrival
      | none => s.setF F.bxfCtlBeatStatus_STATE 0 3
  let s := s.nextStep
  { s with boot := { s.boot with result := 1 } }

/-- The end of the step that runs. -/
def State.endStep (s : State) (r : BootReport) : State :=
  match s.boot.step with
  | 1 => s.boot1 r
  | 2 => s.boot2 r
  | 3 => s.boot3
  | 4 => s.boot4 r
  | 5 => (s.buildTable 0).nextStep
  | 6 => s.boot6
  | _ => s.boot7 r

/-- BOOT_STEP_END (17 R579, R582): step 1 does not end while THERMTRIP_N is latched and a sensor reads 95 °C. -/
def execBootStepEnd (r : BootReport) (s : State) : Host.Outcome State Fault Refusal :=
  command (.bootStepEnd r)
    (s.boot.regulators && s.booting && s.boot.result == 0 &&
      (s.boot.step != 1 || !s.boot.thermtripN || cool r.junctions))
    s (State.service s (s.endStep r))

/-! ### Link reset and TAP reset (17 R572, R578) -/

/-- The blocks of a set at their reset words. -/
def State.resetBlocks (s : State) (bs : List Block) : State :=
  let rs := (Reg.all.filter (fun r => bs.contains r.info.blk)).map Reg.num
  { s with regs := SMap.keep (fun k _ => !rs.contains (k / 2 ^ 24)) s.regs }

/-- PERST_N asserted (17 R578): every context torn down, the functions reset, CFG fields reloaded, the
physical function's vector count taken (12 R435). -/
def State.linkReset (s : State) : State :=
  let n := max 1 (s.f F.pciCtlMsixPf_COUNT 0)
  let t := (s.dropLink).resetPf
  let t := t.resetBlocks [.pciFn, .pciCtl]
  let t := t.rset .pciCtlCtrl 0 (t.recorded .pciCtlCtrl 0 1 0)
  { t with
    host := { HostState.reset with pfCount := n }
    boot := { t.boot with perst := true } }

/-- LINK_RESET (17 R578). -/
def execLinkReset (s : State) : Host.Outcome State Fault Refusal :=
  command .linkReset (s.boot.main && !s.boot.perst) s s.linkReset

/-- PERST_DEASSERT (17 R572): the endpoint may train its link. -/
def execPerstDeassert (s : State) : Host.Outcome State Fault Refusal :=
  command .perstDeassert s.boot.perst s { s with boot := { s.boot with perst := false } }

/-- TAP_RESET (17 R578). -/
def execTapReset (s : State) : Host.Outcome State Fault Refusal :=
  command .tapReset true s { s with boot := { s.boot with tapReset := true } }

/-! ### The management port (17 R574) -/

/-- A read of a management command: the port answers while VIN_AUX is present. -/
def mgmtRead (c : Instr) (v : Nat) (s : State) : Host.Outcome State Fault Refusal :=
  command c s.boot.aux s (s.emit (.mgmt v))

/-- BOOT_STEP: command 0x00. -/
def execBootStep (s : State) : Host.Outcome State Fault Refusal := mgmtRead .bootStep s.boot.step s

/-- BOOT_RESULT: command 0x01. -/
def execBootResult (s : State) : Host.Outcome State Fault Refusal := mgmtRead .bootResult s.boot.result s

/-- HALT_CODE: command 0x02. -/
def execHaltCode (s : State) : Host.Outcome State Fault Refusal := mgmtRead .haltCode s.boot.haltCode s

/-- The byte of command 0x03. -/
def State.mgmtStatus (s : State) : Nat :=
  let b (k : Nat) (x : Bool) : Nat := if x then 2 ^ k else 0
  b 0 s.svcRequest + b 1 s.degraded + b 2 (s.b F.clkStatus_SAFE 0) + b 3 s.boot.thermtripN + b 4 s.boot.faultN

/-- MGMT_STATUS_READ: command 0x03. -/
def execMgmtStatusRead (s : State) : Host.Outcome State Fault Refusal := mgmtRead .mgmtStatusRead s.mgmtStatus s

/-- MGMT_TEMPERATURE_READ: command 0x04. -/
def execMgmtTemperatureRead (s : State) : Host.Outcome State Fault Refusal :=
  mgmtRead .mgmtTemperatureRead (if s.boot.main then min 255 s.boot.maxTemp else 0) s

/-- MGMT_POWER_READ: command 0x05. -/
def execMgmtPowerRead (s : State) : Host.Outcome State Fault Refusal :=
  mgmtRead .mgmtPowerRead (if s.boot.main then s.f F.pwrMs_WATTS 0 else 0) s

/-- ALERT_RESPONSE: the target that asserts MGMT_ALERT_N answers. -/
def execAlertResponse (s : State) : Host.Outcome State Fault Refusal :=
  command .alertResponse (s.boot.aux && s.boot.alertN) s (s.emit .alert)

end Sys2Proof.Machine
end

