-- ==== Sys2Proof/Machine/Sealed.lean ====
section
/-!
DEFINITION. Sealed weight packages (13 R472 to R474): the first checks of a load, its chunks, and the writing of their
tiles to a cask region and its mirror.
-/
namespace Sys2Proof.Machine

/-! ### Sealed loads (13 R472 to R474) -/

/-- The region a load writes to; the error is a fault code, 0 for a stall (13 R474). -/
def State.sealedRegion (s : State) (part : Nat) (a : W64) : Except Nat Nat :=
  let ok (r : Nat) : Bool :=
    s.b F.llmRgnDesc_VALID r && s.f F.llmRgnDesc_POLICY r == 2 && s.f F.rgnown_OWNER r == part
  if gaClass a != 1 || !s.ownNode (gaNode a) then .error 0x0503
  else
    match s.mapOwn part (gaOfs a) .copyDestination with
    | .stall => .error 0
    | .fault c => .error c
    | .at (.own _ p) =>
      let r := regionOf p
      if p % 2 ^ 30 == 0 && ok r && ok (s.f F.llmRgnDesc_MIRROR r) then .ok r else .error 0x0503
    | .at _ => .error 0x0503

/-- Bytes of the package: from outside the device, or read through the partition's translation. -/
def State.packageBytes (s : State) (c : EngineCmd) (ofs n : Nat) : Except Nat (List Byte × State) :=
  if c.hsrc || !s.ownNode (gaNode (c.w 1)) then .ok ((c.host.drop ofs).take n, s)
  else State.readRun c.part (n / 128 + 2) (c.w 1 + BitVec.ofNat 64 ofs) n s

/-- "NZVSEALD". -/
def sealMagic : List Byte := [0x4E, 0x5A, 0x56, 0x53, 0x45, 0x41, 0x4C, 0x44]

/-- The package key, when the slot, its circle, the unwrap and the SVN allow it (13 R474). -/
def State.packageKey (s : State) (part slot : Nat) (h : List Byte) : Option (BitVec 256) :=
  match SMap.find s.sec.circles slot with
  | none => none
  | some c =>
    if c.part == part && h.take 8 == sealMagic && fieldAt h 8 4 == 1 && fieldAt h 32 16 == c.circle.toNat &&
        1 ≤ fieldAt h 88 4 && fieldAt h 88 4 ≤ 64 && fieldAt h 92 4 ≤ s.fwSvn then
      (Config.aesUnwrap (leBytes 32 c.key.toNat) ((h.drop 48).take 40)).map (fun k => BitVec.ofNat 256 (leNat k))
    else none

/-- A record of a chunk: the tile and its place in the region, when the record passes its checks (13 R472, R474). -/
def sealedTile (d : List Byte) : Option (Nat × TLoc × TileImage) :=
  let w0 := cleanHeader (BitVec.ofNat 64 (fieldAt d 0 8))
  let tf := hdrFormat w0
  match judge { recordTile tf d with word0 := w0 } tf (hdrRole w0) false with
  | .good img =>
    some (fieldAt d 8176 8, ⟨2, tf, BitVec.ofNat 64 (fieldAt d 8176 8), (fieldAt d 8184 8 : Nat)⟩, img)
  | _ => none

/-- The tiles of a decrypted chunk; 0x0504 when a record fails its checks, else 0x0106 when a place breaks placement
(13 R474 steps 3 and 4). -/
def sealedTiles (ds : List (List Byte)) : Except Nat (List (TLoc × TileImage)) :=
  let ts := ds.filterMap sealedTile
  if ts.length != ds.length then .error 0x0504
  else if ts.all (fun t => t.1 < 2 ^ 30 && t.2.1.placed) then .ok (ts.map Prod.snd)
  else .error 0x0106

/-- The lines of a tile at a region offset. -/
def regionTile (r : Nat) (l : TLoc) : TileLines :=
  let base := r * 2 ^ 30
  let h := base + l.hdrAddr.toNat
  ⟨gLine h, h % 128, (List.range (tilePayload l.tf / 128)).map (fun k => gLine (base + l.ofs) + k),
    (List.range (if tileIsMx l.tf then 2 else 0)).map (fun k => gLine (base + l.sofs.toNat) + k)⟩

/-- One copy of a tile written (03 R93, R94): stalls while BUSY is set. -/
def State.writeSealed (s : State) (e r : Nat) (l : TLoc) (img : TileImage) : Except Nat State :=
  let t := regionTile r l
  let old := BitVec.ofNat 64 (leNat (((s.curLine t.hdr).drop t.hofs).take 8))
  if hdrBusy old then .error 0
  else
    let w := nextHeader old false (hdrRole img.word0) (hdrFormat img.word0) (hdrVrows img.word0)
      (hdrVcols img.word0) (16 + e) 2
    let s := (t.hdr :: t.pay ++ t.scl).foldl (fun s l => s.clearPoison l) s
    s.putTile t w img.trim.payload img.trim.scale

/-- The state of an AES engine that has passed its first checks (13 R474). -/
def State.setAes (s : State) (e : Nat) (c : EngineCmd) : State :=
  { s with tun := { s.tun with aes := SMap.put s.tun.aes e c } }

/-- The engine is free; its package key is discarded (13 R474). -/
def State.freeAes (s : State) (e : Nat) : State :=
  { s with tun := { s.tun with aes := SMap.drop s.tun.aes e } }

/-- A load that ends in a fault; a failed chunk is counted (13 R482). -/
def State.sealedFault (s : State) (e : Nat) (c : EngineCmd) (code : Nat) : State :=
  let s := s.freeAes e
  let s := if code == 0x0501 || code == 0x0504 then s.bump .secEvtLo .secEvtHi 3 1 else s
  s.faultCmd c.key c.idx code 0

/-- The first checks, before anything is written (13 R474). -/
def State.sealedStart (s : State) (e : Nat) (c : EngineCmd) : Ran :=
  match s.sealedRegion c.part (c.w 2) with
  | .error 0 => .stop s
  | .error x => .finished (s.sealedFault e c x)
  | .ok r =>
    match s.packageBytes c 0 256 with
    | .error 0 => .stop s
    | .error x => .finished (s.sealedFault e c x)
    | .ok (h, s) =>
      match s.packageKey c.part (fld (c.w 3) 0 4) h with
      | none => .finished (s.sealedFault e c 0x0502)
      | some key =>
        let count := fld (c.w 4) 32 32
        let k : Seal := ⟨r, fieldAt h 88 4, key, h, if count == 0 then fieldAt h 12 4 - fld (c.w 4) 0 32 else count⟩
        .go (s.setAes e { c with sealing := some k })

/-- Steps 1 and 2: the chunk at the cursor read into the buffer in the Tun, decrypted and checked (13 R474). -/
def State.sealedRead (s : State) (e : Nat) (c : EngineCmd) (k : Seal) : Ran :=
  let n := fld (c.w 4) 0 32 + c.cursor / (2 * k.tiles)
  match s.packageBytes c (4096 * (1 + n * (2 * k.tiles + 1))) (8192 * k.tiles + 16) with
  | .error 0 => .stop s
  | .error x => .finished (s.sealedFault e c x)
  | .ok (d, s) =>
    match Config.gcmOpen k.key (leBytes 8 n ++ zeros 4) k.header (d.take (8192 * k.tiles)) (d.drop (8192 * k.tiles)) with
    | none => .finished (s.sealedFault e c 0x0501)
    | some p =>
      match sealedTiles ((List.range k.tiles).map (fun i => (p.drop (8192 * i)).take 8192)) with
      | .error x => .finished (s.sealedFault e c x)
      | .ok _ => .go (s.setAes e { c with stage := .held 0 p [], wait := TileWait.fresh })

/-- The region that the next write goes to: the primary at an even cursor, its mirror at an odd one. -/
def State.sealedSide (s : State) (c : EngineCmd) (k : Seal) : Nat :=
  if c.cursor % 2 == 0 then k.region else s.f F.llmRgnDesc_MIRROR k.region

/-- The record that the next write takes its tile from. -/
def EngineCmd.sealRecord (c : EngineCmd) (k : Seal) (p : List Byte) : List Byte :=
  (p.drop (8192 * (c.cursor / 2 % k.tiles))).take 8192

/-- Step 5: one tile written to the primary or to the mirror; the engine waits while its tile is BUSY (03 R94). -/
def State.sealedWrite (s : State) (e : Nat) (c : EngineCmd) (k : Seal) (p : List Byte) : Ran :=
  let next := { c with
    cursor := c.cursor + 1
    stage := if (c.cursor + 1) % (2 * k.tiles) == 0 then .next else c.stage
    wait := TileWait.fresh }
  match sealedTile (c.sealRecord k p) with
  | none => .finished (s.sealedFault e c 0x0504)
  | some (_, l, img) =>
    if c.cursor % 2 == 1 && s.sealedSide c k == k.region then .go (s.setAes e next)
    else
      match s.writeSealed e (s.sealedSide c k) l img with
      | .error 0 => .stop (s.setAes e { c with wait := s.openWait c.wait })
      | .error x => .finished (s.sealedFault e c x)
      | .ok s => .go (s.setAes e next)

/-- The load has written every tile: PACKAGE_ID is set and the command ends (13 R474). -/
def State.sealedEnd (s : State) (e : Nat) (c : EngineCmd) (k : Seal) : State :=
  let s := { s with sec := { s.sec with
    packageId := SMap.set 0 s.sec.packageId k.region (BitVec.ofNat 128 (fieldAt k.header 16 16)) } }
  (s.freeAes e).endCmd c.key c.idx 0

/-- One step of a load. One whose context has been torn down goes no further (11 R403). -/
def State.sealedStep (s : State) (e : Nat) (c : EngineCmd) : Ran :=
  if s.f F.tunCtx_STATE c.key == 5 then .finished (s.freeAes e)
  else
    match c.sealing with
    | none => s.sealedStart e c
    | some k =>
      if 2 * k.tiles * k.chunks ≤ c.cursor then .finished (s.sealedEnd e c k)
      else
        match c.stage with
        | .held _ p _ => s.sealedWrite e c k p
        | _ => s.sealedRead e c k

/-- A load run until it waits or its command is over. -/
def State.sealedRun : Nat → Nat → State → State
  | 0, _, s => s
  | fuel + 1, e, s =>
    match SMap.find s.tun.aes e with
    | none => s
    | some c =>
      match s.sealedStep e c with
      | .go t => State.sealedRun fuel e t
      | .stop t => t
      | .finished t => t

/-- The steps that a load still takes at most. -/
def State.sealedLeft (s : State) (e : Nat) : Nat :=
  match (SMap.find s.tun.aes e).bind EngineCmd.sealing with
  | some k => (2 * k.tiles + 1) * k.chunks + 1
  | none => 0

/-- The first checks of a load where they are still to be made, then its chunks. -/
def State.runSealed (s : State) (e : Nat) : State :=
  let t := if s.sealedLeft e == 0 then State.sealedRun 1 e s else s
  State.sealedRun (t.sealedLeft e) e t

/-- SEALED_LOAD_COMPLETE (13 R474): the load goes on until it waits for a tile or its command completes. -/
def execSealedLoadComplete (e : Nat) (s : State) : Host.Outcome State Fault Refusal :=
  command (.sealedLoadComplete e) (SMap.find s.tun.aes e).isSome s (s.runSealed e)

/-- Whether a load waits at a tile to be written: the region and the tile. -/
def State.sealedWaits (s : State) (e : Nat) : Option (EngineCmd × Nat × TLoc) :=
  (SMap.find s.tun.aes e).bind (fun c => c.sealing.bind (fun k =>
    match c.stage with
    | .held _ p _ => (sealedTile (c.sealRecord k p)).map (fun x => (c, s.sealedSide c k, x.2.1))
    | _ => none))

/-- A load whose window at a BUSY tile has run out (03 R94): the fault of its context. -/
def State.sealedExpiry (s : State) (e : Nat) : Option State :=
  match s.sealedWaits e with
  | none => none
  | some (c, r, l) =>
    let t := regionTile r l
    let busy := hdrBusy (BitVec.ofNat 64 (leNat (((s.curLine t.hdr).drop t.hofs).take 8)))
    if busy && s.waitExpired c.wait && s.f F.tunCtx_STATE c.key != 3 && s.f F.tunCtx_STATE c.key != 4 then
      some (s.sealedFault e c 0x0105)
    else none

end Sys2Proof.Machine
end

