-- ==== Sys2Proof/Machine/Tiles.lean ====
section
/-!
DEFINITION. The steps of tile readers and writers (03 R93 to R101, 06 R207, 13 R477, 15 R514): a read that
completes, step 1 of a write, the windows that run out, copy timeouts and cask waits.
-/
namespace Sys2Proof.Machine

/-! ### Groups that wait at a tile -/

/-- Whether a context's time counts: it is not switched out (15 R516). -/
def State.ctxCounts (s : State) (key : Nat) : Bool := s.f F.tunCtx_STATE key != 3 && s.f F.tunCtx_STATE key != 4

/-- A group that waits at a tile instruction of a class, on a core that issues and in a context that runs. -/
def State.tileWaiter (s : State) (core slot : Nat) (cls : List WordClass) : Option (Group × TileWait × W64 × W64) :=
  match s.group? (.group core slot) with
  | none => none
  | some g =>
    match g.wait with
    | .tile tw w0 w1 =>
      if s.coreIssues core && s.f F.tunCtx_STATE (16 * g.part + g.ctx) == 2 && cls.any (fun c => classOf w0 == some c) then
        some (g, tw, w0, w1)
      else none
    | _ => none

/-- The group tries its tile instruction again. -/
def State.retryTile (s : State) (core slot : Nat) (g : Group) (tw : TileWait) (w0 w1 : W64) : State :=
  let i := Issuer.group core slot
  let g := { g with wait := .none }
  match classOf w0 with
  | some .fld => s.tryFld i g w0 w1 tw
  | some .fst => s.tryFst i g w0 w1 tw
  | _ => s.tryTopen i g w0 w1 tw

/-- Whether the attempt of a waiting group would wait again. -/
def State.stillWaits (s : State) (core slot : Nat) (g : Group) (tw : TileWait) (w0 w1 : W64) : Bool :=
  match ((s.retryTile core slot g tw w0 w1).group? (.group core slot)).map Group.wait with
  | some (.tile _ _ _) => true
  | _ => false

/-- One row's retry of a group. -/
def State.groupRetry (s : State) (core slot : Nat) (cls : List WordClass) : Option State :=
  (s.tileWaiter core slot cls).map (fun x => s.retryTile core slot x.1 x.2.1 x.2.2.1 x.2.2.2)

/-- The window of a waiting group has run out: its fault (03 R94, R98). -/
def State.groupExpiry (s : State) (core slot : Nat) (cls : List WordClass) (code : Nat) : Option State :=
  match s.tileWaiter core slot cls with
  | none => none
  | some (g, tw, w0, w1) =>
    if s.waitExpired tw && s.stillWaits core slot g tw w0 w1 then
      some (s.raise (.group core slot) code 0xFF 0)
    else none

/-! ### TILE_READ_COMPLETE -/

/-- A far operation that waits for its destination is tried again; a transfer reads its source tile. -/
def State.xferReads (s : State) (core cmd idx : Nat) : Option State :=
  match s.farWaiting (.xfer core cmd idx) with
  | some o => some (s.runFar o)
  | none =>
    match s.xfer core cmd idx with
    | some (c, x) => if s.xferReadable core cmd idx then some (s.xferRead core c x) else none
    | none => none

/-- The read that an agent completes; none when it has none. -/
def State.tileRead (s : State) : TileAgent → Option State
  | .xfer core cmd idx => s.xferReads core cmd idx
  | .copyEngine e => if s.engineReads e then some (s.engineOnce e) else none
  | .group core slot => s.groupRetry core slot [.fld]
  | .engine _ _ => none
  | .landing port snode tag => (s.farWaiting (.landing port snode tag)).map s.runFar
  | .aes _ => none

/-- TILE_READ_COMPLETE (03 R98): an engine instruction's reads complete by its own rows. -/
def execTileReadComplete (a : TileAgent) (s : State) : Host.Outcome State Fault Refusal :=
  command (.tileReadComplete a) (s.tileRead a).isSome s
    (State.service s ((s.tileRead a).getD s))

/-! ### TILE_WRITE_BEGIN -/

/-- The step 1 that an agent performs; none when it has none to perform. -/
def State.tileWrite (s : State) : TileAgent → Option State
  | .xfer core cmd idx =>
    match s.xfer core cmd idx with
    | some (c, x) => if s.xferBegins core cmd idx then some (s.xferBegin core c x) else none
    | none => none
  | .copyEngine e => if s.engineWrites e then some (s.engineOnce e) else none
  | .group core slot => s.groupRetry core slot [.fst, .topen]
  | .engine core me => if s.engineCanBegin core me then some (s.engineBegin core me) else none
  | .landing port snode tag =>
    match SMap.find s.fab.landings (landingKey port snode tag) with
    | some l => s.land port l.msg l.part l.wait
    | none => none
  | .aes e => (s.sealedWaits e).map (fun _ => State.sealedRun 1 e s)

/-- TILE_WRITE_BEGIN (03 R93, R94). -/
def execTileWriteBegin (a : TileAgent) (s : State) : Host.Outcome State Fault Refusal :=
  command (.tileWriteBegin a) (s.tileWrite a).isSome s
    (State.service s ((s.tileWrite a).getD s))

/-! ### Windows that run out -/

/-- The head of an engine whose window has run out while a tile is BUSY: whether it is an operand, else a
destination. -/
def State.engineExpiry (s : State) (core me : Nat) (operand : Bool) (code : Nat) : Option State :=
  match s.engineHead core me with
  | none => none
  | some m =>
    match s.matGroup m with
    | none => none
    | some (_, g) =>
      let reads : Bool := match s.readOperands core g.part 0 (s.matOperands core g.part m) with
        | .busy => true
        | _ => false
      if m.held.isNone && s.waitExpired m.wait && s.attempt core g.part m == .busy && reads == operand &&
          s.f F.tunCtx_STATE (16 * g.part + g.ctx) == 2 then
        some ((s.popEngine core me).raiseLate core m.slot g.part g.ctx code 0xFF 0 0 m.pc)
      else none

/-- Whether a tile still is BUSY for a transfer or engine whose window has run out; one of another node is as the
last read found it. -/
def State.siteBusy (s : State) (core part : Nat) (l : TLoc) (u : Use) : Bool :=
  match s.siteOf part l u with
  | .ok (.here l) => s.stillBusy core part l u
  | .ok (.away _ _ _ _) => true
  | .error _ => false

/-- Whether the destination of a far operation still is BUSY. -/
def State.farBusy (s : State) (o : FarOp) : Bool :=
  match o.kind with
  | .reduce _ _ h a _ _ _ _ => s.stillBusy 0xFFFF o.part ⟨hSpace h, hFormat h, a, 0⟩ .copyDestination
  | .atomic _ _ _ _ _ _ => false

/-- The torn-tile fault of a far operation whose window has run out. -/
def State.farExpiry (s : State) (o : FarOp) : Option State :=
  if s.waitExpired o.wait && s.farBusy o then some (s.farFault o 0x0102 o.addr) else none

/-- A writer's transfer whose window has run out. -/
def State.xferWriteExpiry (s : State) (core cmd idx : Nat) : Option State :=
  match s.xfer core cmd idx with
  | none => none
  | some (c, x) =>
    let writes := match x.stage with
      | .read _ _ _ => opcOf c.w0 == 0xE0
      | .condemned => true
      | _ => false
    if writes && s.waitExpired x.wait && s.ctxCounts (16 * c.part + c.ctx) &&
        s.siteBusy core c.part (c.dst idx) .copyDestination then
      some (s.faultXfer core cmd idx 0x0105 ((c.dst idx).addr.truncate 32))
    else none

/-- A reader's transfer whose window has run out: its source, or the destination of a reduction. -/
def State.xferReadExpiry (s : State) (core cmd idx : Nat) : Option State :=
  match s.farWaiting (.xfer core cmd idx) with
  | some o => s.farExpiry o
  | none =>
    match s.xfer core cmd idx with
    | none => none
    | some (c, x) =>
      let reads := match x.stage with
        | .reading | .awaiting | .gathering _ => s.siteBusy core c.part (c.src idx) .copySource
        | .read _ _ _ => opcOf c.w0 == 0xE1 && s.siteBusy core c.part (c.dst idx) .copyDestination
        | _ => false
      if reads && s.waitExpired x.wait && s.ctxCounts (16 * c.part + c.ctx) then
        some (s.faultXfer core cmd idx 0x0102 ((c.src idx).addr.truncate 32))
      else none

/-- A copy engine whose window has run out: at a destination, or at a source. -/
def State.copyExpiry (s : State) (e : Nat) (write : Bool) : Option State :=
  match SMap.find s.tun.copies e with
  | none => none
  | some c =>
    if !s.waitExpired c.wait || !s.ctxCounts c.key then none
    else
      let busy (dst : Bool) : Bool :=
        s.siteBusy 0 c.part (c.tile dst c.tf c.cursor) (if dst then .copyDestination else .copySource)
      match c.stage, write with
      | .condemned, true => if busy true then some (s.freeCopy e) else none
      | .held _ _ _, true => if busy true then some (s.engineFault e c 0x0105 0) else none
      | .next, false | .asked, false => if busy false then some (s.engineFault e c 0x0102 0) else none
      | _, _ => none

/-- A landed tile whose window has run out: the acknowledgement says so (10 R337). -/
def State.landExpiry (s : State) (port snode tag : Nat) : Option State :=
  let k := landingKey port snode tag
  match SMap.find s.fab.landings k with
  | none => none
  | some l =>
    if s.waitExpired l.wait && s.stillBusy 0xFFFF l.part l.msg.tile .copyDestination then
      ({ s with fab := { s.fab with landings := SMap.drop s.fab.landings k } }).answer l.part l.msg (failed 1 0x13 0x0105)
    else none

/-- A writer's window that has run out. -/
def State.writeExpiry (s : State) : TileAgent → Option State
  | .xfer core cmd idx => s.xferWriteExpiry core cmd idx
  | .copyEngine e => s.copyExpiry e true
  | .group core slot => s.groupExpiry core slot [.fst, .topen] 0x0105
  | .engine core me => s.engineExpiry core me false 0x0105
  | .landing port snode tag => s.landExpiry port snode tag
  | .aes e => s.sealedExpiry e

/-- TILE_WRITER_TIMEOUT (03 R94). -/
def execTileWriterTimeout (a : TileAgent) (s : State) : Host.Outcome State Fault Refusal :=
  command (.tileWriterTimeout a) (!s.b F.clkStatus_SAFE 0 && (s.writeExpiry a).isSome)
    s (State.service s ((s.writeExpiry a).getD s))

/-- A reader's window that has run out. -/
def State.readExpiry (s : State) : TileAgent → Option State
  | .xfer core cmd idx => s.xferReadExpiry core cmd idx
  | .copyEngine e => s.copyExpiry e false
  | .group core slot => s.groupExpiry core slot [.fld] 0x0102
  | .engine core me => s.engineExpiry core me true 0x0102
  | .landing port snode tag =>
    match s.farWaiting (.landing port snode tag) with
    | some o => s.farExpiry o
    | none => none
  | .aes _ => none

/-- TORN_TILE_WINDOW_EXPIRY (03 R98): the fault is counted (03 R103). -/
def execTornTileWindowExpiry (a : TileAgent) (s : State) : Host.Outcome State Fault Refusal :=
  command (.tornTileWindowExpiry a) (!s.b F.clkStatus_SAFE 0 && (s.readExpiry a).isSome)
    s (State.service s (((s.rasCount 3).readExpiry a).getD s))

/-! ### Copy timeouts and cask waits (15 R514, 13 R477) -/

/-- The copy timeout of an agent, which counts while its context is not switched out (15 R516). -/
def State.copyExpires (s : State) : TileAgent → Option State
  | .xfer core cmd idx =>
    (s.xfer core cmd idx).bind (fun x =>
      if s.ctxCounts (16 * x.1.part + x.1.ctx) then some (s.xferTimeout core cmd idx) else none)
  | .copyEngine e =>
    (SMap.find s.tun.copies e).bind (fun c => if s.ctxCounts c.key then some (s.engineTimeout e) else none)
  | _ => none

/-- COPY_TIMEOUT (15 R514). -/
def execCopyTimeout (a : TileAgent) (s : State) : Host.Outcome State Fault Refusal :=
  command (.copyTimeout a) (!s.b F.clkStatus_SAFE 0 && (s.copyExpires a).isSome)
    s (State.service s ((s.copyExpires a).getD s))

/-- Beats after which a cask wait ends: 0 acts as 1. -/
def State.caskLimit (s : State) : Nat := max 1 (s.f F.secCfg_CASK_WAIT 0)

/-- The cask wait of an agent that has run out. -/
def State.caskExpiry (s : State) : TileAgent → Option State
  | .xfer core cmd idx =>
    match s.xfer core cmd idx with
    | some (c, x) =>
      match x.stage with
      | .cask n => if s.caskLimit ≤ n then some (s.faultXfer core cmd idx 0x0108 ((c.src idx).addr.truncate 32)) else none
      | _ => none
    | none => none
  | .copyEngine e =>
    match SMap.find s.tun.copies e with
    | some c =>
      match c.stage with
      | .cask n => if s.caskLimit ≤ n then some (s.engineFault e c 0x0108 0) else none
      | _ => none
    | none => none
  | _ => none

/-- CASK_WAIT_TIMEOUT (13 R477). -/
def execCaskWaitTimeout (a : TileAgent) (s : State) : Host.Outcome State Fault Refusal :=
  command (.caskWaitTimeout a) (!s.b F.clkStatus_SAFE 0 && (s.caskExpiry a).isSome)
    s (State.service s ((s.caskExpiry a).getD s))

/-! ### Cask waits at a boundary (13 R477) -/

/-- Word 0 of a tile read again: whether POISON and BUSY are clear, and the state after the read. -/
def State.caskClear (s : State) (core part : Nat) (l : TLoc) : Bool × State :=
  match s.seeWord0 core part l .copySource with
  | .ok (x, _, s) => (!hdrPoison x && !hdrBusy x, s)
  | .error _ => (false, s)

/-- A stalled transfer at a boundary: it reads the tile afresh, or has waited a beat more. -/
def State.caskXfer (s : State) (core : Nat) (c : TmCmd) (x : Xfer) : State :=
  match x.stage with
  | .cask n =>
    match s.caskClear core c.part (c.src x.idx) with
    | (true, s) => s.setXfer core c { x with stage := .reading, wait := TileWait.fresh }
    | (false, s) => s.setXfer core c { x with stage := .cask (n + 1) }
  | _ => s

/-- A stalled copy engine at a boundary. -/
def State.caskEngine (s : State) (e : Nat) (c : EngineCmd) : State :=
  match c.stage with
  | .cask n =>
    match s.caskClear 0xFFFF c.part (c.tile false c.tf c.cursor) with
    | (true, s) => s.setEngine e { c with stage := .next, wait := TileWait.fresh }
    | (false, s) => s.setEngine e { c with stage := .cask (n + 1) }
  | _ => s

/-- The stalled consumers whose context runs. -/
def State.caskBoundary (s : State) : State :=
  let s := s.co.cores.foldl (fun (s : State) (e : Nat × CoreSt) =>
    e.2.tm.foldl (fun (s : State) (c : TmCmd) =>
      if s.f F.tunCtx_STATE (16 * c.part + c.ctx) != 2 then s
      else c.xfers.foldl (fun (s : State) (x : Xfer) =>
        match s.xfer e.1 c.id x.idx with
        | some (c, x) => s.caskXfer e.1 c x
        | none => s) s) s) s
  s.tun.copies.foldl (fun (s : State) (e : Nat × EngineCmd) =>
    if s.ctxCounts e.2.key then s.caskEngine e.1 e.2 else s) s

end Sys2Proof.Machine
end

