-- ==== Sys2Proof/Machine/Beat.lean ====
section
/-!
DEFINITION. The beat boundary (11 R375 to R377, R392; 04 R144, R151; 09 R312, R314; 10 R361, R365; 14 R496):
TIMEBASE and the seven actions in their order.
-/
namespace Sys2Proof.Machine

/-! ### Step 1: TIMEBASE, counters, watchdogs -/

/-- TIMEBASE at the next multiple of LEN, past it by a forward step that waits; SLEW shows the correction of the
beat that begins (11 R379, R410). -/
def State.advanceTime (s : State) : State :=
  let tb := (s.tun.tb.toNat / s.len + 1) * s.len + s.fab.mark.step
  let s := s.setF F.beatStatus_SLEW 0 (signedField 8 s.fab.mark.slew)
  let s := s.setMark { s.fab.mark with step := 0, slew := 0 }
  { s with tun := { s.tun with tb := BitVec.ofNat 64 tb } }

/-- The latch of SREAD 0x05 and the beat number (11 R377, 05 R193). -/
def State.latchTime (s : State) : State :=
  { s with tun := { s.tun with latch := s.tun.tb, num := BitVec.ofNat 64 (s.tun.tb.toNat / s.len) } }

/-- The counters that tenants see, latched (04 R151). -/
def State.latchCounts (s : State) : State := { s with views := { s.views with shown := s.views.work } }

/-- Whether a group's context runs. -/
def State.groupRuns (s : State) (g : Group) : Bool := s.f F.tunCtx_STATE (16 * g.part + g.ctx) == 2

/-- The watchdogs of resident groups whose context runs (04 R144). -/
def State.countWatchdogs (s : State) : State :=
  { s with co := { s.co with groups := SMap.mapVals (fun k g =>
      if k < 256 * 64 && s.groupRuns g then { g with wdog := g.wdog + 1 } else g) s.co.groups } }

/-- The beats that RUNNING contexts have run (11 R398). -/
def State.countRuns (s : State) : State :=
  { s with tun := { s.tun with ctxs := SMap.mapVals (fun k (x : CtxSt) =>
      if s.f F.tunCtx_STATE k == 2 then { x with ran := x.ran + 1 } else x) s.tun.ctxs } }

/-! ### Step 2: waits end -/

/-- The issuer at a place of `groups`. -/
def issuerAt (k : Nat) (g : Group) : Issuer :=
  if k < 256 * 64 then .group (k / 64) (k % 64) else .cp (k / 64 - 256) g.part g.ctx

/-- A wait that a boundary ends: LACQ, WAITGE, YIELD (04 R140, 06 R235, 05 R194). -/
def State.endWait (s : State) (i : Issuer) (g : Group) : State :=
  match g.wait with
  | .beat => s.setGroup i { g with wait := .none }
  | .lock _ _ _ _ => s.lockBoundary i
  | .waitge _ _ _ sd =>
    match s.waitReached i with
    | some (g, sd, t) => t.setGroup i { g.setS sd 0 with wait := .none }
    | none => s.setGroup i { g.setS sd 1 with wait := .none }
  | _ => s

/-- Step 2, with the cask waits of 13 R477. A withdrawn TOPEN tries again by its own row (06 R207). -/
def State.endWaits (s : State) : State :=
  (s.co.groups.foldl (fun (s : State) (e : Nat × Group) => s.endWait (issuerAt e.1 e.2) e.2) s).caskBoundary

/-! ### Step 3: the cores of faulted contexts return (11 R403) -/

def State.returnCores (s : State) : State :=
  { s with tun := { s.tun with ctxs := SMap.mapVals (fun _ (x : CtxSt) =>
      if x.draining then x else { x with returning := [] }) s.tun.ctxs } }

/-! ### Step 7: scrub and digest -/

/-- The scrub step (09 R314): due pseudo-channels, and the cursor modulo 2^24. -/
def State.stepScrub (s : State) : State :=
  let n := s.f F.hbmCtlCfg_SCRUB_INTERVAL 0
  if n == 0 || !s.b F.hbmCtlCtrl_ENABLE 0 then s
  else
    let pcs := (List.range 512).filter (fun pc => s.b F.stackStatus_TRAINED (pc / 32))
    let due (pc : Nat) : Bool := n ≤ SMap.get 0 s.hbm.scrubBeat pc + 1
    let cursor (pc : Nat) : Nat := SMap.get 0 s.hbm.scrubLine pc
    { s with hbm := { s.hbm with
      scrubDue := s.hbm.scrubDue ++ (pcs.filter due).map (fun pc => (pc, cursor pc))
      scrubBeat := pcs.filterMap (fun pc => if due pc then none else some (pc, SMap.get 0 s.hbm.scrubBeat pc + 1))
      scrubLine := pcs.filterMap (fun pc =>
        let c := if due pc then (cursor pc + 1) % 2 ^ 24 else cursor pc
        if c == 0 then none else some (pc, c)) } }

/-- The words of a register array, little-endian, under a mask. -/
def State.wordBytes (s : State) (r : Reg) (m : W32) (is : List Nat) : List Byte :=
  is.flatMap (fun i => leBytes 4 (s.rget r i &&& m).toNat)

/-- The partition map (11 R392). -/
def State.partMap (s : State) : List Byte :=
  (List.range 64).flatMap (fun p =>
    s.wordBytes .partCfg (BitVec.allOnes 32) [p] ++
      s.wordBytes .partCores (BitVec.allOnes 32) ((List.range 8).map (8 * p + ·)) ++
      s.wordBytes .partSeq (BitVec.allOnes 32) [p] ++ s.wordBytes .partSave (BitVec.allOnes 32) [p]) ++
    s.wordBytes .rgnown 0x7FFFFFFF (List.range 1024)

/-- "BAXUS-GRAVITY-01". -/
def gravityTag : List Byte :=
  [0x42, 0x41, 0x58, 0x55, 0x53, 0x2D, 0x47, 0x52, 0x41, 0x56, 0x49, 0x54, 0x59, 0x2D, 0x30, 0x31]

/-- What the gravity digest covers (10 R365). -/
def State.gravity (s : State) : List Byte :=
  gravityTag ++ s.wordBytes .secVer (BitVec.allOnes 32) (List.range 6) ++
    leBytes 4 s.sec.inForce.length ++ s.sec.inForce.flatMap (fun r => (Config.shake256 32 r).take 32) ++
    s.partMap ++ s.wordBytes .llmRgnDesc 0x7F3FFFFF (List.range 1024) ++
    s.wordBytes .sliceWay 0x3FFFFFFF (List.range 8192) ++
    leBytes 4 s.len ++ s.wordBytes .bxfCtlBeatCfg (BitVec.allOnes 32) [0] ++
    s.wordBytes .bxfCtlBmaster (BitVec.allOnes 32) (List.range 8) ++ s.wordBytes .bxfCtlCfg (BitVec.allOnes 32) [0]

/-- The capture at multiples of 65,536 beats. -/
def State.captureDigest (s : State) : State :=
  if s.beat % 65536 != 0 then s
  else { s with fab := { s.fab with digest := some (s.gravity, s.tun.num) } }

/-- DLYREQ every 256 beats (10 R361). -/
def State.timedDelays (s : State) : State := if s.beat % 256 == 0 then s.sendDelays else s

/-! ### The boundary -/

/-- The actions of R377 in their order. -/
def State.boundary (s : State) (m : Measure) : State :=
  let s := ((s.latchTime.latchCounts).countWatchdogs).countRuns
  let s := s.endWaits
  let s := s.returnCores
  let s := s.pollAll
  let s := s.resumeRestored
  let s := (State.schedule (s.unstarted + 1) s).freezeStep
  let s := (((s.readStacks m.stackTemps).powerStep m).holdDomains).restUnits
  ((((s.stepScrub.captureDigest).markBoundary).timedDelays).moveOn).retryBuffers

/-- The trips that the beat's readings call for: a stack at its TRIP, a die at 105 °C (09 R312, R313; 17 R581). -/
def State.tripHot (s : State) (m : Measure) : State :=
  let tripped := ((List.range 16).zip m.stackTemps).filter (fun x => s.f F.stackTempCfg_TRIP x.1 ≤ x.2)
  let dies := ((List.range 9).zip m.dieTemps).filter (fun x => 105 ≤ x.2)
  let s := tripped.foldl (fun (s : State) x => s.trip (.stack x.1)) s
  dies.foldl (fun (s : State) x => s.trip (.die x.1)) s

/-- A boundary; in the clock safe state only time passes (14 R496). -/
def State.doBoundary (s : State) (m : Measure) : State :=
  let t := s.advanceTime
  if s.b F.clkStatus_SAFE 0 then t.setMark { t.fab.mark with hold := false } else State.service s ((t.boundary m).tripHot m)

/-- Whether no matrix engine that is clocked and not fenced has started an instruction: every one that starts
completes or is abandoned within its beat (01 R38, 06 R209). -/
def State.enginesRest (s : State) : Bool :=
  s.co.cores.all (fun e => s.fenced e.1 || !s.coreClocked e.1 ||
    [e.2.me0, e.2.me1, e.2.me2, e.2.me3].all (fun q => (q.head?).all (fun m => !m.started)))

/-- Whether a boundary may come now (11 R376; 14 R496: not while IOSC has failed; 17 R581; 06 R209). -/
def State.beats (s : State) : Bool :=
  s.b F.beatCtrl_ENABLE 0 && s.len != 0 && !s.clk.failed.contains .iosc && !s.boot.thermal &&
    (s.b F.clkStatus_SAFE 0 || s.enginesRest)

/-- BEAT_BOUNDARY (11 R377). -/
def execBeatBoundary (m : Measure) (s : State) : Host.Outcome State Fault Refusal :=
  command (.beatBoundary m) (s.beats && s.keepsBudget m) s
    (s.doBoundary m)

end Sys2Proof.Machine
end

