-- ==== Sys2Proof/Machine/Vector.lean ====
section
/-!
DEFINITION. Vector integer, compare, predicate and lane instructions, OPC 0x20 to 0x24 (05 R161, R165
to R169). Every value is read from the registers as they stand before the instruction.
-/
namespace Sys2Proof.Machine

/-- An effect on each participating thread in ascending lane order. -/
def Group.eachLane (g : Group) (gd : Guard) (f : Group → Nat → Group) : Group :=
  (lanesOf (g.parts gd)).foldl f g

/-- Operand B at 32 bits (05 R156, R165). -/
def vecB32 (g : Group) (v : VForm) (t : Nat) : W32 :=
  if v.bs then (g.s (v.vb % 64)).truncate 32 else g.v v.vb t

/-- Operand B at 64 bits. -/
def vecB64 (g : Group) (v : VForm) (t : Nat) : W64 :=
  if v.bs then g.s (v.vb % 64) else g.v64 v.vb t

/-- OPC 0x20 and 0x21 on a group (05 R165). -/
def vecInteger (w : W64) (g : Group) : Group :=
  let v := vForm w
  g.eachLane v.g (fun h t =>
    if opcOf w == 0x21 then h.setV64 v.vd t (intOp 64 (fnOf w) (g.v64 v.va t) (vecB64 g v t))
    else h.setV v.vd t (intOp 32 (fnOf w) (g.v v.va t) (vecB32 g v t)))

/-- VECTOR_INTEGER (05 R165). -/
def execVectorInteger (i : Issuer) (w : W64) (s : State) : Host.Outcome State Fault Refusal :=
  command (.vectorInteger i w) (s.canIssue i) s
    (s.issueLocal i w (vecInteger w))

/-- The conditions of 05 R166 on integers. -/
def icompare (cond : Nat) (a b : Int) : Bool :=
  match cond with
  | 0 => a == b
  | 1 => a != b
  | 2 => a < b
  | 3 => a ≤ b
  | 4 => b < a
  | 5 => b ≤ a
  | _ => false

/-- The comparison of one thread, with the flag it sets (05 R166). -/
def laneCompare (w : W64) (g : Group) (t : Nat) : Bool × FFlags :=
  let v := vForm w
  let cond := fnOf w % 16
  let a32 := g.v v.va t
  let a64 := g.v64 v.va t
  match fnOf w / 16 with
  | 0 => (icompare cond a32.toInt (vecB32 g v t).toInt, 0)
  | 1 => (icompare cond a32.toNat (vecB32 g v t).toNat, 0)
  | 2 => (icompare cond a64.toInt (vecB64 g v t).toInt, 0)
  | 3 => (icompare cond a64.toNat (vecB64 g v t).toNat, 0)
  | 4 => fcompare .f32 cond a32.toNat (vecB32 g v t).toNat
  | _ => fcompare .f64 cond a64.toNat (vecB64 g v t).toNat

/-- One thread's bit of a predicate. -/
def Group.setPBit (g : Group) (n lane : Nat) (x : Bool) : Group :=
  g.setP n (if x then g.p n ||| bit32 lane else g.p n &&& ~~~bit32 lane)

/-- OPC 0x22 on a group. -/
def vecCompare (w : W64) (g : Group) : Group :=
  let v := vForm w
  g.eachLane v.g (fun h t =>
    let r := laneCompare w g t
    (h.setPBit (v.vd % 8) t r.1).addFlags r.2)

/-- COMPARE_TO_PREDICATE (05 R166). -/
def execCompareToPredicate (i : Issuer) (w : W64) (s : State) : Host.Outcome State Fault Refusal :=
  command (.compareToPredicate i w) (s.canIssue i) s
    (s.issueLocal i w (vecCompare w))

/-- The predicate operations (05 R167). -/
def predOp (fn : Nat) (a b : W32) : W32 :=
  match fn with
  | 0 => a &&& b
  | 1 => a ||| b
  | 2 => a ^^^ b
  | 3 => a &&& ~~~b
  | 4 => ~~~a
  | 5 => BitVec.allOnes 32
  | 6 => 0
  | _ => a

/-- OPC 0x23 on a group: the threads that do not participate keep their bit. -/
def vecPredicate (w : W64) (g : Group) : Group :=
  let v := vForm w
  let m := g.parts v.g
  let r := predOp (fnOf w) (g.p (v.va % 8)) (g.p (v.vb % 8))
  g.setP (v.vd % 8) ((r &&& m) ||| (g.p (v.vd % 8) &&& ~~~m))

/-- PREDICATE_LOGIC (05 R167). -/
def execPredicateLogic (i : Issuer) (w : W64) (s : State) : Host.Outcome State Fault Refusal :=
  command (.predicateLogic i w) (s.canIssue i) s
    (s.issueLocal i w (vecPredicate w))

/-! ### Lane operations (05 R168, R169) -/

/-- The source lane of a shuffle. -/
def shuffleLane (g : Group) (w : W64) (t : Nat) : Nat :=
  let b := (vecB32 g (vForm w) t).toNat % 32
  if fnOf w % 2 == 1 then t ^^^ b else b

/-- A shuffle of 32-bit or 64-bit values (05 R168, R169). -/
def vecShuffle (wide : Bool) (w : W64) (g : Group) : Group :=
  let v := vForm w
  g.eachLane v.g (fun h t =>
    let l := shuffleLane g w t
    if wide then h.setV64 v.vd t (g.v64 v.va l) else h.setV v.vd t (g.v v.va l))

/-- SHFL (05 R168). -/
def execShfl (i : Issuer) (w : W64) (s : State) : Host.Outcome State Fault Refusal :=
  command (.shfl i w) (s.canIssue i) s
    (s.issueLocal i w (vecShuffle false w))

/-- SHFLX (05 R168). -/
def execShflx (i : Issuer) (w : W64) (s : State) : Host.Outcome State Fault Refusal :=
  command (.shflx i w) (s.canIssue i) s
    (s.issueLocal i w (vecShuffle false w))

/-- SHFL64 (05 R168). -/
def execShfl64 (i : Issuer) (w : W64) (s : State) : Host.Outcome State Fault Refusal :=
  command (.shfl64 i w) (s.canIssue i) s
    (s.issueLocal i w (vecShuffle true w))

/-- SHFLX64 (05 R168). -/
def execShflx64 (i : Issuer) (w : W64) (s : State) : Host.Outcome State Fault Refusal :=
  command (.shflx64 i w) (s.canIssue i) s
    (s.issueLocal i w (vecShuffle true w))

/-- BALLOT on a group; with no participating thread it has no effect (05 R161, R168). -/
def vecBallot (w : W64) (g : Group) : Group :=
  let v := vForm w
  let m := g.parts v.g
  if m == 0 then g else g.setS (v.vd % 64) ((m &&& g.p (v.va % 8)).setWidth 64)

/-- BALLOT (05 R168). -/
def execBallot (i : Issuer) (w : W64) (s : State) : Host.Outcome State Fault Refusal :=
  command (.ballot i w) (s.canIssue i) s (s.issueLocal i w (vecBallot w))

/-- RDLANE on a group; with no participating thread it has no effect (05 R161, R168). -/
def vecRdlane (w : W64) (g : Group) : Group :=
  let v := vForm w
  if g.parts v.g == 0 then g else g.setS (v.vd % 64) ((g.v v.va (v.vb % 32)).setWidth 64)

/-- RDLANE (05 R168). -/
def execRdlane (i : Issuer) (w : W64) (s : State) : Host.Outcome State Fault Refusal :=
  command (.rdlane i w) (s.canIssue i) s (s.issueLocal i w (vecRdlane w))

/-- LANEID on a group (05 R168). -/
def vecLaneid (w : W64) (g : Group) : Group :=
  let v := vForm w
  g.eachLane v.g (fun h t => h.setV v.vd t (BitVec.ofNat 32 t))

/-- LANEID (05 R168). -/
def execLaneid (i : Issuer) (w : W64) (s : State) : Host.Outcome State Fault Refusal :=
  command (.laneid i w) (s.canIssue i) s (s.issueLocal i w (vecLaneid w))

end Sys2Proof.Machine
end

