-- ==== Sys2Proof/Machine/Floating.lean ====
section
/-!
DEFINITION. Floating-point, pair and conversion instructions, OPC 0x30 to 0x33 (05 R170 to R174; 02
R54 to R76). The vector engine of the group's slot draws for SR in ascending lane order (02 R58).
-/
namespace Sys2Proof.Machine

/-- A group, with the generator of the vector engine that serves it. -/
structure LaneRun where
  g : Group
  gen : Gen
  deriving DecidableEq, Repr

/-- A vector instruction that may draw: a fresh generator step under SR, whether or not a thread
participates (02 R58, 05 R161). -/
def State.issueDrawing (s : State) (i : Issuer) (w : W64) (gd : Guard) (sr : Bool)
    (f : Group → LaneRun → Nat → LaneRun) : State :=
  s.issue i w (fun g =>
    let c := s.core i.core
    let e := veOf i
    let r := (lanesOf (g.parts gd)).foldl (f g) ⟨g, Gen.start (c.gen e)⟩
    let t := s.retire i r.g
    if sr then t.setCore i.core (c.setGen e r.gen.s) else t)

/-- The mode of a word's RM field (02 R54). -/
def rmOf (w : W64) : Rm := (Rm.ofCode (vForm w).rm).getD .rne

/-- A sign bit replaced (05 R170, on bits). -/
def withSign (f : Fmt) (x : Nat) (neg : Bool) : Nat :=
  x % 2 ^ (f.ebits + f.mbits) + f.signBit neg

def signOf (f : Fmt) (x : Nat) : Bool := x / 2 ^ (f.ebits + f.mbits) % 2 == 1

/-- One floating-point operation (05 R170). -/
def floatOp (f : Fmt) (fn : Nat) (rm : Rm) (sat : Bool) (draw : Nat) (na nc : Bool) (a b c : Nat) :
    Rounded :=
  match fn with
  | 0 => f.add rm sat draw a b
  | 1 => f.sub rm sat draw a b
  | 2 => f.mul rm sat draw a b
  | 3 => f.fma rm sat draw na nc a b c
  | 4 => f.div rm sat draw a b
  | 5 => f.sqrt rm sat draw a
  | 6 => f.minmax false false a b
  | 7 => f.minmax true false a b
  | 8 => f.minmax false true a b
  | 9 => f.minmax true true a b
  | 0x0A => ⟨withSign f a false, 0⟩
  | 0x0B => ⟨withSign f a (!signOf f a), 0⟩
  | _ => ⟨withSign f a (signOf f b), 0⟩

/-- Operand B of a paired form: its halves serve the halves of the operands (05 R170). -/
def pairedB (g : Group) (v : VForm) (t : Nat) : W64 := vecB64 g v t

/-- One thread of OPC 0x30 (05 R170). -/
def laneFp32 (w : W64) (g : Group) (r : LaneRun) (t : Nat) : LaneRun :=
  let v := vForm w
  let rm := rmOf w
  let fn := fnOf w
  if fn < 0x0D then
    let d := r.gen.drawIf rm
    let x := floatOp .f32 fn rm v.ov d.1 v.na v.nc (g.v v.va t).toNat (vecB32 g v t).toNat
      (g.v v.vc t).toNat
    ⟨(r.g.setV v.vd t (BitVec.ofNat 32 x.code)).addFlags x.flags, d.2⟩
  else
    let op := if fn == 0x0D then 0 else if fn == 0x0E then 2 else 3
    let b := pairedB g v t
    let d0 := r.gen.drawIf rm
    let d1 := d0.2.drawIf rm
    let x := floatOp .f32 op rm v.ov d0.1 v.na v.nc (g.v v.va t).toNat (b.toNat % 2 ^ 32)
      (g.v v.vc t).toNat
    let y := floatOp .f32 op rm v.ov d1.1 v.na v.nc (g.v (v.va + 1) t).toNat (b.toNat / 2 ^ 32)
      (g.v (v.vc + 1) t).toNat
    ⟨((r.g.setV v.vd t (BitVec.ofNat 32 x.code)).setV (v.vd + 1) t (BitVec.ofNat 32 y.code)).addFlags
      (x.flags ||| y.flags), d1.2⟩

/-- FP32_ARITHMETIC (05 R170). -/
def execFp32Arithmetic (i : Issuer) (w : W64) (s : State) : Host.Outcome State Fault Refusal :=
  command (.fp32Arithmetic i w) (s.canIssue i) s
    (s.issueDrawing i w (vForm w).g (rmOf w == .sr) (laneFp32 w))

/-- One thread of OPC 0x31 (05 R170). -/
def laneFp64 (w : W64) (g : Group) (r : LaneRun) (t : Nat) : LaneRun :=
  let v := vForm w
  let rm := rmOf w
  let d := r.gen.drawIf rm
  let x := floatOp .f64 (fnOf w) rm v.ov d.1 v.na v.nc (g.v64 v.va t).toNat (vecB64 g v t).toNat
    (g.v64 v.vc t).toNat
  ⟨(r.g.setV64 v.vd t (BitVec.ofNat 64 x.code)).addFlags x.flags, d.2⟩

/-- FP64_ARITHMETIC (05 R170). -/
def execFp64Arithmetic (i : Issuer) (w : W64) (s : State) : Host.Outcome State Fault Refusal :=
  command (.fp64Arithmetic i w) (s.canIssue i) s
    (s.issueDrawing i w (vForm w).g (rmOf w == .sr) (laneFp64 w))

/-- One thread of an error-free transformation (05 R172, R173). -/
def laneEft (w : W64) (g h : Group) (t : Nat) : Group :=
  let v := vForm w
  let fn := fnOf w
  let f : Fmt := if fn % 2 == 1 then .f64 else .f32
  let a := if fn % 2 == 1 then (g.v64 v.va t).toNat else (g.v v.va t).toNat
  let b := if fn % 2 == 1 then (vecB64 g v t).toNat else (vecB32 g v t).toNat
  let x := if 4 ≤ fn then twoProd f v.ov a b else twoSum f (2 ≤ fn) v.ov a b
  let h := if fn % 2 == 1 then
      (h.setV64 v.vd t (BitVec.ofNat 64 x.fst)).setV64 v.vc t (BitVec.ofNat 64 x.snd)
    else (h.setV v.vd t (BitVec.ofNat 32 x.fst)).setV v.vc t (BitVec.ofNat 32 x.snd)
  h.addFlags x.flags

/-- A pair written: hi in vn, lo in vn + 1 (05 R155). -/
def Group.setPair (g : Group) (r t : Nat) (x : Rounded2) : Group :=
  ((g.setV r t (BitVec.ofNat 32 x.fst)).setV (r + 1) t (BitVec.ofNat 32 x.snd)).addFlags x.flags

/-- One thread of OPC 0x32 (05 R172 to R174). -/
def lanePair (w : W64) (g : Group) (r : LaneRun) (t : Nat) : LaneRun :=
  let v := vForm w
  let fn := fnOf w
  let at' (n : Nat) : Nat := (g.v n t).toNat
  let rm := rmOf w
  if fn ≤ 5 then ⟨laneEft w g r.g t, r.gen⟩
  else
    match fn with
    | 8 => ⟨r.g.setPair v.vd t (pairAdd v.ov (at' v.va) (at' (v.va + 1)) (at' v.vb) (at' (v.vb + 1))), r.gen⟩
    | 9 => ⟨r.g.setPair v.vd t (pairMul v.ov (at' v.va) (at' (v.va + 1)) (at' v.vb) (at' (v.vb + 1))), r.gen⟩
    | 0x0A =>
      ⟨r.g.setPair v.vd t (pairMac v.ov v.na (at' v.va) (at' (v.va + 1)) (at' v.vb) (at' (v.vb + 1))
        (at' v.vc) (at' (v.vc + 1))), r.gen⟩
    | 0x0D => ⟨r.g.setPair v.vd t (doubleToPair v.ov (g.v64 v.va t).toNat), r.gen⟩
    | 0x0C =>
      let d := r.gen.drawIf rm
      let x := pairTo .f64 rm v.ov d.1 (at' v.va) (at' (v.va + 1))
      ⟨(r.g.setV64 v.vd t (BitVec.ofNat 64 x.code)).addFlags x.flags, d.2⟩
    | _ =>
      let d := r.gen.drawIf rm
      let x := pairTo .f32 rm v.ov d.1 (at' v.va) (at' (v.va + 1))
      ⟨(r.g.setV v.vd t (BitVec.ofNat 32 x.code)).addFlags x.flags, d.2⟩

/-- PAIR_ARITHMETIC (05 R172). -/
def execPairArithmetic (i : Issuer) (w : W64) (s : State) : Host.Outcome State Fault Refusal :=
  command (.pairArithmetic i w) (s.canIssue i) s
    (s.issueDrawing i w (vForm w).g (rmOf w == .sr) (lanePair w))

/-! ### Conversions (05 R171) -/

/-- The floating-point format of a conversion code. -/
def convFmt (code : Nat) : Option Fmt :=
  match code with
  | 0 => some .f32
  | 1 => some .f64
  | 2 => some .bf16
  | 3 => some .f16
  | 4 => some .e4m3
  | 5 => some .e5m2
  | _ => none

/-- The value of a source of a conversion. -/
def convSource (code : Nat) (x : W64) : FVal :=
  match convFmt code with
  | some f => f.decode x.toNat
  | none =>
    match code with
    | 6 => intVal (x.truncate 32).toInt
    | 7 => intVal ((x.toNat % 2 ^ 32 : Nat) : Int)
    | 8 => intVal x.toInt
    | _ => intVal (x.toNat : Int)

/-- The limits of an integer type of a conversion. -/
def convLimits (code : Nat) : Int × Int :=
  match code with
  | 6 => (-(2 ^ 31), 2 ^ 31 - 1)
  | 7 => (0, 2 ^ 32 - 1)
  | 8 => (-(2 ^ 63), 2 ^ 63 - 1)
  | _ => (0, 2 ^ 64 - 1)

/-- One conversion (05 R171): the destination's code, zero above its width (05 R156). -/
def convertOne (src dst : Nat) (rm : Rm) (sat : Bool) (draw : Nat) (x : W64) : W64 × FFlags :=
  let v := convSource src x
  match convFmt dst with
  | some f => let r := f.encode rm sat draw v; (BitVec.ofNat 64 r.code, r.flags)
  | none =>
    let lim := convLimits dst
    let r := floatToInt rm lim.1 lim.2 v
    (BitVec.ofInt 64 r.1, r.2)

/-- One thread of OPC 0x33 (05 R171). -/
def laneConvert (w : W64) (g : Group) (r : LaneRun) (t : Nat) : LaneRun :=
  let v := vForm w
  let rm := rmOf w
  let src := fnOf w / 16
  let dst := fnOf w % 16
  let x : W64 := if convRegs src == 2 then g.v64 v.va t else (g.v v.va t).setWidth 64
  let d := r.gen.drawIf rm
  let y := convertOne src dst rm v.ov d.1 x
  let h := if convRegs dst == 2 then r.g.setV64 v.vd t y.1 else r.g.setV v.vd t (y.1.truncate 32)
  ⟨h.addFlags y.2, d.2⟩

/-- CONVERSION (05 R171). -/
def execConversion (i : Issuer) (w : W64) (s : State) : Host.Outcome State Fault Refusal :=
  command (.conversion i w) (s.canIssue i) s
    (s.issueDrawing i w (vForm w).g (rmOf w == .sr) (laneConvert w))

end Sys2Proof.Machine
end

