-- ==== Sys2Proof/Machine/Flow.lean ====
section
/-!
DEFINITION. Control flow, OPC 0x02 (04 R127 to R131; 05 R175, R176): branches, the mask stack, calls,
exit.
-/
namespace Sys2Proof.Machine

/-- Resumption of the top entry as a join at `a` makes it, repeated while the active mask stays zero;
none when the group has ended (04 R129, R130). -/
def resumeTop : Nat → W64 → Group → Option Group
  | 0, _, _ => none
  | fuel + 1, a, g =>
    match g.stack with
    | [] => none
    | e :: rest =>
      if e.pend != 0 then
        some { g with active := e.pend, pc := e.ppc, stack := { e with pend := 0 } :: rest }
      else
        let g := { g with active := e.saved &&& g.launch, stack := rest, pc := a + 8 }
        if g.active != 0 then some g
        else
          match rest with
          | [] => none
          | t :: _ => resumeTop fuel t.rpc g

/-- The resumption of a group whose active mask is zero (04 R130). -/
def Group.resume (g : Group) : Option Group :=
  match g.stack with
  | [] => none
  | e :: _ => resumeTop (g.stack.length + 1) e.rpc g

/-- What a control-flow instruction makes of its group: it goes on, ends, or faults. -/
inductive FlowEnd where
  | on (g : Group)
  | ended
  | bad (code : Nat) (info : W32)
  deriving DecidableEq, Repr

def FlowEnd.ofOption : Option Group → FlowEnd
  | some g => .on g
  | none => .ended

/-- BRA (05 R175, 04 R130). -/
def flowBra (w : W64) (g : Group) : FlowEnd :=
  let gd := guardOf w
  let taken := g.active &&& g.guardMask gd
  if !gd.pe || taken == g.active then .on { g with pc := branchTarget w g.pc }
  else if taken == 0 then .on g.advance
  else .bad 0x0309 g.active

/-- BRR (04 R129). -/
def flowBrr (w : W64) (g : Group) : FlowEnd :=
  let p := g.guardMask (guardOf w)
  if 32 ≤ g.stack.length then .bad 0x0301 g.active
  else
    let taken := g.active &&& p
    let other := g.active &&& ~~~p
    let e : MaskEntry := ⟨reconvTarget w g.pc, g.active, other, g.pc + 8⟩
    if taken != 0 then .on { g with active := taken, pc := branchTarget w g.pc, stack := e :: g.stack }
    else .on { g with pc := g.pc + 8, stack := { e with pend := 0 } :: g.stack }

/-- JOIN (04 R129). -/
def flowJoin (g : Group) : FlowEnd :=
  match g.stack with
  | [] => .bad 0x0302 g.active
  | e :: _ =>
    if e.rpc != g.pc then .bad 0x0303 g.active
    else FlowEnd.ofOption (resumeTop (g.stack.length + 1) g.pc g)

/-- BRK (04 R129, R130). -/
def flowBrk (w : W64) (g : Group) : FlowEnd :=
  let l := fld w 23 5
  if g.stack.length < l + 1 then .bad 0x0303 g.active
  else
    let b := g.active &&& g.guardMask (guardOf w)
    let clear (e : MaskEntry) : MaskEntry := { e with saved := e.saved &&& ~~~b, pend := e.pend &&& ~~~b }
    let g := { g with active := g.active &&& ~~~b, stack := (g.stack.take l).map clear ++ g.stack.drop l }
    if g.active != 0 then .on g.advance else FlowEnd.ofOption g.resume

/-- BRI (05 R175, R176). -/
def flowBri (w : W64) (g : Group) : FlowEnd :=
  let a := g.s (fld w 23 6)
  if a.toNat % 8 != 0 then .bad 0x0407 (a.truncate 32) else .on { g with pc := a }

/-- CALL (05 R175). -/
def flowCall (w : W64) (g : Group) : FlowEnd :=
  .on { g.setS (fld w 23 6) (g.pc + 8) with pc := branchTarget w g.pc }

/-- EXIT (04 R127, R130): the threads leave every mask. -/
def flowExit (w : W64) (g : Group) : FlowEnd :=
  let x := g.active &&& g.guardMask (guardOf w)
  let clear (e : MaskEntry) : MaskEntry := { e with saved := e.saved &&& ~~~x, pend := e.pend &&& ~~~x }
  let g := { g with active := g.active &&& ~~~x, launch := g.launch &&& ~~~x, stack := g.stack.map clear }
  if g.launch == 0 then .ended
  else if g.active != 0 then .on g.advance
  else FlowEnd.ofOption g.resume

/-- A control-flow instruction issued. -/
def State.flow (s : State) (i : Issuer) (w : W64) (f : Group → FlowEnd) : State :=
  s.issue i w (fun g =>
    match f g with
    | .on g' => (s.countIssue i).setGroup i g'
    | .ended => (s.countIssue i).endGroup i g
    | .bad code info => s.refuse i g code 0xFF info)

/-- BRA (05 R175). -/
def execBra (i : Issuer) (w : W64) (s : State) : Host.Outcome State Fault Refusal :=
  command (.bra i w) (s.canIssue i) s (s.flow i w (flowBra w))

/-- Whether a branch with reconvergence diverges (04 R150, CORE_EVT_DIVERGED). -/
def State.diverges (s : State) (i : Issuer) (w : W64) : Bool :=
  match s.group? i with
  | none => false
  | some g =>
    let p := g.guardMask (guardOf w)
    legalOne w && g.stack.length < 32 && g.active &&& p != 0 && g.active &&& ~~~p != 0

/-- BRR (04 R129, 05 R175), counted when it diverges. -/
def State.doBrr (s : State) (i : Issuer) (w : W64) : State :=
  let t := s.flow i w (flowBrr w)
  if !i.isCp && s.diverges i w then t.countCore i 2 1 else t

def execBrr (i : Issuer) (w : W64) (s : State) : Host.Outcome State Fault Refusal :=
  command (.brr i w) (s.canIssue i) s (s.doBrr i w)

/-- JOIN (04 R129, 05 R175). -/
def execJoin (i : Issuer) (w : W64) (s : State) : Host.Outcome State Fault Refusal :=
  command (.join i w) (s.canIssue i) s (s.flow i w flowJoin)

/-- BRK (04 R129, R130; 05 R175). -/
def execBrk (i : Issuer) (w : W64) (s : State) : Host.Outcome State Fault Refusal :=
  command (.brk i w) (s.canIssue i) s (s.flow i w (flowBrk w))

/-- BRI (05 R175, R176). -/
def execBri (i : Issuer) (w : W64) (s : State) : Host.Outcome State Fault Refusal :=
  command (.bri i w) (s.canIssue i) s (s.flow i w (flowBri w))

/-- CALL (05 R175). -/
def execCall (i : Issuer) (w : W64) (s : State) : Host.Outcome State Fault Refusal :=
  command (.call i w) (s.canIssue i) s (s.flow i w (flowCall w))

/-- EXIT (04 R127, 05 R175). -/
def execExit (i : Issuer) (w : W64) (s : State) : Host.Outcome State Fault Refusal :=
  command (.exit i w) (s.canIssue i) s (s.flow i w (flowExit w))

end Sys2Proof.Machine
end

