-- ==== Sys2Proof/Machine/Llm.lean ====
section
/-!
DEFINITION. Requests at a home taken apart (08 R285 to R290, R295 to R297, 15 R518): the home receives a
request, sends its messages, the L1s act on them, their answers arrive, the request ends; and the end of a
memory read (09 R307 to R309).
-/
namespace Sys2Proof.Machine

/-! ### Lines and requests -/

/-- Whether a line has a home here that can serve it (08 R299). -/
def State.lineLives (s : State) (line : Nat) : Bool :=
  s.sliceOn line &&
  match lineKind line with
  | .global ofs =>
    let r := regionOf ofs
    let pc := (s.spot r (regionOfs ofs)).1
    s.b F.llmRgnDesc_VALID r && !s.b F.llmRgnDesc_FILLING r && !s.ras.isolated.contains (pc / 64) &&
      (!s.chanStalled pc || s.heldHere line)
  | .near part a =>
    match s.nearPlace part a with
    | some (w, _) => !s.ras.isolated.contains (w / 1024)
    | none => false
  | .remote _ _ => s.heldRemote line

def State.txn (s : State) (line : Nat) : Option HomeTxn := SMap.find s.mem.txns line

def State.setTxn (s : State) (line : Nat) (t : Option HomeTxn) : State :=
  { s with mem := { s.mem with txns := match t with
      | some t => SMap.put s.mem.txns line t
      | none => SMap.drop s.mem.txns line } }

/-- TRANSIENT of a line's entry, where it has one (08 R285). -/
def State.setTransient (s : State) (line : Nat) (b : Bool) : State :=
  match s.dirEntry line with
  | some e => s.setDir line (some { e with transient := b })
  | none => s

/-- The core whose L1 a request is for. -/
def HomeReq.core : HomeReq → Option Nat
  | .gets core _ => some core
  | .getm core _ => some core
  | _ => none

/-- The partition whose ways a request may fill (08 R274). -/
def State.reqPart (s : State) (r : HomeReq) : Nat :=
  match r with
  | .gets core slot | .getm core slot => ((s.group? (.group core slot)).map Group.part).getD 0
  | _ => 0

/-- The cores an entry names that run, other than one. -/
def State.named (s : State) (e : DirEntry) (but : Option Nat) : List Nat :=
  (sharerList e.sharers).filterMap (fun i =>
    match s.logicalOf i with
    | some c => if s.fencedPhys i || some c == but then none else some c
    | none => none)

/-- The core that FWD names, unless it is fenced. -/
def State.forwarder (s : State) (e : DirEntry) : Option Nat :=
  if s.fencedPhys e.fwd then none else s.logicalOf e.fwd

/-- The messages a request makes the home send (08 R287). -/
def State.homeMsgs (s : State) (line : Nat) (e : DirEntry) (r : HomeReq) : List (Nat × HomeMsg) :=
  let fwd (m : HomeMsg) : List (Nat × HomeMsg) := match s.forwarder e with
    | some o => if some o == r.core || (e.state == .ex && s.ownerEmpty e line) then [] else [(o, m)]
    | none => []
  match r, e.state with
  | .gets _ _, .sh => fwd .fwds
  | .gets _ _, .ex => fwd .fwds
  | .getm _ _, .sh => (s.named e r.core).map (fun c => (c, .inv))
  | .getm _ _, .ex => fwd .fwdm
  | .naRead _, .ex => fwd .snoop
  | .naWrite _ _ _, .sh => (s.named e none).map (fun c => (c, .inv))
  | .naWrite _ _ _, .ex | .evict, .ex => (s.named e none).map (fun c => (c, .recall))
  | .evict, .sh => (s.named e none).map (fun c => (c, .inv))
  | _, _ => []

/-- A core receives the grant of a line (08 R287): it travels until L1_GRANT. -/
def State.grant (s : State) (core line : Nat) (st : L1State) : State :=
  { s with mem := { s.mem with grants := SMap.put s.mem.grants (l1Key core line) st } }

/-- The entry of a line with a request of a core in progress, as it will stand (08 R287). -/
def State.enter (s : State) (line core : Nat) (st : DirState) (keep : BitVec 288) : State :=
  let i := s.physIdx core
  let s := match s.dirEntry line with
    | some e => s.setDir line (some { e with sharers := keep ||| bit288 i, state := st, fwd := i })
    | none => s.newDir line st i
  s.setTransient line true

/-! ### The end of a request -/

/-- A line whose only current copy was lost with a fenced core (15 R518), or whose home timed out (08 R296):
state P. -/
def State.markPoison (s : State) (line agent : Nat) : State :=
  let s := s.poisonLine line 0 agent
  match s.dirEntry line with
  | some e => s.setDir line (some { e with state := .p, fwd := 0x1FF, transient := false })
  | none => s

/-- Whether the answers left the line without data because its owner is fenced (15 R518). -/
def State.lostOwner (s : State) (line : Nat) (t : HomeTxn) : Option Nat :=
  match s.dirEntry line with
  | some e => if e.state == .ex && t.noData && (s.fencedPhys e.fwd || s.ownerEmpty e line) then some e.fwd else none
  | none => none

/-- A whole line is replaced (08 R297). -/
def HomeReq.full : HomeReq → Bool
  | .naWrite _ mask _ => mask == BitVec.allOnes 128
  | _ => false

/-- The grant of a GetS: E for a line no L1 holds, else F (08 R286, R287). -/
def State.grantS (s : State) (line core part : Nat) (t : HomeTxn) : State :=
  match s.dirEntry line with
  | none =>
    let s := s.supply line (some part) false
    if line < 2 ^ 40 then (s.enter line core .ex 0).grant core line .e else (s.enter line core .sh 0).grant core line .f
  | some e =>
    let s := if e.state == .sh && (t.noData || (s.homeMsgs line e t.req).isEmpty) then s.supply line (some part) false else s
    (s.enter line core .sh e.sharers).grant core line .f

/-- The grant of a GetM (08 R287). -/
def State.grantM (s : State) (line core part : Nat) (t : HomeTxn) : State :=
  let lacks := (s.l1State core line).isNone
  let held := match s.dirEntry line with
    | some e => e.state == .ex && !t.noData
    | none => false
  let s := if lacks && !held then s.supply line (some part) true else s
  (s.enter line core .ex 0).grant core line .m

/-- What a request comes to once every answer is in. A read or write of a non-allocating agent is over; a GetS
or GetM ends when its grant arrives. An evicted entry is free (08 R289). -/
def State.resolve (s : State) (line : Nat) (t : HomeTxn) : State × Bool :=
  let lost := s.lostOwner line t
  if t.req == .evict then
    let s := match lost with
      | some f => s.poisonLine line 0 f
      | none => s
    ((s.sliceCount line none 3).setDir line none, true)
  else
  match lost with
  | some f =>
    if t.req.full then
      match t.req with
      | .naWrite _ mask d => ((s.naMerge line mask d).toOption.getD s, true)
      | _ => (s, true)
    else (((s.markPoison line f).countPoison line).endTxn line 0x0220 t.req, true)
  | none =>
    match t.req with
    | .gets core _ => (s.grantS line core (s.reqPart t.req) t, false)
    | .getm core _ => (s.grantM line core (s.reqPart t.req) t, false)
    | .evict => (s, true)
    | .naRead _ =>
      let held := match s.dirEntry line with
        | some e => e.state == .ex && !t.noData
        | none => false
      ((if held || !s.cacheable line then s else s.supply line none false).setTransient line false, true)
    | .naWrite _ mask d =>
      match s.naMerge line mask d with
      | .ok s => (s, true)
      | .error c => (((s.countPoison line).endTxn line c t.req).setTransient line false, true)

/-- Room made for the entry that a request needs in a full set: the victim's copies are asked back, and the entry is
free at once where nobody is to be asked (08 R289). Whether the request must wait. -/
def State.makeRoom (s : State) (line : Nat) (r : HomeReq) : State × Bool :=
  let (slice, set) := s.homeOf line
  if r.core.isNone || (s.dirEntry line).isSome then (s, false)
  else
    match s.dirVictim slice (set % 256) with
    | none => (s, s.dirFull line)
    | some v =>
      match s.dirEntry v with
      | none => (s, false)
      | some e =>
        let sent := s.homeMsgs v e .evict
        let t : HomeTxn := ⟨.evict, sent, [], (s.ownerFenced v).isSome, [], false⟩
        if sent.isEmpty then ((s.resolve v t).1, false) else ((s.setTransient v true).setTxn v (some t), true)

/-- A request begins at a home that serves no other for its line: it is answered with fault 0x0220, waits for a
directory entry, or its messages go out, or it ends at once (08 R287, R289, R297). -/
def State.beginReq (s : State) (line : Nat) (r : HomeReq) (queue : List HomeReq) : State × Option HomeTxn :=
  if (s.poisoned line && !r.full) || s.chanFailed line then ((s.countPoison line).endTxn line 0x0220 r, none)
  else
    let m := s.makeRoom line r
    let s := m.1
    if m.2 then (s, some ⟨r, [], [], false, queue, true⟩)
    else
    let sent := match s.dirEntry line with
      | some e => s.homeMsgs line e r
      | none => []
    let silent := match s.dirEntry line with
      | some e => s.fencedPhys e.fwd || e.state == .sh && e.fwd == 0x1FF || s.ownerEmpty e line
      | none => false
    let t : HomeTxn := ⟨r, sent, [], silent && sent.isEmpty, queue, false⟩
    if !sent.isEmpty then (s.setTransient line true, some t)
    else
      match s.resolve line t with
      | (s, true) => (s, none)
      | (s, false) => (s, some t)

/-- The requests queued at a home served in arrival order until one does not end at once (08 R285). -/
def State.serveQueue (line : Nat) : List HomeReq → State → State
  | [], s => s.setTxn line none
  | r :: q, s =>
    match s.beginReq line r q with
    | (s, some t) => s.setTxn line (some t)
    | (s, none) => State.serveQueue line q s

/-- The requests that wait for an entry of the set of a line. -/
def State.roomWaiters (s : State) (line : Nat) : List (Nat × HomeTxn) :=
  let (slice, set) := s.homeOf line
  s.mem.txns.filter (fun e => e.2.room && (s.homeOf e.1).1 == slice && (s.homeOf e.1).2 % 256 == set % 256)

/-- A request of a set has ended: those that wait for an entry there are tried again (08 R289). -/
def State.retryRoom (s : State) (line : Nat) : State :=
  (s.roomWaiters line).foldl (fun (s : State) (e : Nat × HomeTxn) =>
    State.serveQueue e.1 (e.2.req :: e.2.queue) s) s

/-- A request arrives at a home: it queues behind one in progress. -/
def State.requestAt (s : State) (line : Nat) (r : HomeReq) : State :=
  match s.txn line with
  | some t => s.setTxn line (some { t with queue := t.queue ++ [r] })
  | none => State.serveQueue line [r] s

/-- A request whose last answer has come. -/
def State.settle (s : State) (line : Nat) (t : HomeTxn) : State :=
  if t.sent.isEmpty && t.answering.isEmpty then
    match s.resolve line t with
    | (s, true) => (State.serveQueue line t.queue s).retryRoom line
    | (s, false) => s.setTxn line (some t)
  else s.setTxn line (some t)

/-! ### Requests (08 R286, R287, R290) -/

/-- Whether an L1 may ask for a line: its core runs, the group is resident, the line may be cached, and it has
not asked already. -/
def State.mayAsk (s : State) (core slot line : Nat) : Bool :=
  s.corePresent core && !s.fenced core && (s.group? (.group core slot)).isSome && s.cacheable line &&
    s.lineLives line &&
    (match s.txn line with
      | some t => (t.req :: t.queue).all (fun r => r.core != some core)
      | none => true)

/-- The logical way (slice × 16 + way) whose array holds a line (08 R274, R278). -/
def State.arrayWay (s : State) (line : Nat) : Option Nat :=
  match lineKind line with
  | .near part a => (s.nearPlace part a).map Prod.fst
  | _ => (s.cacheSlot line).map (· / 4096)

/-- Whether a GetS makes the home read the line in the data array: no request is in progress there, no L1 is
asked, and a way holds the line (08 R287, 15 R523). -/
def State.arrayRead (s : State) (core slot line : Nat) : Bool :=
  (s.txn line).isNone && !s.poisoned line && (s.arrayWay line).isSome &&
    (match s.dirEntry line with
      | some e => (s.homeMsgs line e (.gets core slot)).isEmpty
      | none => true)

/-- RAS_WAY_ADVISE of a logical way (15 R523, R534). -/
def State.adviseWay (s : State) (w : Nat) : State :=
  s.rset .rasWayAdvise (w / 32) (s.rget .rasWayAdvise (w / 32) ||| bit32 (w % 32))

/-- A corrected word of a logical way: RAS_EVT_SLICE_CE, and the way's bit past WAY_CE_LIMIT within 65,536 beats
while the limit is in force (15 R523, R534; log entry 125). -/
def State.countWayCe (s : State) (w : Nat) : State :=
  let s := s.rasCount 8
  let bs := recent s.beat (SMap.get [] s.ras.wayCe w)
  let s := { s with ras := { s.ras with wayCe := SMap.put s.ras.wayCe w bs } }
  if s.b F.rasCtrl_ENABLE 0 && s.f F.rasCfg_WAY_CE_LIMIT 0 < bs.length then s.adviseWay w else s

/-- An uncorrectable word of a line: a clean cache line is dropped, a dirty one or a scratch line poisoned with
cause 1 (15 R523, 08 R297). -/
def State.loseArrayLine (s : State) (line : Nat) : State :=
  match s.cacheAt line with
  | some (k, c) => if c.data.isNone && c.busy == 0 then s.dropSlot k false else s.poisonLine line 1 0x1FF
  | none => s.poisonLine line 1 0x1FF

/-- A line read in its way's data array (15 R523). -/
def State.readArray (s : State) (line : Nat) (r : ArrayReport) : State :=
  let w := (s.arrayWay line).getD 0
  match r with
  | .good => s
  | .corrected => State.service s (s.countWayCe w)
  | .uncorrectable => State.service s ((s.adviseWay w).loseArrayLine line)

/-- GETS (08 R286, R287; 15 R523): from state I; the word the home reads in its array may be bad. -/
def execGets (core slot line : Nat) (r : ArrayReport) (s : State) : Host.Outcome State Fault Refusal :=
  command (.gets core slot line r)
    (s.mayAsk core slot line && (s.l1State core line).isNone && (r == .good || s.arrayRead core slot line))
    s ((s.readArray line r).requestAt line (.gets core slot))

/-- GETM (08 R286, R287, R280): from I, S or F, of a line homed here. -/
def execGetm (core slot line : Nat) (s : State) : Host.Outcome State Fault Refusal :=
  command (.getm core slot line)
    (s.mayAsk core slot line && line < 2 ^ 40 &&
      (s.l1State core line == none || s.l1State core line == some .s || s.l1State core line == some .f))
    s (s.requestAt line (.getm core slot))

/-- PUTF (08 R287, R288): applied in arrival order; FWD stays when it names another core. -/
def execPutf (core line : Nat) (s : State) : Host.Outcome State Fault Refusal :=
  command (.putf core line) (!s.fenced core && s.l1State core line == some .f) s
    (s.evictL1 core line)

/-- PUTE (08 R287). -/
def execPute (core line : Nat) (s : State) : Host.Outcome State Fault Refusal :=
  command (.pute core line) (!s.fenced core && s.l1State core line == some .e) s
    (s.evictL1 core line)

/-- PUTM (08 R287): its data go to the slice or to memory. -/
def execPutm (core line : Nat) (s : State) : Host.Outcome State Fault Refusal :=
  command (.putm core line) (!s.fenced core && s.l1State core line == some .m) s
    (s.evictL1 core line)

/-- NON_ALLOCATING_READ (08 R287, R290). -/
def execNonAllocatingRead (line : Nat) (who : Accessor) (s : State) : Host.Outcome State Fault Refusal :=
  command (.nonAllocatingRead line who) (s.lineLives line) s
    (s.requestAt line (.naRead who))

/-- NON_ALLOCATING_WRITE (08 R287, R290, R297): of a line homed here. -/
def execNonAllocatingWrite (line : Nat) (who : Accessor) (mask : BitVec 128) (data : List Byte) (s : State) :
    Host.Outcome State Fault Refusal :=
  command (.nonAllocatingWrite line who mask data) (s.lineLives line && line < 2 ^ 40) s
    (s.requestAt line (.naWrite who mask data))

/-! ### The L1s (08 R286) -/

/-- A granted line enters the L1, one of its set leaving where it is full. -/
def State.takeGrant (s : State) (core line : Nat) (st : L1State) : State :=
  let s := (s.l1Room core line).setL1 core line (some st)
  let s := { s with mem := { s.mem with grants := SMap.drop s.mem.grants (l1Key core line) } }
  if st == .m then { s with mem := { s.mem with l1data := SMap.put s.mem.l1data line (s.curLine line) } } else s

/-- The request that a grant ends makes way for the next. -/
def State.granted (s : State) (line : Nat) : State :=
  let s := s.setTransient line false
  match s.txn line with
  | some t => (State.serveQueue line t.queue s).retryRoom line
  | none => s

/-- L1_GRANT (08 R286). -/
def execL1Grant (core line : Nat) (s : State) : Host.Outcome State Fault Refusal :=
  command (.l1Grant core line) (SMap.find s.mem.grants (l1Key core line)).isSome s
    (match SMap.find s.mem.grants (l1Key core line) with
     | some st => (s.takeGrant core line st).granted line
     | none => s)

/-- Whether a home waits for a core to act on a message. -/
def State.asked (s : State) (core line : Nat) (m : HomeMsg) : Bool :=
  !s.fenced core && (s.txn line).any (fun t => t.sent.contains (core, m))

/-- A core has acted on a message: its answer travels, with data or without. -/
def State.acted (s : State) (core line : Nat) (m : HomeMsg) (data : Bool) : State :=
  match s.txn line with
  | some t => s.setTxn line (some { t with
      sent := t.sent.erase (core, m)
      answering := t.answering ++ [core]
      noData := t.noData || !data })
  | none => s

/-- M data sent to the home as well. -/
def State.homeCopy (s : State) (line : Nat) : State :=
  match SMap.find s.mem.l1data line with
  | some d => ({ s with mem := { s.mem with l1data := SMap.drop s.mem.l1data line } }).putHome line d
  | none => s

/-- FwdS: the data go to the reader, M data also home, and the line falls to S. -/
def State.doFwds (s : State) (core line : Nat) : State :=
  match s.l1State core line with
  | some .m => ((s.homeCopy line).setL1 core line (some .s)).acted core line .fwds true
  | some _ => (s.setL1 core line (some .s)).acted core line .fwds true
  | none => s.acted core line .fwds false

/-- FwdM: the data go to the new owner; M data stay in `l1data` until the grant. -/
def State.doFwdm (s : State) (core line : Nat) : State :=
  match s.l1State core line with
  | some _ => (s.setL1 core line none).acted core line .fwdm true
  | none => s.acted core line .fwdm false

/-- INV (08 R286). -/
def execL1Inv (core line : Nat) (s : State) : Host.Outcome State Fault Refusal :=
  command (.l1Inv core line) (s.asked core line .inv) s
    ((s.surrender core line false).acted core line .inv true)

/-- FWDS (08 R286, R288). -/
def execL1Fwds (core line : Nat) (s : State) : Host.Outcome State Fault Refusal :=
  command (.l1Fwds core line) (s.asked core line .fwds) s (s.doFwds core line)

/-- FWDM (08 R286). -/
def execL1Fwdm (core line : Nat) (s : State) : Host.Outcome State Fault Refusal :=
  command (.l1Fwdm core line) (s.asked core line .fwdm) s (s.doFwdm core line)

/-- SNOOP (08 R286): no state changes. -/
def execL1Snoop (core line : Nat) (s : State) : Host.Outcome State Fault Refusal :=
  command (.l1Snoop core line) (s.asked core line .snoop) s
    (s.acted core line .snoop (s.l1State core line).isSome)

/-- RECALL (08 R286): dirty data go home. -/
def execL1Recall (core line : Nat) (s : State) : Host.Outcome State Fault Refusal :=
  command (.l1Recall core line) (s.asked core line .recall) s
    ((s.surrender core line true).acted core line .recall (s.l1State core line).isSome)

/-- Whether a flush that covers a line is under way: of the host, or of a tile mover. -/
def State.flushing (s : State) (line : Nat) : Bool :=
  (s.hbm.rangeOp.any (fun r => r.fn == 1 && (s.rangeLines r).contains line)) ||
    s.co.cores.any (fun e => e.2.tm.any (fun c => classOf c.w0 == some .flush &&
      c.xfers.any (fun x => ((s.rangeTarget c x.idx .flush).toOption.map Prod.fst) == some line)))

/-- FLUSH_REQUEST (08 R281, R286): an owner in M sends its data home and keeps the line in E. -/
def execL1FlushRequest (core line : Nat) (s : State) : Host.Outcome State Fault Refusal :=
  command (.l1FlushRequest core line) (!s.fenced core && s.l1State core line == some .m && s.flushing line)
    s ((s.homeCopy line).setL1 core line (some .e))

/-! ### Answers and timeouts -/

/-- The home notes that a core holds the line no more. -/
def State.forget (s : State) (core line : Nat) : State :=
  let i := s.physIdx core
  match s.dirEntry line with
  | some e =>
    if (s.l1State core line).isSome then s
    else s.setDir line (some { e with sharers := e.sharers &&& ~~~bit288 i, fwd := if e.fwd == i then 0x1FF else e.fwd })
  | none => s

/-- An answer arrives; the port of a fenced core answers for it, without data (15 R518). -/
def State.answered (s : State) (core line : Nat) : State :=
  match s.txn line with
  | none => s
  | some t =>
    if t.answering.contains core then
      (s.forget core line).settle line { t with answering := t.answering.erase core }
    else
      s.settle line { t with sent := t.sent.filter (fun x => x.1 != core), noData := true }

/-- L1_RESPONSE (08 R287, 15 R518). -/
def execL1Response (core line : Nat) (s : State) : Host.Outcome State Fault Refusal :=
  command (.l1Response core line)
    ((s.txn line).any (fun t => t.answering.contains core || (s.fenced core && t.sent.any (fun x => x.1 == core))))
    s (State.service s (s.answered core line))

/-- The transfer of a tile mover's flush, invalidation or draff that acts on a line. -/
def State.rangeXfer (s : State) (line : Nat) : Option (Nat × TmCmd × Nat) :=
  s.co.cores.findSome? (fun e => e.2.tm.findSome? (fun c =>
    if (opcOf c.w0 == 0xE3 && fnOf c.w0 != 0) then
      (c.xfers.find? (fun x => ((s.rangeTarget c x.idx .flush).toOption.map Prod.fst) == some line)).map
        (fun x => (e.1, c, x.idx))
    else none))

/-- Whether a range operation of the host or of a tile mover acts on a line. -/
def State.ranged (s : State) (line : Nat) : Bool :=
  s.hbm.rangeOp.any (fun r => (s.rangeLines r).contains line) || (s.rangeXfer line).isSome

/-- The core whose answer a home lacks: of a request taken apart, or of a far operation or a range operation that
waits for an L1's copy (08 R296). -/
def State.silentCore (s : State) (line : Nat) : Option Nat :=
  match s.txn line with
  | some t => (t.sent.head?).map Prod.fst
  | none =>
    match s.dirEntry line with
    | some e =>
      if s.mem.farOps.any (fun o => (s.farAll o).contains line) || s.ranged line then (s.named e none).head? else none
    | none => none

/-- Fault 0x0221 for the access that waited: the request in progress, or the one that waits for an evicted entry; the
oldest far operation on the line, or the transfer of a range operation. A range operation of the host is of no
context (08 R296). -/
def State.failWaiting (s : State) (line : Nat) : State :=
  match s.txn line with
  | some t =>
    if t.req == .evict then
      match s.roomWaiters line with
      | [] => s
      | (l, w) :: _ =>
        let s := s.endTxn l 0x0221 w.req
        match w.queue with
        | [] => s.setTxn l none
        | r :: q => s.setTxn l (some { w with req := r, queue := q })
    else s.endTxn line 0x0221 t.req
  | none =>
    match s.mem.farOps.find? (fun o => (s.farAll o).contains line) with
    | some o => s.farFault o 0x0221 o.addr
    | none =>
      match s.rangeXfer line with
      | some (core, c, idx) => s.faultXfer core c.id idx 0x0221 ((c.rangeLine idx).truncate 32)
      | none => s

/-- The actions of a snoop timeout in one step (08 R296). -/
def State.snoopExpired (s : State) (line core : Nat) : State :=
  let i := s.physIdx core
  let s := s.sliceCount line none 5
  let s := ((s.markPoison line i).failWaiting line).fenceCore i
  match s.txn line with
  | some t => (State.serveQueue line t.queue s).retryRoom line
  | none => s

/-- SNOOP_TIMEOUT (08 R296): not in the safe state, where timeouts stand still (14 R496). -/
def execSnoopTimeout (line : Nat) (s : State) : Host.Outcome State Fault Refusal :=
  command (.snoopTimeout line) ((s.silentCore line).isSome && !s.b F.clkStatus_SAFE 0) s
    (match s.silentCore line with
     | some c => State.service s (s.snoopExpired line c)
     | none => s)

/-! ### Memory reads (09 R307 to R309) -/

/-- The access that met an uncorrectable or poisoned word receives fault 0x0220 (09 R308), one that reads memory before
it merges less than 32 bytes among them (R306): its write then meets a poisoned line and is not made. -/
def State.doMemoryRead (s : State) (pc addr : Nat) (who : Accessor) (r : BurstReport) : State :=
  let line := s.lineAt pc addr
  let t := s.readBurst pc addr line false r
  match line with
  | none => t
  | some l => if r.bad || t.poisoned l then (t.countPoison l).endTxn l 0x0220 (.naRead who) else t

/-- MEMORY_READ_COMPLETE (09 R307). -/
def execMemoryReadComplete (pc line : Nat) (who : Accessor) (r : BurstReport) (s : State) :
    Host.Outcome State Fault Refusal :=
  command (.memoryReadComplete pc line who r)
    (line < 2 ^ 24 && s.b F.stackStatus_TRAINED (pc / 32) && !s.chanStalled pc &&
      s.f F.stackStatus_FAILED_CH (pc / 32) / 2 ^ (pc % 32 / 2) % 2 == 0)
    s (State.service s (s.doMemoryRead pc line who r))

end Sys2Proof.Machine
end

