-- ==== Sys2Proof/Machine/Views.lean ====
section
/-!
DEFINITION. What a read of a register returns (16 R539, R545 to R547, R559): registers that show live state
(04 R148, R149; 08 R299; 11 R410; 13 R482, R484; 14 R490, R509; 15 R534), the held low words of pairs, the
copies of always-on registers, and a partition's views.
-/
namespace Sys2Proof.Machine

/-! ### Cores (04 R148, R149) -/

/-- The granules of a core's resident groups. -/
def State.granules (s : State) (core : Nat) : Nat :=
  (s.coreGroups core).foldl (fun (n : Nat) (e : Nat × Group) => n + e.2.rpt / 8) 0

/-- A flag as a bit at a place. -/
def flagAt (k : Nat) (x : Bool) : Nat := if x then 2 ^ k else 0

/-- Whether an engine executes: the head of its queue has started. -/
def meBusy (q : List MatCmd) : Bool := ((q.head?).map MatCmd.started).getD false

/-- QUIESCED: no group is issuing and every queue is empty. -/
def State.quiesced (s : State) (core : Nat) : Bool :=
  (s.coreGroups core).all (fun e => !s.canIssue (.group core (e.1 % 64))) &&
    (s.core core).mats.isEmpty && (s.core core).tm.isEmpty

/-- CORE_STATUS. Vector instructions complete in their own step, so VE_BUSY reads 0 (log entry 49). -/
def State.coreStatusNow (s : State) (core : Nat) : W32 :=
  let c := s.core core
  BitVec.ofNat 32 ((s.coreGroups core).length + (256 - s.granules core) * 2 ^ 8 + flagAt 17 (s.quiesced core) +
    flagAt 18 (meBusy c.me0) + flagAt 19 (meBusy c.me1) + flagAt 20 (meBusy c.me2) + flagAt 21 (meBusy c.me3) +
    flagAt 24 (c.tm.any (fun t => !t.xfers.isEmpty)))

/-- The group in the slot that CORE_GROUP_SEL names. -/
def State.selected (s : State) (core : Nat) : Option Group :=
  SMap.find s.co.groups (core * 64 + s.f F.coreGroupSel_SLOT core)

/-- CORE_GROUP_STATE. A group stalled on an operand or a full queue is not ready (04 R123). -/
def State.groupStateNow (s : State) (core : Nat) : W32 :=
  match s.selected core with
  | none => 0
  | some g =>
    let wait (x : Wait → Bool) : Bool := x g.wait
    BitVec.ofNat 32 (1 + flagAt 1 (s.canIssue (.group core (s.f F.coreGroupSel_SLOT core)) && g.wait != .operand) +
      flagAt 2 (wait (fun | .barrier _ => true | _ => false)) +
      flagAt 3 (wait (fun | .lock _ _ _ _ => true | _ => false)) +
      flagAt 4 (wait (fun | .operand => true | _ => false)) +
      g.stack.length % 64 * 2 ^ 5 + g.wdog % 2 ^ 13 * 2 ^ 11 + g.rpt / 8 * 2 ^ 24)

/-- CORE_GROUP_ACTIVE and CORE_GROUP_LAUNCH of an empty slot read 0. -/
def State.selectedMask (s : State) (core : Nat) (m : Group → W32) : W32 := ((s.selected core).map m).getD 0

/-! ### Slices (08 R299) -/

/-- LLM_SLICE_STATUS: RBUSY counts the lines of the slice that queued far operations keep busy, in cache-mode or scratch
ways (08 R294). -/
def State.sliceStatusNow (s : State) (slice : Nat) : W32 :=
  let lines := (s.mem.farOps.flatMap s.farAll).eraseDups
  let busy := lines.countP (fun l => (s.homeOf l).1 == slice && ((s.cacheAt l).isSome || (s.arrayWay l).isSome))
  BitVec.ofNat 32 ((s.farQueue slice).length % 128 + busy % 2 ^ 13 * 2 ^ 7 +
    (SMap.get [] s.mem.draffed slice).length % 512 * 2 ^ 20)

/-! ### Always-on registers (16 R546, 13 R484) -/

/-- The index by which AON copies and latched writes know a register word. -/
def aonWords : List (Reg × Nat) :=
  [(.aonEvent, 0), (.aonScratch, 0), (.aonScratch, 1), (.aonScratch, 2), (.aonScratch, 3), (.kegStatus, 0)] ++
    (List.range 16).map (fun k => (Reg.kegCnt, k))

/-- Half k of the counters: the value of a readable counter, a free value for one that is unreadable. -/
def State.counterWord (s : State) (k : Nat) : W32 × State :=
  match s.counter (k / 2) with
  | some v => (BitVec.ofNat 32 (if k % 2 == 0 then v else v / 2 ^ 32), s)
  | none => (s.draw.1.truncate 32, s.draw.2)

/-- An always-on register as it stands at an edge. -/
def State.aonNow (s : State) (r : Reg) (i : Nat) : W32 × State :=
  match r with
  | .kegCnt => s.counterWord i
  | _ => (s.rget r i, s)

/-- The copies refreshed (16 R546, R547). -/
def State.refreshAon (s : State) : State :=
  aonWords.foldl (fun (s : State) (p : Reg × Nat) =>
    let x := s.aonNow p.1 p.2
    { x.2 with aonCopy := SMap.set (p.1.resetWord p.2) x.2.aonCopy (p.1.key p.2) x.1 }) s

/-! ### Live registers -/

/-- The low half of a pair that is written as one (16 R545): its high half. -/
def Reg.upper : Reg → Option Reg
  | .llmCtlRangeAddrLo => some .llmCtlRangeAddrHi
  | .llmCtlRangeLenLo => some .llmCtlRangeLenHi
  | .bxfCtlDigestBaseLo => some .bxfCtlDigestBaseHi
  | .barRwordLo => some .barRwordHi
  | .fnWinBaseLo => some .fnWinBaseHi
  | .ringBaseLo => some .ringBaseHi
  | .ringTailLo => some .ringTailHi
  | .ringCplLo => some .ringCplHi
  | .xlatRootLo => some .xlatRootHi
  | .keyAddrLo => some .keyAddrHi
  | _ => none

/-- The low half of a high one. -/
def Reg.lower (r : Reg) : Option Reg := Reg.all.find? (fun x => x.upper == some r)

/-- The next index the signer will use, or counter 2 when it holds no block (13 R482); a free value when
counter 2 is unreadable. -/
def State.indexNow (s : State) : W64 × State :=
  if s.sec.idxNext < s.sec.idxEnd then (BitVec.ofNat 64 s.sec.idxNext, s)
  else
    match s.counter 2 with
    | some v => (BitVec.ofNat 64 v, s)
    | none => s.draw

/-- TIMEBASE read (11 R375). -/
def State.timeNow (s : State) : W64 × State := (s.tick.tun.tb, s.tick)

/-- Low and high words. -/
def loWord (x : W64) : W32 := x.truncate 32
def hiWord (x : W64) : W32 := (x >>> 32).truncate 32

/-- Counters of cycles, which the model does not count: their value is free (log entry 50). -/
def cycleCounter (r : Reg) (i : Nat) : Bool :=
  match r with
  | .coreEvtLo | .coreEvtHi => [1, 5, 6].contains (i % 8)
  | .sliceEvtLo | .sliceEvtHi => i % 7 == 4
  | _ => false

/-- A read of a counter of cycles, which has gained a free number since it was last read; WRAP is set as R20 says. -/
def State.freeCounter (s : State) (r : Reg) (i : Nat) : W32 × State :=
  let n := s.draw.1.toNat % 2 ^ 48
  let t := if r == .coreEvtLo || r == .coreEvtHi then s.draw.2.bump .coreEvtLo .coreEvtHi i n
    else s.draw.2.bump .sliceEvtLo .sliceEvtHi i n
  (t.rget r i, t)

/-- What a read of a register returns, and the state after it, which differs in the free values drawn
alone (16 R539). -/
def State.read (s : State) (r : Reg) (i : Nat) : W32 × State :=
  match SMap.find s.lows (r.key i) with
  | some v => (v, s)
  | none =>
    if cycleCounter r i then s.freeCounter r i
    else
      match r with
      | .coreStatus => (s.coreStatusNow i, s)
      | .coreGroupState => (s.groupStateNow i, s)
      | .coreGroupActive => (s.selectedMask i Group.active, s)
      | .coreGroupLaunch => (s.selectedMask i Group.launch, s)
      | .sliceStatus => (s.sliceStatusNow i, s)
      | .hbmCtlRetireMoved => (s.moveOn.rget r i, s.moveOn)
      | .beatTbLo => (loWord s.timeNow.1, s.timeNow.2)
      | .beatTbHi => (hiWord s.timeNow.1, s.timeNow.2)
      | .beatLatchLo => (loWord s.tun.latch, s)
      | .beatLatchHi => (hiWord s.tun.latch, s)
      | .beatNumLo => (loWord s.tun.num, s)
      | .beatNumHi => (hiWord s.tun.num, s)
      | .secIdxLo => (loWord s.indexNow.1, s.indexNow.2)
      | .secIdxHi => (hiWord s.indexNow.1 &&& 0xFF, s.indexNow.2)
      | .clkGate => (if s.f F.clkCfg_GATING 0 == 1 then BitVec.allOnes 32 else s.rget r i, s)
      | .clkStatus => (withBits (s.rget r i) 3 2 s.trimRef, s)
      | .pwrCl => (withBits (s.rget r i) 13 7 (s.dutyOf i), s)
      | .rasSvcCause => (BitVec.ofNat 32 s.svcCause, s)
      | .rasSvcStatus => (BitVec.ofNat 32 (flagAt 0 s.svcRequest + flagAt 1 s.degraded), s)
      | .aonPend => (BitVec.ofNat 32 (flagAt 0 (!s.aon.isEmpty)), s)
      | .aonEvent | .aonScratch | .kegStatus | .kegCnt => (SMap.get (r.resetWord i) s.aonCopy (r.key i), s)
      | _ => (s.rget r i, s)

/-! ### A partition's views (16 R559, 04 R151) -/

/-- A word of a counter of n events: 48 bits, with WRAP once they have wrapped (00 R20). -/
def countWord (n off : Nat) : W32 :=
  BitVec.ofNat 32 (if off % 8 == 4 then n / 2 ^ 32 % 2 ^ 16 + flagAt 16 (2 ^ 48 ≤ n) else n)

/-- A partition's counter as latched at the last boundary: one that counts cycles has then gained a free number, the
same for every read of the beat (log entry 50). -/
def State.viewCount (s : State) (part k : Nat) (cycles : Bool) : Nat × State :=
  let i := part * 8192 + k
  let now := s.tun.num.toNat + 1
  if !cycles then (SMap.get 0 s.views.shown i, s)
  else if SMap.get 0 s.views.stamps i == now then (SMap.get 0 s.views.work i, s)
  else
    let t := s.draw.2.credit part k (s.draw.1.toNat % 2 ^ 48)
    (SMap.get 0 t.views.work i, { t with views := { t.views with stamps := SMap.put t.views.stamps i now } })

/-- What a view of a core shows a partition: CORE_STATUS, and the counters as latched at the last boundary,
counting the partition's work alone. -/
def State.coreView (s : State) (part core off : Nat) : W32 × State :=
  if off == 8 then s.read .coreStatus core
  else if 256 ≤ off && off < 320 then
    let j := (off - 256) / 8
    let x := s.viewCount part (core * 8 + j) (cycleCounter .coreEvtLo j)
    (countWord x.1 off, x.2)
  else (0, s)

/-- What a view of a slice shows: its counters, likewise. -/
def State.sliceView (s : State) (part slice off : Nat) : W32 × State :=
  if 256 ≤ off && off < 312 then
    let n := (off - 256) / 8
    let x := s.viewCount part (2048 + slice * 7 + n) (n == 4)
    (countWord x.1 off, x.2)
  else (0, s)

end Sys2Proof.Machine
end

