-- ==== Sys2Proof/Machine/Ploro.lean ====
section
/-!
DEFINITION. The Ploro table (16 R549 to R557): its bytes as they follow from the state. An update is one
step here, so GEN is never seen odd (log entry 51).
-/
namespace Sys2Proof.Machine

/-- Whose table: the physical function's, a partition's, the recovery table, and the one of a virtual
function that no partition is bound to (16 R557). -/
inductive Table where
  | device
  | part (n : Nat)
  | recovery
  | unbound
  deriving DecidableEq, Repr

/-- An entry before the extension area is laid out: TYPE, FLAGS, INDEX, the body before and after the
extension offset, and its array. -/
structure PloroItem where
  type : Nat
  flags : Nat
  index : Nat
  pre : List Byte
  ext : Option (List Byte)
  post : List Byte
  deriving DecidableEq, Repr

/-- An entry without an array. -/
def PloroItem.plain (type flags index : Nat) (body : List Byte) : PloroItem :=
  { type := type, flags := flags, index := index, pre := body, ext := none, post := [] }

/-- Bytes filled with zeros up to a length. -/
def fillTo (n : Nat) (d : List Byte) : List Byte := (d ++ zeros n).take n

/-- The 64 bytes of an entry whose array, if any, lies at an offset (16 R552). -/
def PloroItem.bytes (x : PloroItem) (ext : Nat) : List Byte :=
  fillTo 64 (leBytes 2 x.type ++ leBytes 2 x.flags ++ leBytes 4 x.index ++ x.pre ++
    (match x.ext with
     | some _ => leBytes 4 ext
     | none => []) ++ x.post)

/-- The entries with their arrays placed one after another from an offset: entries, arrays. -/
def layOut : Nat → List PloroItem → List Byte × List Byte
  | _, [] => ([], [])
  | at', x :: xs =>
    let e := x.ext.getD []
    let r := layOut (at' + e.length) xs
    (x.bytes at' ++ r.1, e ++ r.2)

/-- FLAGS: PRESENT, FENCED, DEGRADED. -/
def entryFlags (present fenced degraded : Bool) : Nat := flagAt 0 present + flagAt 1 fenced + flagAt 2 degraded

/-! ### Entries (16 R553) -/

/-- The pseudo-channels of a range that are not retired. -/
def State.pcsLeft (s : State) (lo n : Nat) : Nat :=
  ((List.range n).filter (fun k => !s.retiredPc (lo + k))).length

/-- The logical cores of a range that are present. -/
def State.coresIn (s : State) (lo n : Nat) : Nat :=
  ((List.range n).filter (fun k => s.corePresent (lo + k))).length

/-- Whether a die is detoured (15 R528). -/
def State.detoured (s : State) (d : Nat) : Bool := s.dieCut d && (s.detour d).isSome

/-- DEGRADED of a die or cluster: some of its cores is absent or fenced (15 R532). -/
def State.coresLost (s : State) (lo n : Nat) : Bool :=
  (List.range n).any (fun k => !s.corePresent (lo + k) || s.fenced (lo + k))

/-- DIE. -/
def State.dieItem (s : State) (d : Nat) : PloroItem :=
  let st := if s.ras.isolated.contains d then 2 else if s.detoured d then 1 else 0
  let bad := st != 0 || s.coresLost (32 * d) 32 || s.pcsLeft (64 * d) 64 < 64 ||
    [2 * d, 2 * d + 1].any (fun q => s.d2dState q == 3 || s.d2dState q == 4)
  .plain 1 (entryFlags true false bad) d
    (leBytes 1 (s.f F.cdStatus_ROTATION d + 4 * s.f F.cdStatus_MIRROR d) ++ leBytes 1 st ++
      leBytes 2 (s.coresIn (32 * d) 32) ++ leBytes 2 (s.pcsLeft (64 * d) 64))

/-- CLUSTER. -/
def State.clusterItem (s : State) (c : Nat) : PloroItem :=
  let spare := s.f F.clStatus_SPARE c
  let fmax := s.f F.clFmax_FMAX c
  .plain 2 (entryFlags true false (s.coresLost (8 * c) 8 || fmax < 4000)) c
    (leBytes 2 (s.f F.clStatus_PASSED c) ++ leBytes 2 (s.f F.clStatus_ACTIVE c) ++
      leBytes 1 (if spare == 15 then 0xFF else spare) ++ leBytes 1 (s.f F.clStatus_SPARE_STATE c) ++ leBytes 1 c ++
      leBytes 1 0 ++ leBytes 2 fmax)

/-- CORE. A logical number without a core shows 0x1FF for both numbers of its core. -/
def State.coreItem (s : State) (c : Nat) : PloroItem :=
  .plain 3 (entryFlags (s.corePresent c) (s.corePresent c && s.fenced c) false) c
    (leBytes 2 ((s.core c).phys.getD 0x1FF) ++ leBytes 2 (s.physIdx c) ++ leBytes 1 (s.holder c) ++ leBytes 1 (c % 8))

/-- The logical ways of a slice in a mode, of one partition or of all. -/
def State.wayMask (s : State) (slice mode : Nat) (part : Option Nat) : Nat :=
  (List.range 16).foldl (fun m w =>
    let k := 16 * slice + w
    if s.f F.sliceWay_MODE k == mode && (part.isNone || part == some (s.f F.sliceWay_OWNER k)) then m + 2 ^ w else m) 0

/-- SLICE. -/
def State.sliceItem (s : State) (part : Option Nat) (k : Nat) : PloroItem :=
  .plain 4 (entryFlags true false (s.retiredPc k)) k
    (leBytes 2 (s.wayMask k 1 part) ++ leBytes 2 (s.wayMask k 2 part) ++ leBytes 1 (if s.spareUsed k then 1 else 0))

/-- STACK. -/
def State.stackItem (s : State) (k : Nat) : PloroItem :=
  let gone := (List.range 32).foldl (fun m j => if s.retiredPc (32 * k + j) then m + 2 ^ j else m) 0
  .plain 5 (entryFlags true false (gone != 0)) k
    (leBytes 1 (k / 2) ++ leBytes 1 (s.f F.hbmCtlCfg_RATE 0) ++ leBytes 2 0 ++ leBytes 4 gone ++
      leBytes 2 (s.f F.stackStatus_FAILED_CH k))

/-- PORT of a fabric port. -/
def State.portItem (s : State) (p : Nat) : PloroItem :=
  let st := s.f F.portStatus_STATE p
  .plain 6 (entryFlags true false (st == 3 || st == 4)) p
    (leBytes 1 0 ++ leBytes 1 st ++ leBytes 2 (8 * s.f F.portStatus_WIDTH p) ++
      leBytes 2 (if s.b F.portStatus_PEER_VALID p then s.f F.portStatus_PEER p else 0xFFFF) ++
      leBytes 2 (s.f F.portDelay_DELAY p))

/-- PORT of a die-to-die port. -/
def State.d2dItem (s : State) (q : Nat) : PloroItem :=
  let st := s.d2dState q
  .plain 6 (entryFlags true false (st == 3 || st == 4)) (0x100 + q)
    (leBytes 1 (if q < 16 then 1 else 2) ++ leBytes 1 st ++ leBytes 2 (256 * s.f F.d2dStatus_WIDTH q) ++
      leBytes 2 0xFFFF)

/-- The number by which `Config.blockBase` knows a table. -/
def Table.num : Table → Nat
  | .part n => n
  | _ => 0

/-- REGBLOCK (16 R555). A view has PAGES 0. -/
def State.blockItem (s : State) (t : Table) (view : Bool) (b : Block) (inst : Nat) : PloroItem :=
  let pages := if view then 0 else match t with
    | .part _ => if b == .tunRing then 1 else s.pages b inst
    | _ => s.pages b inst
  let attr := flagAt 0 (!view && b != .pciMsix) + flagAt 1 b.aon + flagAt 2 view
  .plain 7 (entryFlags true false false) (b.code * 65536 + inst)
    (leBytes 2 b.code ++ leBytes 2 inst ++ leBytes 4 (Config.blockBase t.num b.code inst) ++ leBytes 2 pages ++
      leBytes 1 attr ++ leBytes 1 0 ++ leBytes 4 (if view then 512 else 4096 * pages))

/-- The base array's word of one position (16 R556). -/
def baseWord (inter place i : Nat) (x : Nat × Nat) : Nat :=
  x.2 / 2 ^ 21 % 2 ^ 10 + x.1 % 32 * 2 ^ 10 + flagAt 15 (x.1 != interBase inter place + i)

/-- REGION (16 R556). -/
def State.regionItem (s : State) (n : Nat) : PloroItem :=
  let valid := s.b F.llmRgnDesc_VALID n
  let inter := s.f F.llmRgnDesc_INTERLEAVE n
  let place := s.f F.llmRgnDesc_PLACE n
  let spots := if valid then ((SMap.find s.hbm.allot n).map Allot.spots).getD [] else []
  let ports := (List.range 24).map s.d2dState
  let dist (d : Nat) : Nat :=
    if s.ras.isolated.contains d then 0xFFFF else Config.distance d (spots.map Prod.fst) ports % 2 ^ 16
  let array := (spots.zipIdx.map (fun x => leBytes 2 (baseWord inter place x.2 x.1))).flatten
  { type := 8
    flags := entryFlags true false false
    index := n
    pre := leBytes 4 (s.rget .llmRgnDesc n).toNat ++ leBytes 1 (s.f F.rgnown_OWNER n) ++
      leBytes 1 (s.f F.rgnown_LEND n) ++ leBytes 2 (if valid then 2 ^ interBits inter else 0) ++
      ((List.range 8).map (fun d => leBytes 2 (dist d))).flatten ++ (if valid then [] else zeros 4)
    ext := if valid then some array else none
    post := leBytes 16 (if s.f F.llmRgnDesc_POLICY n == 2 then (SMap.get 0 s.sec.packageId n).toNat else 0) }

/-- PARTITION. -/
def State.partItem (s : State) (p : Nat) : PloroItem :=
  .plain 9 (entryFlags true false false) p
    (leBytes 1 (s.instanceOf p) ++ leBytes 1 (s.partState p) ++ leBytes 2 (s.coresOf p).length ++
      leBytes 2 (s.scratchWays p).length ++ leBytes 2 (s.f F.partSeq_BASE p) ++ leBytes 2 (s.f F.partSeq_COUNT p) ++
      leBytes 2 ((List.range 1024).filter (fun r => s.f F.rgnown_OWNER r == p)).length ++
      leBytes 2 (s.f F.bxfCtlPkey_SKEY p) ++ leBytes 1 (s.f F.bxfCtlPkey_ENABLE p) ++
      leBytes 1 (s.f F.partCfg_PWR_SHARE p))

/-- SPAN, with the distance of each member (16 R553). -/
def State.spanItem (s : State) (n : Nat) : PloroItem :=
  let base := s.f F.bxfCtlSpanwinA_BASE_NODE n
  let m := s.f F.bxfCtlSpanwinB_LOG2M n
  let dist (k : Nat) : Nat := if s.routeMask (base + k) == 0 then 0xFF else s.f F.bxfCtlRouteData_DIST (base + k)
  { type := 10
    flags := entryFlags true false false
    index := n
    pre := leBytes 2 (s.f F.bxfCtlSpanwinA_SNODE n) ++ leBytes 2 base ++ leBytes 1 m ++
      leBytes 1 (s.f F.bxfCtlSpanwinB_GSHIFT n) ++
      leBytes 2 (if s.b F.bxfCtlBmaster_VALID 0 then s.f F.bxfCtlBmaster_NODE 0 else 0xFFFF)
    ext := some (((List.range (2 ^ m)).map (fun k => leBytes 1 (dist k))).flatten)
    post := [] }

/-! ### The tables (16 R557, R558) -/

/-- The block instances in the physical function's window (16 R560). -/
def State.pfBlocks (s : State) : List (Block × Nat) :=
  (Block.all.filter (fun b => b != .bxfArrive && b != .pwrTen)).flatMap (fun b =>
    ((List.range (if b == .pciMsix then 1 else b.insts)).filter (fun k => b != .core || s.corePresent k)).map (fun k => (b, k)))

/-- The slices where a partition owns a way. -/
def State.slicesOf (s : State) (p : Nat) : List Nat :=
  (List.range 512).filter (fun k => (List.range 16).any (fun w => s.f F.sliceWay_OWNER (16 * k + w) == p))

/-- The block instances in a partition's window, with whether each is a view (16 R558, R559), in the order of
their type codes. -/
def State.partBlocks (s : State) (p : Nat) : List (Block × Nat × Bool) :=
  let fn := s.instanceOf p
  [(.tunPart, 0, false), (.tunCtx, 0, false), (.tunSeq, 0, false), (.tunRing, 0, false)] ++
    (s.coresOf p).map (fun c => (Block.core, c, true)) ++ (s.slicesOf p).map (fun k => (Block.llmSlice, k, true)) ++
    [(.bxfArrive, p, false), (.pciFn, fn, false), (.pciMsix, fn, false), (.secKey, 0, false), (.pwrTen, p, false)]

/-- The span windows in force. -/
def State.spans (s : State) : List Nat := (List.range 16).filter (fun n => s.b F.bxfCtlSpanwinB_VALID n)

/-- The entries of the physical function's table, by TYPE and INDEX. -/
def State.deviceItems (s : State) : List PloroItem :=
  (List.range 8).map s.dieItem ++ (List.range 32).map s.clusterItem ++ (List.range 256).map s.coreItem ++
    (List.range 512).map (s.sliceItem none) ++ (List.range 16).map s.stackItem ++ (List.range 8).map s.portItem ++
    (List.range 24).map s.d2dItem ++ s.pfBlocks.map (fun x => s.blockItem .device false x.1 x.2) ++
    (List.range 1024).map s.regionItem ++ (0 :: s.enabledParts).map s.partItem ++ s.spans.map s.spanItem

/-- The stacks that hold some of a partition's regions. -/
def State.stacksOf (s : State) (p : Nat) : List Nat :=
  (List.range 16).filter (fun k => s.hbm.allot.any (fun a =>
    s.f F.rgnown_OWNER a.1 == p && s.b F.llmRgnDesc_VALID a.1 && a.2.spots.any (fun x => x.1 / 32 == k)))

/-- The entries of a partition's table. -/
def State.partItems (s : State) (p : Nat) : List PloroItem :=
  let cores := s.coresOf p
  (((cores.map (· / 32)).eraseDups).map s.dieItem) ++ (((cores.map (· / 8)).eraseDups).map s.clusterItem) ++
    cores.map s.coreItem ++ (s.slicesOf p).map (s.sliceItem (some p)) ++ (s.stacksOf p).map s.stackItem ++
    (List.range 8).map s.portItem ++ (s.partBlocks p).map (fun x => s.blockItem (.part p) x.2.2 x.1 x.2.1) ++
    ((List.range 1024).filter (fun r => s.f F.rgnown_OWNER r == p || s.b F.rgnown_LEND r)).map s.regionItem ++
    [s.partItem p] ++ (if s.b F.bxfCtlPkey_ENABLE p then s.spans.map s.spanItem else [])

/-- The entries of a table. -/
def State.items (s : State) : Table → List PloroItem
  | .device => s.deviceItems
  | .part p => s.partItems p
  | .recovery => [s.blockItem .recovery false .secCtl 0]
  | .unbound => []

/-- Whether a table has been built (16 R549). -/
def State.tableBuilt (s : State) : Table → Bool
  | .device => s.ras.tables.contains 0
  | .part p => s.ras.tables.contains p
  | .recovery => s.boot.recovery
  | .unbound => s.ras.tables.contains 0

/-- KIND (16 R550). -/
def Table.kind : Table → Nat
  | .device => 0
  | .part _ => 1
  | .recovery => 2
  | .unbound => 1

/-- The header with a digest (16 R550). -/
def State.header (s : State) (t : Table) (count length : Nat) (digest : List Byte) : List Byte :=
  leBytes 8 0x4F524F4C50 ++ leBytes 2 1 ++ leBytes 2 t.kind ++ leBytes 4 count ++ leBytes 8 (s.gen t.num).toNat ++
    leBytes 4 length ++ leBytes 2 (s.nodeId.getD 0xFFFF) ++ leBytes 1 t.num ++ leBytes 1 0 ++ digest

/-- The bytes of a table up to LENGTH. -/
def State.tableBytes (s : State) (t : Table) : List Byte :=
  let xs := s.items t
  let body := layOut (64 * xs.length + 64) xs
  let rest := body.1 ++ body.2
  let h := s.header t xs.length (64 + rest.length)
  h (fillTo 32 (Config.shake256 32 (h (zeros 32) ++ rest))) ++ rest

/-- Four bytes of the first 2 MiB of a window: zero before the table is built and beyond its end (16 R549, R558). -/
def State.tableRead (s : State) (t : Table) (ofs : Nat) : W32 :=
  if s.tableBuilt t then BitVec.ofNat 32 (leNat (fillTo 4 ((s.tableBytes t).drop ofs))) else 0

end Sys2Proof.Machine
end

