-- ==== Sys2Proof/Machine/RegFile.lean ====
section
/-!
DEFINITION. Writes of registers (16 R536 to R547, R558 to R560): what a window holds, aliases, pairs, writes of
always-on registers, MSI-X tables, and the rows REGISTER_WRITE, MGMT_REGISTER_READ, MGMT_REGISTER_WRITE and
AON_WRITE_APPLY.
-/
namespace Sys2Proof.Machine

/-! ### A write at the base address -/

/-- The bits of a register whose fields an alias may change (16 R537). -/
def Reg.steered (r : Reg) : W32 :=
  r.info.fields.foldl (fun m x => if x.acc == .rw || x.acc == .rwd then withBits m x.lo x.n (2 ^ x.n - 1) else m) 0

/-- A pair set as one (16 R545); refused whole under its enable or when `ok` fails. -/
def State.writePair (s : State) (lo hi : Reg) (i : Nat) (vlo vhi : W32) (ok : Bool) : State :=
  let rwd := hi.info.fields.any (fun x => x.acc == .rwd)
  let held := s.held hi i
  let touch := lo.touches (s.rget lo i) vlo || hi.touches (s.rget hi i) vhi
  if rwd && ((held && touch) || (!held && !ok)) then s.ignored hi i
  else (s.rset lo i (lo.written held (s.rget lo i) vlo)).rset hi i (hi.written held (s.rget hi i) vhi)

/-- The alignment that 12 R444 asks of a ring's pairs. -/
def pairAligned (lo : Reg) (vlo : W32) : Bool :=
  match lo with
  | .ringBaseLo | .ringCplLo => vlo.toNat % 4096 == 0
  | .ringTailLo => vlo.toNat % 8 == 0
  | _ => true

/-- A write of a high half, with the low half held, or the current one (16 R545). The bits of a window base below
the window's size are stored as zero (12 R420), those of a barrier's release word only out of service (10 R373). -/
def State.writeHigh (s : State) (lo hi : Reg) (i : Nat) (v : W32) : State :=
  let vlo := (SMap.find s.lows (lo.key i)).getD (s.rget lo i)
  let s := { s with lows := SMap.drop s.lows (lo.key i) }
  match hi with
  | .fnWinBaseHi =>
    let a := (v ++ vlo).toNat / s.windowSize i * s.windowSize i
    s.setPair lo hi i (BitVec.ofNat 64 a)
  | .barRwordHi =>
    if s.b F.barCfg_ENABLE i then
      if s.rget lo i == vlo && s.rget hi i == v then s else s.setF F.bxfCtlFlags_WRITE_IGNORED 0 1
    else s.setPair lo hi i (v ++ vlo)
  | _ => s.writePair lo hi i vlo v (pairAligned lo vlo)

/-- A write of a low half is held (16 R545). -/
def State.writeLow (s : State) (lo : Reg) (i : Nat) (v : W32) : State :=
  { s with lows := SMap.put s.lows (lo.key i) (lo.written false (s.rget lo i) v) }

/-- SIG_GAP below 128 is refused (13 R482). -/
def State.writeSecCfg (s : State) (v : W32) : State :=
  if bitsOf v 0 16 < 128 then (s.code .secCfg 0 (withBits v 0 16 (s.f F.secCfg_SIG_GAP 0))).ignored .secCfg 0
  else s.code .secCfg 0 v

/-- A write that changes a word to what the register does not accept is refused. -/
def State.writeJudged (s : State) (r : Reg) (i : Nat) (v : W32) (ok : Bool) : State :=
  if !s.held r i && !ok then s.ignored r i else s.code r i v

/-- HOT < THROTTLE < TRIP ≤ 105 (09 R326). -/
def tempsOk (v : W32) : Bool :=
  bitsOf v 0 8 < bitsOf v 8 8 && bitsOf v 8 8 < bitsOf v 16 8 && bitsOf v 16 8 ≤ 105

/-- The MSI-X counts of all functions, 0 of a virtual function counting as 1 (12 R435, R444). -/
def State.msixSum (s : State) : Nat :=
  s.f F.pciCtlMsixPf_COUNT 0 + (List.range 64).foldl (fun n k => if k == 0 then n else n + max 1 (s.f F.pciCtlMsixVf_COUNT k)) 0

/-- A write of an MSI-X count. -/
def State.writeCount (s : State) (r : Reg) (i : Nat) (v : W32) : State :=
  let t := s.code r i v
  let own := bitsOf v 0 12
  if !s.held r i && (2048 < t.msixSum || 2048 < own || (r == .pciCtlMsixPf && own == 0)) then s.ignored r i else t

/-- A write of BXF_CTL_BMASTER: rank 0 shows in the tables' SPAN entries (16 R553). -/
def State.writeMaster (s : State) (i : Nat) (v : W32) : State :=
  let t := s.code .bxfCtlBmaster i v
  if i == 0 && t.rget .bxfCtlBmaster 0 != s.rget .bxfCtlBmaster 0 && !s.spans.isEmpty then t.ploro t.ras.tables else t

/-- A write of v at the base address of a register, with the effect its own rule gives. -/
def State.writeBase (s : State) (r : Reg) (i : Nat) (v : W32) : State :=
  match r with
  | .partCfg => s.writePartCfg i v
  | .partCmd => if i == 0 then s else s.writePartCmd i v
  | .partCores => if i < 8 then s else s.code r i v
  | .partSeq | .partSave | .partCtxmask => if i == 0 then s else s.code r i v
  | .tunCtx => s.writeCtx i v
  | .ringCtrl => s.writeRing i v
  | .llmRgnDesc => s.writeDesc i v
  | .rgnown => s.writeOwner i v
  | .sliceWay => s.writeWay i v
  | .llmCtlRangeOp => s.writeRangeOp v
  | .hbmCtlRetire => s.writeRetire v
  | .stackTempCfg => s.writeJudged r i v (tempsOk v)
  | .portCtrl => State.showPorts s (s.writePortCtrl i v)
  | .portVc0Wait => if bitsOf v 31 1 == 1 then s.setF F.portVc0Wait_MAX i 0 else s
  | .bxfCtlBmaster => s.writeMaster i v
  | .bxfCtlRouteData => s.writeRoute v
  | .bxfCtlPkey => s.writeKey i v
  | .bxfCtlSpanwinA => s.writeSpan i false v
  | .bxfCtlSpanwinB => s.writeSpan i true v
  | .barCfg => s.writeBarCfg i v
  | .barOwner => s.writeBarHeld r i i v
  | .barChild => s.writeBarHeld r (i / 4) i v
  | .barArrive => if s.b F.barCfg_ENABLE i then s.barArrived i else s
  | .xlatInv => s.writeXlatInv v
  | .beatCtrl => s.tick.code r i v
  | .beatCfg => s.writeJudged r i v (lenLegal (bitsOf v 0 17) || bitsOf v 0 17 == s.f F.beatCfg_LEN 0)
  | .pciCtlMsixPf | .pciCtlMsixVf => s.writeCount r i v
  | .secCommit => s.writeCommit v
  | .secRecCtrl => s.writeRecCtrl v
  | .secRecData => s.writeRecData v
  | .secCfg => s.writeSecCfg v
  | .keyCmd => s.writeKeyCmd i v
  | .clkDom => s.writeDom i v
  | .clkGate => s.writeGate i v
  | .pwrTj => s.writeJudged r i v (80 ≤ bitsOf v 0 8 && bitsOf v 0 8 ≤ 104)
  | .pwrCtrl => if bitsOf v 0 1 == 0 then (s.code r i v).floorFreqs else s.code r i v
  | .rasFence => s.writeFence v
  | .rasCellar => s.writeCellar v
  | .rasIftCmd => s.writeIft v
  | .rasDirSel => s.writeDirSel v
  | .d2dCtrl => (s.writeD2d i v).judgeDies
  | _ =>
    match r.upper, r.lower with
    | some _, _ => s.writeLow r i v
    | none, some lo => s.writeHigh lo r i v
    | none, none => s.code r i v

/-! ### Aliases (16 R536, R537) -/

/-- What an alias makes of the steered bits of a word. -/
def viaBits (via : Alias) (m x v : W32) : W32 :=
  match via with
  | .base => v
  | .set => (x ||| v) &&& m
  | .clear => (x &&& ~~~v) &&& m
  | .toggle => (x ^^^ v) &&& m

/-- Whether a low word is held that a write of this high half takes with it. -/
def State.lowHeld (s : State) (r : Reg) (i : Nat) : Bool :=
  match r.lower with
  | some lo => (SMap.find s.lows (lo.key i)).isSome
  | none => false

/-- A write through any of the four places of a register. An alias that leaves the steered bits as they are does
nothing; on TUN_CTX it writes ENABLE only when v names that bit. -/
def State.writeVia (s : State) (r : Reg) (i : Nat) (via : Alias) (v : W32) : State :=
  if via == .base then s.writeBase r i v
  else
    let m := r.steered
    let x := (s.read r i).1
    let y := viaBits via m x v
    if r == .tunCtx then (if v.getLsbD 0 then s.writeBase r i y else s.code r i y)
    else if y == x &&& m && !s.lowHeld r i then s
    else s.writeBase r i y

/-! ### Always-on registers (16 R547) -/

/-- A write in the form (old AND mask) XOR value: what a base or alias write makes of the register. -/
def aonEffect (r : Reg) (via : Alias) (v : W32) : W32 × W32 :=
  let m := r.steered
  let w1c := r.info.fields.foldl (fun k (x : RField) => if x.acc == .w1c then withBits k x.lo x.n (2 ^ x.n - 1) else k) (0 : W32)
  match via with
  | .base => (v &&& m, ~~~m &&& ~~~(v &&& w1c))
  | .set => (v &&& m, ~~~(v &&& m))
  | .clear => (0, ~~~(v &&& m))
  | .toggle => (v &&& m, BitVec.allOnes 32)

/-- A posted write latched; a later one to the same register replaces it. -/
def State.latchAon (s : State) (r : Reg) (i : Nat) (via : Alias) (v : W32) : State :=
  let e := aonEffect r via v
  let k := r.key i
  { s with aon := s.aon.filter (fun x => x.key != k) ++ [⟨k, e.1, e.2⟩] }

/-- The register of a key. -/
def aonRegOf (k : Nat) : Option (Reg × Nat) := aonWords.find? (fun p => p.1.key p.2 == k)

/-- One latched write applied. -/
def State.applyAon (s : State) (w : AonWrite) : State :=
  match aonRegOf w.key with
  | some p => s.rset p.1 p.2 ((s.rget p.1 p.2 &&& w.mask) ^^^ w.value)
  | none => s

/-- An AON edge: latched writes applied in order, copies refreshed, PEND cleared (16 R547). -/
def State.aonEdge (s : State) : State :=
  { (s.aon.foldl State.applyAon s).refreshAon with aon := [] }

/-- AON_WRITE_APPLY (16 R547): no edge comes while the oscillator has failed (14 R496). -/
def execAonWriteApply (s : State) : Host.Outcome State Fault Refusal :=
  reply true (s.boot.aux && !s.clk.failed.contains .iosc) s s.aonEdge

/-! ### MSI-X tables (12 R435, 16 R560) -/

/-- A write of an MSI-X table: the pending-bit array behind the entries is read-only. An entry unmasked while its
pending bit is set sends its message. -/
def State.writeMsix (s : State) (fn off : Nat) (v : W32) : State :=
  let e := off / 16
  if s.msixCount fn ≤ e then s
  else
    let k := fn * 2048 + e
    let x := SMap.get MsixEntry.reset s.host.msix k
    let y : MsixEntry := match off % 16 / 4 with
      | 0 => { x with addr := hiWord x.addr ++ v }
      | 1 => { x with addr := v ++ loWord x.addr }
      | 2 => { x with data := v }
      | _ => { x with masked := v.getLsbD 0 }
    let t := { s with host := { s.host with msix := SMap.set MsixEntry.reset s.host.msix k y } }
    let f := t.fn fn
    if x.masked && !y.masked && f.pendingBits.contains e then
      (t.setFn fn { f with pendingBits := f.pendingBits.filter (· != e) }).msix fn e
    else t

/-- A word of an MSI-X table or of its pending-bit array. -/
def State.readMsix (s : State) (fn off : Nat) : W32 :=
  let n := s.msixCount fn
  if off / 16 < n then
    let x := SMap.get MsixEntry.reset s.host.msix (fn * 2048 + off / 16)
    match off % 16 / 4 with
    | 0 => loWord x.addr
    | 1 => hiWord x.addr
    | 2 => x.data
    | _ => if x.masked then 1 else 0
  else
    let lo := (off - 16 * n) * 8
    BitVec.ofNat 32 ((s.fn fn).pendingBits.foldl (fun m b => if lo ≤ b && b < lo + 32 then m + 2 ^ (b - lo) else m) 0)

/-! ### What a window holds (16 R558 to R560) -/

/-- Whose window: the physical function's, a partition's, the pages an unbound virtual function has of its own,
nothing. -/
inductive Window where
  | device
  | part (p : Nat)
  | own (fn : Nat)
  | nothing
  deriving DecidableEq, Repr

/-- The window of a partition's agents; partition 0 is the firmware of the physical function (12 R436). -/
def windowOfPart (p : Nat) : Window := if p == 0 then .device else .part p

/-- The window of a requester. -/
def State.windowOf (s : State) : Requester → Window
  | .fn n =>
    if n == 0 then .device
    else if !s.host.vfEnable then .nothing
    else match s.boundPart n with
      | some p => .part p
      | none => .own n
  | .mgmt _ => .device
  | .firmware => .device
  | .group core slot =>
    match s.group? (.group core slot) with
    | some g => windowOfPart g.part
    | none => .nothing

/-- Where an access leads: a register, one that the window only reads, an MSI-X table, an arrival register, a
view, an offset of another partition, an offset without a register, a place the window does not hold. -/
inductive Reach where
  | reg (r : Reg) (i : Nat)
  | fixed (r : Reg) (i : Nat)
  | msix (fn off : Nat)
  | arrive (part b : Nat)
  | coreView (part core off : Nat)
  | sliceView (part slice off : Nat)
  | reserved
  | absent
  | outside
  deriving DecidableEq, Repr

/-- A register of a page, or an offset that holds none. -/
def State.atPage (s : State) (b : Block) (inst off : Nat) (f : Reg → Nat → Reach) : Reach :=
  match s.regAt b inst off with
  | some x => f x.1 x.2
  | none => .absent

/-- The physical function's window. In RECOVERY it holds SEC_CTL alone (13 R454). -/
def State.deviceReach (s : State) (b : Block) (inst off : Nat) : Reach :=
  if b.insts ≤ inst || s.pages b inst * 4096 ≤ off || b == .bxfArrive || b == .pwrTen ||
      (b == .core && !s.corePresent inst) || (b == .pciMsix && inst != 0) || (s.boot.recovery && b != .secCtl) then .outside
  else if b == .pciMsix then .msix 0 off
  else s.atPage b inst off .reg

/-- A partition's window. -/
def State.partReach (s : State) (p : Nat) (b : Block) (inst off : Nat) : Reach :=
  let mine (lo n : Nat) : Bool := inst == 0 && lo ≤ off && off < lo + n
  match b with
  | .tunPart => if mine (64 * p) 64 then s.atPage b 0 off .fixed else if mine 0 4096 then .reserved else .outside
  | .tunCtx => if mine (64 * p) 64 then s.atPage b 0 off .reg else if mine 0 4096 then .reserved else .outside
  | .tunSeq =>
    if mine (16 * s.f F.partSeq_BASE p) (16 * s.f F.partSeq_COUNT p) then s.atPage b 0 off .reg
    else if mine 0 4096 then .reserved else .outside
  | .tunRing =>
    if mine 0 1024 then s.atPage b 0 (1024 * p + off) .reg else if mine 0 4096 then .reserved else .outside
  | .secKey => if mine (64 * p) 64 then s.atPage b 0 off .reg else if mine 0 4096 then .reserved else .outside
  | .pwrTen => if inst == p && off < 4096 then s.atPage b p off .fixed else .outside
  | .bxfArrive => if inst == p && off < 4096 then (if off < 256 then .arrive p (off / 4) else .reserved) else .outside
  | .pciFn => if inst == s.instanceOf p && off < 4096 then s.atPage b inst off .reg else .outside
  | .pciMsix => if inst == s.instanceOf p && off < s.pages b inst * 4096 then .msix inst off else .outside
  | .core => if (s.coresOf p).contains inst && off < 512 then .coreView p inst off else .outside
  | .llmSlice => if (s.slicesOf p).contains inst && off < 512 then .sliceView p inst off else .outside
  | _ => .outside

/-- Where an access of a window leads. -/
def State.reach (s : State) (w : Window) (b : Block) (inst off : Nat) : Reach :=
  match w with
  | .device => s.deviceReach b inst off
  | .part p => s.partReach p b inst off
  | .own n =>
    match b with
    | .pciFn => if inst == n && off < 4096 then s.atPage b inst off .reg else .outside
    | .pciMsix => if inst == n && off < s.pages b inst * 4096 then .msix n off else .outside
    | _ => .outside
  | .nothing => .outside

/-- The gating unit that a block belongs to (14 R491). -/
def State.gateOf (s : State) (b : Block) (inst : Nat) : Option (Nat × Nat) :=
  match b with
  | .core => some (0, s.physIdx inst / 9)
  | .hbmStack => some (2, inst)
  | _ => none

/-- The bus error of an access: what 14 R492 records with it, the register in [9:8], the bit in [4:0]. -/
def State.gatedInfo (s : State) (w : Window) (b : Block) (inst off : Nat) : Option Nat :=
  match s.gateOf b inst with
  | some (g, k) => if s.reach w b inst off != .outside && s.unitOff g k then some (g * 256 + k) else none
  | none => none

/-- A write at a place of a window. -/
def State.writeAt (s : State) (x : Reach) (via : Alias) (v : W32) : State :=
  match x with
  | .reg r i => if r.info.blk.aon then s.latchAon r i via v else s.writeVia r i via v
  | .msix fn off => if via == .base then s.writeMsix fn off v else s
  | .arrive p b => if via == .base then s.partArrive p b else s
  | _ => s

/-- A read at a place of a window. -/
def State.readAt (s : State) : Reach → W32 × State
  | .reg r i => s.read r i
  | .fixed r i => s.read r i
  | .msix fn off => (s.readMsix fn off, s)
  | .coreView p c off => s.coreView p c off
  | .sliceView p n off => s.sliceView p n off
  | _ => (0, s)

/-! ### Offsets of Base Address Region 0 (16 R536, R555; 07 R243 CLASS 2) -/

/-- The number by which a window's table is known to `Config.blockBase`. -/
def Window.num : Window → Nat
  | .part p => p
  | _ => 0

/-- The block instances of a window, with whether each is a view. -/
def State.windowBlocks (s : State) : Window → List (Block × Nat × Bool)
  | .device => s.pfBlocks.map (fun x => (x.1, x.2, false))
  | .part p => s.partBlocks p
  | _ => []

/-- The window pages of a block instance. -/
def State.windowPages (s : State) (w : Window) (b : Block) (inst : Nat) : Nat :=
  match w with
  | .device => s.pages b inst
  | _ => if b == .pciMsix then s.pages b inst else 1

/-- The alias of a page offset (16 R536). -/
def aliasAt (n : Nat) : Alias :=
  match n with
  | 0 => .base
  | 1 => .set
  | 2 => .clear
  | _ => .toggle

/-- The block, instance, block offset and alias at an offset beyond the table. -/
def State.locate (s : State) (w : Window) (ofs : Nat) : Option (Block × Nat × Nat × Alias) :=
  (s.windowBlocks w).findSome? (fun x =>
    let base := Config.blockBase w.num x.1.code x.2.1
    if ofs < base then none
    else
      let o := ofs - base
      if x.2.2 then (if o < 512 then some (x.1, x.2.1, o, .base) else none)
      else if x.1 == .pciMsix then
        (if o < 4096 * s.windowPages w x.1 x.2.1 then some (x.1, x.2.1, o, .base) else none)
      else if o < 16384 * s.windowPages w x.1 x.2.1 then
        some (x.1, x.2.1, o / 16384 * 4096 + o % 4096, aliasAt (o / 4096 % 4))
      else none)

/-- The table of a window. -/
def State.tableOf (s : State) : Window → Table
  | .device => if s.boot.recovery then .recovery else .device
  | .part p => .part p
  | _ => .unbound

/-- Whether a place is one that class 2 accesses of a window may reach: for a partition, a register that its window
holds (12 R437); the physical function's layout is accepted whole (07 R243). -/
def Reach.open (w : Window) (x : Reach) : Bool :=
  match w with
  | .device => true
  | _ => x != .outside && x != .absent

/-- The place at an offset beyond the table: the error is fault 0x0213 or 0x0701 with its INFO. -/
def State.classPlace (s : State) (w : Window) (ofs : Nat) : Except (Nat × Nat) (Reach × Alias) :=
  if (if w == .device then 2 ^ 26 else 2 ^ 22) ≤ ofs then .error (0x0213, ofs % 2 ^ 32)
  else
    match s.locate w ofs with
    | none => if Reach.open w .outside then .ok (.outside, .base) else .error (0x0213, ofs % 2 ^ 32)
    | some (b, inst, off, via) =>
      match s.gatedInfo w b inst off with
      | some i => .error (0x0701, i)
      | none =>
        if Reach.open w (s.reach w b inst off) then .ok (s.reach w b inst off, via)
        else .error (0x0213, ofs % 2 ^ 32)

/-- A class 2 load of an aligned word at an offset of a window: the error is a fault code with its INFO. -/
def State.classRead (s : State) (w : Window) (ofs : Nat) : Except (Nat × Nat) (W32 × State) :=
  if ofs < 2 ^ 21 then .ok (s.tableRead (s.tableOf w) ofs, s)
  else
    match s.classPlace w ofs with
    | .error e => .error e
    | .ok x => .ok (s.readAt x.1)

/-- A class 2 store of an aligned word. -/
def State.classWrite (s : State) (w : Window) (ofs : Nat) (v : W32) : Except (Nat × Nat) State :=
  if ofs < 2 ^ 21 then .error (0x0213, ofs % 2 ^ 32)
  else
    match s.classPlace w ofs with
    | .error e => .error e
    | .ok x => .ok (State.service s (s.writeAt x.1 x.2 v))

/-! ### REGISTER_WRITE (16 R536 to R547) -/

/-- The offset of an address within Base Address Region 0. -/
def regBar0 (w : Window) (a : RegAddr) : Nat :=
  let k := match a.via with
    | .base => 0
    | .set => 1
    | .clear => 2
    | .toggle => 3
  Config.blockBase w.num a.block.code a.inst +
    (if a.block == .pciMsix then a.off else 16384 * (a.off / 4096) + 4096 * k + a.off % 4096)

/-- The bus error of a requester (14 R492). -/
def State.busError (s : State) (who : Requester) (a : RegAddr) (info : Nat) : State :=
  match who with
  | .fn n => s.noteFnErr n 0x0701 (regBar0 (s.windowOf who) a) true
  | .group core slot => s.raise (.group core slot) 0x0701 0xFF (BitVec.ofNat 32 info)
  | _ => s

/-- A place that the requester's window does not hold: a group's store faults (07 R243), any other is dropped. -/
def State.noPlace (s : State) (who : Requester) (a : RegAddr) : State :=
  match who with
  | .group core slot => s.raise (.group core slot) 0x0213 0xFF (BitVec.ofNat 32 (regBar0 (s.windowOf who) a))
  | _ => s

/-- The effect of a register write. -/
def State.registerWrite (s : State) (who : Requester) (a : RegAddr) (v : W32) : State :=
  let w := s.windowOf who
  let x := s.reach w a.block a.inst a.off
  match s.gatedInfo w a.block a.inst a.off with
  | some i => s.busError who a i
  | none => if x == .outside || x == .absent then s.noPlace who a else s.writeAt x a.via v

/-- Whether a requester can send a write now. -/
def State.canWrite (s : State) : Requester → Bool
  | .fn n => s.hostUp && !s.ideBlocks && (n == 0 || s.host.vfEnable)
  | .group core slot => (s.group? (.group core slot)).isSome
  | _ => true

/-- REGISTER_WRITE (16 R536). -/
def execRegisterWrite (who : Requester) (a : RegAddr) (v : W32) (s : State) : Host.Outcome State Fault Refusal :=
  reply ((Instr.registerWrite who a v).wf) (s.canWrite who) s
    (State.service s (s.registerWrite who a v))

/-! ### Management requests over the fabric (10 R349) -/

/-- The class 2 offset that a management request names; none for an address that is not of class 2. -/
def msgPlace (m : Msg) : Option Nat :=
  let a := leNat (m.head.take 8)
  if a / 2 ^ 60 == 2 && a % 4 == 0 then some (a % 2 ^ 44) else none

/-- The answer to a management request that faults. -/
def State.refuseMgmt (s : State) (m : Msg) (code : Nat) : Option State := s.answer 0 m (failed 0 0x08 code)

/-- A management read. -/
def State.mgmtRead (s : State) (m : Msg) : Option State :=
  if !s.mgmtOk m then s.refuseIn m 0 0x08
  else
    match msgPlace m with
    | none => s.refuseMgmt m 0x0213
    | some ofs =>
      match s.classRead .device ofs with
      | .error e => s.refuseMgmt m e.1
      | .ok (v, t) => t.answer 0 m { Msg.empty with vc := 0, type := 0x08, head := leBytes 4 v.toNat }

/-- A management write. -/
def State.mgmtWrite (s : State) (m : Msg) : Option State :=
  if !s.mgmtOk m then s.refuseIn m 0 0x08
  else
    match msgPlace m with
    | none => s.refuseMgmt m 0x0213
    | some ofs =>
      match s.classWrite .device ofs (BitVec.ofNat 32 (fieldAt m.head 8 4)) with
      | .error e => s.refuseMgmt m e.1
      | .ok t => t.answer 0 m { Msg.empty with vc := 0, type := 0x08 }

/-- MGMT_REGISTER_READ (10 R349). -/
def execMgmtRegisterRead (port : Nat) (m : Msg) (s : State) : Host.Outcome State Fault Refusal :=
  fromPort (.mgmtRegisterRead port m) s port m 0x07 (fun s => s.mgmtRead m)

/-- MGMT_REGISTER_WRITE (10 R349). -/
def execMgmtRegisterWrite (port : Nat) (m : Msg) (s : State) : Host.Outcome State Fault Refusal :=
  fromPort (.mgmtRegisterWrite port m) s port m 0x07 (fun s => s.mgmtWrite m)

end Sys2Proof.Machine
end

