-- ==== Sys2Proof/Machine/Memory.lean ====
section
/-!
DEFINITION. Loads and stores of a group or command processor (05 R177 to R181; 07 R243, R255; 10 R351): the
places of all lanes are checked before any access is made; words of this device are read and written at
once, those of other nodes by messages, registers by class 2 accesses.
-/
namespace Sys2Proof.Machine

/-! ### Addresses and values -/

/-- Bytes of an access. -/
def MForm.bytes (m : MForm) : Nat := 2 ^ m.sz

/-- The lanes with their addresses: each participating thread's, or the group's own as lane 0xFF (05 R177). -/
def memLanes (g : Group) (m : MForm) : List (Nat × W64) :=
  if m.sc then [(0xFF, g.s m.va + m.ofs)]
  else (lanesOf (g.parts m.g)).map (fun k => (k, g.v64 m.va k + m.ofs))

/-- The bytes that a lane stores. -/
def storeBytes (g : Group) (m : MForm) (lane : Nat) : List Byte :=
  if m.sc then leBytes m.bytes ((g.s m.vd).toNat % 2 ^ (8 * m.bytes))
  else if m.sz == 4 then leBytes 8 (g.v64 m.vd lane).toNat ++ leBytes 8 (g.v64 (m.vd + 2) lane).toNat
  else if m.sz == 3 then leBytes 8 (g.v64 m.vd lane).toNat
  else leBytes m.bytes ((g.v m.vd lane).toNat % 2 ^ (8 * m.bytes))

/-- A loaded value bound. -/
def bindLoad (g : Group) (m : MForm) (lane : Nat) (d : List Byte) : Group :=
  if m.sc then g.setS m.vd (loadValue m.sx d) else g.setLoaded m.vd lane m.bytes m.sx d

/-! ### Registers (07 R243 CLASS 2) -/

/-- Whether a class 2 place lies on another node: management traffic of a command processor. -/
def State.mgmtPlace (s : State) : MemAt → Bool
  | .regs n _ => !s.ownNode n
  | _ => false

/-- The checks of a class 2 access: 4 bytes; another node only for a command processor, and only with a node
identifier (07 R242, R243). -/
def State.regsOk (s : State) (i : Issuer) (size n : Nat) : Option Nat :=
  if size != 4 then some 0x0213
  else if s.ownNode n then none
  else if s.nodeId.isNone then some 0x0212
  else if i.isCp then none
  else some 0x0213

/-- A management request (10 R349, R351). -/
def mgmtMsg (param ofs : Nat) (node : Nat) (d : List Byte) : Msg :=
  { Msg.empty with vc := 0, type := 0x07, param := BitVec.ofNat 32 param, head := headAddr 2 node ofs ++ d }

/-- A class 2 access to another node: it completes when MGMTRSP arrives; an unreachable node answers as a request
that failed (10 R351, R354). -/
def State.sendMgmt (s : State) (i : Issuer) (g : Group) (m : MForm) (isStore : Bool) (node ofs : Nat)
    (d : List Byte) : State :=
  let a : Access :=
    { who := i, gtag := g.gtag, part := g.part, ctx := g.ctx, pc := g.pc, isStore := isStore, fp := false,
      lanes := [0xFF], scalar := true, vd := m.vd, regs := [], size := 4, signed := false,
      fn := if isStore then 17 else 16, places := [(0, ofs)], got := [none] }
  let (id, s) := s.openAccess a
  match s.request (.mgmt id) 0 g.ctx node (mgmtMsg (if isStore then 1 else 0) ofs node d) 0 with
  | some t => t
  | none => s.failMgmt id

/-! ### Loads -/

/-- What one lane loads from this device; none for a word of another node. -/
def State.loadOne (s : State) (i : Issuer) (g : Group) (m : MForm) (x : MemAt) :
    Except (Nat × Option Nat) (Option (List Byte) × State) :=
  match x with
  | .loc a => .ok (some (s.localRead i.core g.part a m.bytes), s)
  | .line l byte =>
    match s.giuLine i.core g.part l with
    | .error c => .error (c, none)
    | .ok (d, t) => .ok (some ((d.drop byte).take m.bytes), t)
  | .regs n ofs =>
    match s.regsOk i m.bytes n with
    | some c => .error (c, none)
    | none =>
      if !s.ownNode n then .ok (none, s)
      else
        match s.classRead (windowOfPart g.part) ofs with
        | .error e => .error (e.1, some e.2)
        | .ok (v, t) => .ok (some (leBytes 4 v.toNat), t)
  | .away _ _ _ => .ok (none, s)

/-- The lanes in ascending order; `addr` gives the address that a fault reports. -/
def State.loadLanes (s : State) (i : Issuer) (g0 : Group) (m : MForm) (addr : Nat → W64) :
    List (Nat × MemAt) → Group → Except (Nat × Nat × W64) (Group × State)
  | [], g => .ok (g, s)
  | p :: ps, g =>
    match s.loadOne i g0 m p.2 with
    | .error (c, info) => .error (c, p.1, (info.map (BitVec.ofNat 64)).getD (addr p.1))
    | .ok (some d, t) => t.loadLanes i g0 m addr ps (bindLoad g m p.1 d)
    | .ok (none, t) => t.loadLanes i g0 m addr ps g

/-- The address of a lane in a list of lanes. -/
def addrOf (xs : List (Nat × W64)) (lane : Nat) : W64 := ((xs.find? (fun x => x.1 == lane)).map Prod.snd).getD 0

/-- The lanes whose words lie in memory of other nodes, and the CLASS by line. -/
def awayLanes (ps : List (Nat × MemAt)) : List (Nat × MemAt) :=
  ps.filter (fun p => match p.2 with
    | .away _ _ _ => true
    | _ => false)

/-- The CLASS of each remote line. -/
def lineClasses (ps : List (Nat × MemAt)) : SMap Nat :=
  ps.foldl (fun m p => match p.2 with
    | .away cls n o => SMap.put m (rLine n o) cls
    | _ => m) []

/-- The vector registers that an access of a lane covers. -/
def MForm.regList (m : MForm) : List Nat :=
  if m.sc then [] else (List.range (if m.sz == 4 then 4 else if m.sz == 3 then 2 else 1)).map (· + m.vd)

/-- The access of the lanes on other nodes. -/
def MForm.access (m : MForm) (i : Issuer) (g : Group) (fn : Nat) (ps : List (Nat × MemAt)) : Access :=
  { who := i, gtag := g.gtag, part := g.part, ctx := g.ctx, pc := g.pc, isStore := fn == 17, fp := false,
    lanes := ps.map Prod.fst, scalar := m.sc, vd := m.vd, regs := if fn == 17 then [] else m.regList,
    size := m.bytes, signed := m.sx, fn := fn, places := ps.map (fun p => p.2.spot), got := ps.map (fun _ => none) }

/-- The draff hint: the lines that this device's lanes have read are dropped (05 R179, 08 R282). -/
def State.hintDraff (s : State) (ps : List (Nat × MemAt)) : State :=
  ((ps.filterMap (fun p => match p.2 with
    | .line l _ => some l
    | _ => none)).eraseDups).foldl State.draffLine s

/-- What goes out for a load: words of other nodes, registers of other nodes. -/
def State.loadAway (s : State) (i : Issuer) (g : Group) (m : MForm) (ps : List (Nat × MemAt)) : State :=
  let away := awayLanes ps
  let s := if away.isEmpty then s
    else s.remoteLoad (m.access i g (if m.dr then 20 else 16) away) (lineClasses away) i.core
  ps.foldl (fun (s : State) (p : Nat × MemAt) =>
    match p.2 with
    | .regs n ofs => if s.ownNode n then s else s.sendMgmt i g m false n ofs []
    | _ => s) s

/-- LD (05 R177 to R179). -/
def State.doLd (s : State) (i : Issuer) (w : W64) : State :=
  s.issue i w (fun g =>
    let m := mForm w
    let xs := memLanes g m
    match s.memAll i g m.sp m.bytes .load xs with
    | .error e => s.laneFault i g m.sp e
    | .ok (ps, t) =>
      if t.behindFar g ps then s.stall i g
      else
      match t.loadLanes i g m (addrOf xs) ps g with
      | .error e => s.laneFault i g m.sp e
      | .ok (g', t) =>
        let t := t.retire i g'
        let t := if m.dr then t.hintDraff ps else t
        t.loadAway i g m ps)

/-- LD (05 R177). -/
def execLd (i : Issuer) (w : W64) (s : State) : Host.Outcome State Fault Refusal :=
  command (.ld i w) (s.canIssue i) s (s.doLd i w)

/-! ### Stores -/

/-- One lane's bytes stored on this device; those of other nodes stay open. -/
def State.storeOne (s : State) (i : Issuer) (g : Group) (m : MForm) (x : MemAt) (d : List Byte) :
    Except (Nat × Option Nat) State :=
  match x with
  | .loc a => .ok (s.localWrite i.core g.part a d)
  | .line l byte =>
    if i.core < 256 && s.cacheable l then
      match s.l1Own i.core g.part l with
      | .error c => .error (c, none)
      | .ok t => .ok (t.l1Write l byte d)
    else
      match s.naWrite l byte d with
      | .error c => .error (c, none)
      | .ok t => .ok t
  | .regs n ofs =>
    match s.regsOk i m.bytes n with
    | some c => .error (c, none)
    | none =>
      if !s.ownNode n then .ok s
      else
        match s.classWrite (windowOfPart g.part) ofs (BitVec.ofNat 32 (leNat d)) with
        | .error e => .error (e.1, some e.2)
        | .ok t => .ok t
  | .away _ _ _ => .ok s

/-- The lanes in ascending order, so that the highest lane's byte remains (05 R181). -/
def State.storeLanes (s : State) (i : Issuer) (g : Group) (m : MForm) (addr : Nat → W64) :
    List (Nat × MemAt) → Except (Nat × Nat × W64) State
  | [] => .ok s
  | p :: ps =>
    match s.storeOne i g m p.2 (storeBytes g m p.1) with
    | .error (c, info) => .error (c, p.1, (info.map (BitVec.ofNat 64)).getD (addr p.1))
    | .ok t => t.storeLanes i g m addr ps

/-- The mask and data that the lanes leave on one remote line, in ascending lane order. -/
def lineStore (g : Group) (m : MForm) (line : Nat) (ps : List (Nat × MemAt)) : Nat × List Byte :=
  ps.foldl (fun (x : Nat × List Byte) p =>
    if p.2.spot.1 == line then
      let d := storeBytes g m p.1
      let at' := p.2.spot.2
      (x.1 ||| ((2 ^ d.length - 1) * 2 ^ at'), patch x.2 at' d)
    else x) (0, zeros 128)

/-- One WR for each remote line that the instruction touches (10 R351). -/
def State.storeAway (s : State) (i : Issuer) (g : Group) (m : MForm) (ps : List (Nat × MemAt)) : State :=
  let away := awayLanes ps
  if away.isEmpty then s
  else
    let a := m.access i g 17 away
    let cls := lineClasses away
    let (id, s) := s.openAccess a
    (linesIn a.places).foldl (fun (s : State) line =>
      match lineKind line with
      | .remote node ofs =>
        let x := lineStore g m line away
        let msg := { Msg.empty with
          vc := 2, type := 0x21
          head := headAddr (SMap.get 0 cls line) node ofs ++ leBytes 16 x.1 ++ zeros 8 ++ x.2 }
        match (s.dropRemote line).request (.store id line) a.part a.ctx node msg line with
        | some t => t
        | none => s.faultAccess id 0x0604 (BitVec.ofNat 32 (node % 65536 + 0x21 * 2 ^ 16))
      | _ => s) s

/-- Class 2 stores of a command processor to other nodes. -/
def State.mgmtStores (s : State) (i : Issuer) (g : Group) (m : MForm) (ps : List (Nat × MemAt)) : State :=
  ps.foldl (fun (s : State) (p : Nat × MemAt) =>
    match p.2 with
    | .regs n ofs => if s.ownNode n then s else s.sendMgmt i g m true n ofs (storeBytes g m p.1)
    | _ => s) s

/-- ST (05 R177 to R181): it retires work when at least one thread takes part (04 R143, 05 R161). A class 2 store may end the context of its own group. -/
def State.doSt (s : State) (i : Issuer) (w : W64) : State :=
  s.issue i w (fun g =>
    let m := mForm w
    let xs := memLanes g m
    match s.memAll i g m.sp m.bytes .store xs with
    | .error e => s.laneFault i g m.sp e
    | .ok (ps, t) =>
      if t.behindFar g ps then s.stall i g
      else
      match t.storeLanes i g m (addrOf xs) ps with
      | .error e => s.laneFault i g m.sp e
      | .ok t =>
        let t := if (t.group? i).isNone then t.countIssue i
          else if xs.isEmpty then t.retire i g
          else (t.retire i g).retireWork g.gtag
        (t.storeAway i g m ps).mgmtStores i g m ps)

/-- ST (05 R177). -/
def execSt (i : Issuer) (w : W64) (s : State) : Host.Outcome State Fault Refusal :=
  command (.st i w) (s.canIssue i) s (s.doSt i w)

end Sys2Proof.Machine
end

