-- ==== Sys2Proof/Machine/Scalar.lean ====
section
/-!
DEFINITION. Scalar integer instructions, OPC 0x10 (05 R162 to R164).
-/
namespace Sys2Proof.Machine

/-- Operand B of format S (05 R157, R163). -/
def scalarB (g : Group) (w : W64) : W64 :=
  if bitOf w 16 then sext64 35 (fld w 29 35) else g.s (fld w 29 6)

/-- The result of OPC 0x10 (05 R163, R164). -/
def scalarResult (g : Group) (w : W64) : W64 :=
  let a := g.s (fld w 23 6)
  if fnOf w == 0x19 then
    BitVec.ofNat 64 (fld w 29 32 * 2 ^ 32 + (g.s (fld w 17 6)).toNat % 2 ^ 32)
  else intOp 64 (fnOf w) a (scalarB g w)

/-- SCALAR_INTEGER (05 R163): once for the group, whatever the active mask. -/
def execScalarInteger (i : Issuer) (w : W64) (s : State) : Host.Outcome State Fault Refusal :=
  command (.scalarInteger i w) (s.canIssue i) s
    (s.issueLocal i w (fun g => g.setS (fld w 17 6) (scalarResult g w)))

end Sys2Proof.Machine
end

