-- ==== Sys2Proof/Machine/System.lean ====
section
/-!
DEFINITION. The system class, OPC 0x01 (05 R187 to R194): NOP, FENCE, BARG, BARC, FSR, FSC, SEED, SREAD,
YIELD.
-/
namespace Sys2Proof.Machine

/-- NOP (05 R194). -/
def execNop (i : Issuer) (w : W64) (s : State) : Host.Outcome State Fault Refusal :=
  command (.nop i w) (s.canIssue i) s (s.issueLocal i w id)

/-- FENCE (05 R187): the group issues nothing more until the requested waits have ended. -/
def execFence (i : Issuer) (w : W64) (s : State) : Host.Outcome State Fault Refusal :=
  command (.fence i w) (s.canIssue i) s
    (s.issueLocal i w (fun g => { g with wait := .fence (fld w 16 4) }))

/-- BARG (05 R189, 04 R132). -/
def State.doBarg (s : State) (i : Issuer) (w : W64) : State :=
  s.issue i w (fun g =>
    if g.fullMask then s.retire i { g with wait := .fence 8 }
    else s.refuse i g 0x0304 0xFF g.active)

def execBarg (i : Issuer) (w : W64) (s : State) : Host.Outcome State Fault Refusal :=
  command (.barg i w) (s.canIssue i) s (s.doBarg i w)

/-- The waits of BARC's memory option (05 R190). -/
def barcFence (w : W64) : Nat :=
  match fld w 18 2 with
  | 0 => 0
  | 1 => 1
  | _ => 3

/-- BARC (05 R190, 04 R133, R134): the fences first, then the arrival, which may release the barrier. -/
def State.doBarc (s : State) (i : Issuer) (w : W64) : State :=
  s.issue i w (fun g =>
    if !g.fullMask then s.refuse i g 0x0304 0xFF g.active
    else if s.fenceOpen i g (barcFence w) then s.setGroup i { g with wait := .fence (barcFence w) }
    else
      let b := fld w 16 2
      let t := s.retire i { g with wait := .barrier b }
      let c := t.core i.core
      let n := SMap.get 0 c.arrivals (barKey g b) + 1
      (t.setCore i.core { c with arrivals := SMap.put c.arrivals (barKey g b) n }).tryRelease i.core g b)

def execBarc (i : Issuer) (w : W64) (s : State) : Host.Outcome State Fault Refusal :=
  command (.barc i w) (s.canIssue i) s (s.doBarc i w)

/-- FSR (05 R191): it waits for every earlier instruction that can set a flag. -/
def State.doFsr (s : State) (i : Issuer) (w : W64) : State :=
  s.issue i w (fun g =>
    if s.flagsPending i g then s.stall i g
    else s.retire i (g.setS (fld w 20 6) g.status))

def execFsr (i : Issuer) (w : W64) (s : State) : Host.Outcome State Fault Refusal :=
  command (.fsr i w) (s.canIssue i) s (s.doFsr i w)

/-- FSC (05 R191): the status is read, then the selected flags are cleared. -/
def State.doFsc (s : State) (i : Issuer) (w : W64) : State :=
  s.issue i w (fun g =>
    if s.flagsPending i g then s.stall i g
    else
      let g1 := g.setS (fld w 20 6) g.status
      s.retire i { g1 with fp := g1.fp &&& ~~~(BitVec.ofNat 5 (fld w 32 5)) })

def execFsc (i : Issuer) (w : W64) (s : State) : Host.Outcome State Fault Refusal :=
  command (.fsc i w) (s.canIssue i) s (s.doFsc i w)

/-- The engines a SEED names (05 R192). -/
def seedEngines (arg : Nat) : List Nat := if arg == 7 then [0, 1, 2, 3, 4, 5, 6] else [arg]

/-- SEED (05 R192): it waits while a queue it needs is full. -/
def State.doSeed (s : State) (i : Issuer) (w : W64) : State :=
  s.issue i w (fun g =>
    match i with
    | .cp _ _ _ => s
    | .group core slot =>
      let es := seedEngines (fld w 16 4)
      if es.all (s.core core).room then
        es.foldl (fun s e => s.seedEngine core slot g w (g.s (fld w 26 6)) e) (s.retire i g)
      else s.stall i g)

def execSeed (i : Issuer) (w : W64) (s : State) : Host.Outcome State Fault Refusal :=
  command (.seed i w) (s.canIssue i) s (s.doSeed i w)

/-- The special values (05 R193); on a command processor the selectors of a group or core return all
ones (05 R160). -/
def State.special (s : State) (i : Issuer) (g : Group) (sel : Nat) : W64 :=
  let own (x : Nat) : W64 := if i.isCp then BitVec.allOnes 64 else BitVec.ofNat 64 x
  match sel with
  | 0x00 => own (i.key % 64)
  | 0x01 => own i.core
  | 0x02 => own ((s.core i.core).phys.getD 0)
  | 0x03 => own g.node.toNat
  | 0x04 => own g.gtag
  | 0x05 => s.tun.latch
  | 0x06 => BitVec.ofNat 64 (s.f F.beatCfg_LEN 0)
  | 0x07 => BitVec.ofNat 64 g.part
  | 0x08 => BitVec.ofNat 64 g.ctx
  | 0x09 => own g.rpt
  | 0x0A => own g.launch.toNat
  | _ => own g.active.toNat

/-- SREAD (05 R193). -/
def execSread (i : Issuer) (w : W64) (s : State) : Host.Outcome State Fault Refusal :=
  command (.sread i w) (s.canIssue i) s
    (s.issueLocal i w (fun g => g.setS (fld w 20 6) (s.special i g (fld w 32 8))))

/-- YIELD (05 R194): the group stops until the next beat boundary. -/
def execYield (i : Issuer) (w : W64) (s : State) : Host.Outcome State Fault Refusal :=
  command (.yield i w) (s.canIssue i) s
    (s.issueLocal i w (fun g => { g with wait := .beat }))

end Sys2Proof.Machine
end

