-- ==== Sys2Proof/Machine/Dispatch.lean ====
section
/-!
DEFINITION. The dispatch: one arm for each command, each a call of the command's own meaning.
-/
namespace Sys2Proof.Machine

def exec (i : Instr) (s : State) : Host.Outcome State Fault Refusal :=
  match i with
  | .nop who w => Sys2Proof.Machine.execNop who w s
  | .fence who w => Sys2Proof.Machine.execFence who w s
  | .barg who w => Sys2Proof.Machine.execBarg who w s
  | .barc who w => Sys2Proof.Machine.execBarc who w s
  | .fsr who w => Sys2Proof.Machine.execFsr who w s
  | .fsc who w => Sys2Proof.Machine.execFsc who w s
  | .seed who w => Sys2Proof.Machine.execSeed who w s
  | .sread who w => Sys2Proof.Machine.execSread who w s
  | .yield who w => Sys2Proof.Machine.execYield who w s
  | .bra who w => Sys2Proof.Machine.execBra who w s
  | .brr who w => Sys2Proof.Machine.execBrr who w s
  | .join who w => Sys2Proof.Machine.execJoin who w s
  | .brk who w => Sys2Proof.Machine.execBrk who w s
  | .bri who w => Sys2Proof.Machine.execBri who w s
  | .call who w => Sys2Proof.Machine.execCall who w s
  | .exit who w => Sys2Proof.Machine.execExit who w s
  | .scalarInteger who w => Sys2Proof.Machine.execScalarInteger who w s
  | .vectorInteger who w => Sys2Proof.Machine.execVectorInteger who w s
  | .compareToPredicate who w => Sys2Proof.Machine.execCompareToPredicate who w s
  | .predicateLogic who w => Sys2Proof.Machine.execPredicateLogic who w s
  | .shfl who w => Sys2Proof.Machine.execShfl who w s
  | .shflx who w => Sys2Proof.Machine.execShflx who w s
  | .shfl64 who w => Sys2Proof.Machine.execShfl64 who w s
  | .shflx64 who w => Sys2Proof.Machine.execShflx64 who w s
  | .ballot who w => Sys2Proof.Machine.execBallot who w s
  | .rdlane who w => Sys2Proof.Machine.execRdlane who w s
  | .laneid who w => Sys2Proof.Machine.execLaneid who w s
  | .fp32Arithmetic who w => Sys2Proof.Machine.execFp32Arithmetic who w s
  | .fp64Arithmetic who w => Sys2Proof.Machine.execFp64Arithmetic who w s
  | .pairArithmetic who w => Sys2Proof.Machine.execPairArithmetic who w s
  | .conversion who w => Sys2Proof.Machine.execConversion who w s
  | .ld who w => Sys2Proof.Machine.execLd who w s
  | .st who w => Sys2Proof.Machine.execSt who w s
  | .atomic who w => Sys2Proof.Machine.execAtomic who w s
  | .lacq who w => Sys2Proof.Machine.execLacq who w s
  | .lrel who w => Sys2Proof.Machine.execLrel who w s
  | .thset who w0 w1 => Sys2Proof.Machine.execThset who w0 w1 s
  | .thadv who w0 w1 => Sys2Proof.Machine.execThadv who w0 w1 s
  | .thget who w0 w1 => Sys2Proof.Machine.execThget who w0 w1 s
  | .thdr who w0 w1 => Sys2Proof.Machine.execThdr who w0 w1 s
  | .topen who w0 w1 => Sys2Proof.Machine.execTopen who w0 w1 s
  | .tseal who w0 w1 => Sys2Proof.Machine.execTseal who w0 w1 s
  | .fld who w0 w1 => Sys2Proof.Machine.execFld who w0 w1 s
  | .fst who w0 w1 => Sys2Proof.Machine.execFst who w0 w1 s
  | .mma who w0 w1 => Sys2Proof.Machine.execMma who w0 w1 s
  | .accw who w0 w1 => Sys2Proof.Machine.execAccw who w0 w1 s
  | .tcvt who w0 w1 => Sys2Proof.Machine.execTcvt who w0 w1 s
  | .copy who w0 w1 => Sys2Proof.Machine.execCopy who w0 w1 s
  | .tred who w0 w1 => Sys2Proof.Machine.execTred who w0 w1 s
  | .tatom who w0 w1 => Sys2Proof.Machine.execTatom who w0 w1 s
  | .rangePrefetch who w0 w1 => Sys2Proof.Machine.execRangePrefetch who w0 w1 s
  | .rangeFlush who w0 w1 => Sys2Proof.Machine.execRangeFlush who w0 w1 s
  | .rangeInvalidate who w0 w1 => Sys2Proof.Machine.execRangeInvalidate who w0 w1 s
  | .rangeDraff who w0 w1 => Sys2Proof.Machine.execRangeDraff who w0 w1 s
  | .waitge who w0 w1 => Sys2Proof.Machine.execWaitge who w0 w1 s
  | .phase who w0 w1 => Sys2Proof.Machine.execPhase who w0 w1 s
  | .farAtomicResponse who id => Sys2Proof.Machine.execFarAtomicResponse who id s
  | .lockRetry who => Sys2Proof.Machine.execLockRetry who s
  | .waitgeReached who => Sys2Proof.Machine.execWaitgeReached who s
  | .groupWatchdogExpiry who => Sys2Proof.Machine.execGroupWatchdogExpiry who s
  | .matrixEngineStart core me => Sys2Proof.Machine.execMatrixEngineStart core me s
  | .engineAttemptAbandon core me => Sys2Proof.Machine.execEngineAttemptAbandon core me s
  | .engineInstructionComplete core me => Sys2Proof.Machine.execEngineInstructionComplete core me s
  | .tileOperationTimeout core me => Sys2Proof.Machine.execTileOperationTimeout core me s
  | .transferStart core => Sys2Proof.Machine.execTransferStart core s
  | .transferComplete core cmd idx => Sys2Proof.Machine.execTransferComplete core cmd idx s
  | .tileWriteBegin a => Sys2Proof.Machine.execTileWriteBegin a s
  | .tileWriterTimeout a => Sys2Proof.Machine.execTileWriterTimeout a s
  | .tileReadComplete a => Sys2Proof.Machine.execTileReadComplete a s
  | .tornTileWindowExpiry a => Sys2Proof.Machine.execTornTileWindowExpiry a s
  | .copyTimeout a => Sys2Proof.Machine.execCopyTimeout a s
  | .caskWaitTimeout a => Sys2Proof.Machine.execCaskWaitTimeout a s
  | .beatBoundary m => Sys2Proof.Machine.execBeatBoundary m s
  | .digestComputed => Sys2Proof.Machine.execDigestComputed s
  | .hostRangeDone => Sys2Proof.Machine.execHostRangeDone s
  | .retirementMoveComplete => Sys2Proof.Machine.execRetirementMoveComplete s
  | .invalidationDone => Sys2Proof.Machine.execInvalidationDone s
  | .aonWriteApply => Sys2Proof.Machine.execAonWriteApply s
  | .pfFlr => Sys2Proof.Machine.execPfFlr s
  | .vfEnableSet => Sys2Proof.Machine.execVfEnableSet s
  | .vfEnableClear => Sys2Proof.Machine.execVfEnableClear s
  | .pcieLinkDown => Sys2Proof.Machine.execPcieLinkDown s
  | .debugAccess => Sys2Proof.Machine.execDebugAccess s
  | .sourceRecovery => Sys2Proof.Machine.execSourceRecovery s
  | .safeStateExit => Sys2Proof.Machine.execSafeStateExit s
  | .kuoriSourceFailure => Sys2Proof.Machine.execKuoriSourceFailure s
  | .vinAuxLoss => Sys2Proof.Machine.execVinAuxLoss s
  | .vinMainLoss => Sys2Proof.Machine.execVinMainLoss s
  | .regulatorsInRegulation => Sys2Proof.Machine.execRegulatorsInRegulation s
  | .linkReset => Sys2Proof.Machine.execLinkReset s
  | .perstDeassert => Sys2Proof.Machine.execPerstDeassert s
  | .tapReset => Sys2Proof.Machine.execTapReset s
  | .bootStep => Sys2Proof.Machine.execBootStep s
  | .bootResult => Sys2Proof.Machine.execBootResult s
  | .haltCode => Sys2Proof.Machine.execHaltCode s
  | .mgmtStatusRead => Sys2Proof.Machine.execMgmtStatusRead s
  | .mgmtTemperatureRead => Sys2Proof.Machine.execMgmtTemperatureRead s
  | .mgmtPowerRead => Sys2Proof.Machine.execMgmtPowerRead s
  | .alertResponse => Sys2Proof.Machine.execAlertResponse s
  | .spareBringInComplete passed => Sys2Proof.Machine.execSpareBringInComplete passed s
  | .scrubRead pc r => Sys2Proof.Machine.execScrubRead pc r s
  | .memoryReadComplete pc line who r => Sys2Proof.Machine.execMemoryReadComplete pc line who r s
  | .switchDrainEnd part ctx core => Sys2Proof.Machine.execSwitchDrainEnd part ctx core s
  | .switchDrainTimeout part ctx core => Sys2Proof.Machine.execSwitchDrainTimeout part ctx core s
  | .switchSaveComplete part ctx core => Sys2Proof.Machine.execSwitchSaveComplete part ctx core s
  | .switchRestoreComplete part ctx core => Sys2Proof.Machine.execSwitchRestoreComplete part ctx core s
  | .teardownDrainEnd part ctx => Sys2Proof.Machine.execTeardownDrainEnd part ctx s
  | .partitionCreate part v => Sys2Proof.Machine.execPartitionCreate part v s
  | .partitionDestroy part v => Sys2Proof.Machine.execPartitionDestroy part v s
  | .partFreeze part v => Sys2Proof.Machine.execPartFreeze part v s
  | .partThaw part v => Sys2Proof.Machine.execPartThaw part v s
  | .partRestore part v => Sys2Proof.Machine.execPartRestore part v s
  | .partitionDestroyEnd part => Sys2Proof.Machine.execPartitionDestroyEnd part s
  | .partFreezeComplete part => Sys2Proof.Machine.execPartFreezeComplete part s
  | .partRestoreComplete part => Sys2Proof.Machine.execPartRestoreComplete part s
  | .contextEnable part ctx v => Sys2Proof.Machine.execContextEnable part ctx v s
  | .contextDisable part ctx v => Sys2Proof.Machine.execContextDisable part ctx v s
  | .ringEnable part ctx v => Sys2Proof.Machine.execRingEnable part ctx v s
  | .ringDisable part ctx v => Sys2Proof.Machine.execRingDisable part ctx v s
  | .regionOwnerWrite n v => Sys2Proof.Machine.execRegionOwnerWrite n v s
  | .regionDisable n v => Sys2Proof.Machine.execRegionDisable n v s
  | .regionEnable n v => Sys2Proof.Machine.execRegionEnable n v s
  | .pkeyWrite n v => Sys2Proof.Machine.execPkeyWrite n v s
  | .regionDrainComplete n => Sys2Proof.Machine.execRegionDrainComplete n s
  | .regionZeroFillComplete n => Sys2Proof.Machine.execRegionZeroFillComplete n s
  | .wayReassign slice way v => Sys2Proof.Machine.execWayReassign slice way v s
  | .wayReassignComplete slice way => Sys2Proof.Machine.execWayReassignComplete slice way s
  | .hostRangeFlush v => Sys2Proof.Machine.execHostRangeFlush v s
  | .hostRangeInvalidate v => Sys2Proof.Machine.execHostRangeInvalidate v s
  | .hostRangeDraff v => Sys2Proof.Machine.execHostRangeDraff v s
  | .pseudoChannelRetire v => Sys2Proof.Machine.execPseudoChannelRetire v s
  | .routeDataWrite v => Sys2Proof.Machine.execRouteDataWrite v s
  | .translationInvalidate v => Sys2Proof.Machine.execTranslationInvalidate v s
  | .firmwareCommit v => Sys2Proof.Machine.execFirmwareCommit v s
  | .epochAdvance v => Sys2Proof.Machine.execEpochAdvance v s
  | .recordStart v => Sys2Proof.Machine.execRecordStart v s
  | .recordData v => Sys2Proof.Machine.execRecordData v s
  | .recordDone v => Sys2Proof.Machine.execRecordDone v s
  | .coreSpareBringIn v => Sys2Proof.Machine.execCoreSpareBringIn v s
  | .waySpareBringIn v => Sys2Proof.Machine.execWaySpareBringIn v s
  | .inFieldTest v => Sys2Proof.Machine.execInFieldTest v s
  | .coreUnfence v => Sys2Proof.Machine.execCoreUnfence v s
  | .directorySample v => Sys2Proof.Machine.execDirectorySample v s
  | .gets core slot line r => Sys2Proof.Machine.execGets core slot line r s
  | .getm core slot line => Sys2Proof.Machine.execGetm core slot line s
  | .putf core line => Sys2Proof.Machine.execPutf core line s
  | .pute core line => Sys2Proof.Machine.execPute core line s
  | .putm core line => Sys2Proof.Machine.execPutm core line s
  | .l1Grant core line => Sys2Proof.Machine.execL1Grant core line s
  | .l1Inv core line => Sys2Proof.Machine.execL1Inv core line s
  | .l1Fwds core line => Sys2Proof.Machine.execL1Fwds core line s
  | .l1Fwdm core line => Sys2Proof.Machine.execL1Fwdm core line s
  | .l1Snoop core line => Sys2Proof.Machine.execL1Snoop core line s
  | .l1Recall core line => Sys2Proof.Machine.execL1Recall core line s
  | .l1FlushRequest core line => Sys2Proof.Machine.execL1FlushRequest core line s
  | .l1Response core line => Sys2Proof.Machine.execL1Response core line s
  | .nonAllocatingRead line who => Sys2Proof.Machine.execNonAllocatingRead line who s
  | .nonAllocatingWrite line who mask data => Sys2Proof.Machine.execNonAllocatingWrite line who mask data s
  | .farOperation slice => Sys2Proof.Machine.execFarOperation slice s
  | .farOpResume slice => Sys2Proof.Machine.execFarOpResume slice s
  | .snoopTimeout line => Sys2Proof.Machine.execSnoopTimeout line s
  | .softPprComplete pc => Sys2Proof.Machine.execSoftPprComplete pc s
  | .caParityError stack chan retryPassed => Sys2Proof.Machine.execCaParityError stack chan retryPassed s
  | .channelRetrainEnd stack chan passed => Sys2Proof.Machine.execChannelRetrainEnd stack chan passed s
  | .beatMark port m arrival => Sys2Proof.Machine.execBeatMark port m arrival s
  | .beatInFrame frame arrival => Sys2Proof.Machine.execBeatInFrame frame arrival s
  | .dlyreq port m t2 t3 => Sys2Proof.Machine.execDlyreq port m t2 t3 s
  | .dlyrsp port m t4 => Sys2Proof.Machine.execDlyrsp port m t4 s
  | .barrive port m => Sys2Proof.Machine.execBarrive port m s
  | .brelease port m => Sys2Proof.Machine.execBrelease port m s
  | .digestMsg port m => Sys2Proof.Machine.execDigestMsg port m s
  | .mgmtRegisterRead port m => Sys2Proof.Machine.execMgmtRegisterRead port m s
  | .mgmtRegisterWrite port m => Sys2Proof.Machine.execMgmtRegisterWrite port m s
  | .mgmtSpdmFragment port m => Sys2Proof.Machine.execMgmtSpdmFragment port m s
  | .mgmtrsp port m => Sys2Proof.Machine.execMgmtrsp port m s
  | .rd port m => Sys2Proof.Machine.execRd port m s
  | .wr port m => Sys2Proof.Machine.execWr port m s
  | .atom port m => Sys2Proof.Machine.execAtom port m s
  | .trd port m => Sys2Proof.Machine.execTrd port m s
  | .twr port m => Sys2Proof.Machine.execTwr port m s
  | .tredContribution port m => Sys2Proof.Machine.execTredContribution port m s
  | .rdrsp port m => Sys2Proof.Machine.execRdrsp port m s
  | .wrack port m => Sys2Proof.Machine.execWrack port m s
  | .atrsp port m => Sys2Proof.Machine.execAtrsp port m s
  | .twrack port m => Sys2Proof.Machine.execTwrack port m s
  | .trdrsp port m => Sys2Proof.Machine.execTrdrsp port m s
  | .errRsp port m => Sys2Proof.Machine.execErrRsp port m s
  | .spdmFragmentTimeout snode msgno => Sys2Proof.Machine.execSpdmFragmentTimeout snode msgno s
  | .respTimeout tag => Sys2Proof.Machine.execRespTimeout tag s
  | .stallTimeout port vc => Sys2Proof.Machine.execStallTimeout port vc s
  | .laneFailure engine lane => Sys2Proof.Machine.execLaneFailure engine lane s
  | .flitCrcError port lane => Sys2Proof.Machine.execFlitCrcError port lane s
  | .portEnable port v => Sys2Proof.Machine.execPortEnable port v s
  | .portRetrain port v => Sys2Proof.Machine.execPortRetrain port v s
  | .vc0WaitClear port v => Sys2Proof.Machine.execVc0WaitClear port v s
  | .trainingComplete port peer peerLanes delay => Sys2Proof.Machine.execTrainingComplete port peer peerLanes delay s
  | .trainingRetry port => Sys2Proof.Machine.execTrainingRetry port s
  | .fabricRetrainFailure port withinSecond => Sys2Proof.Machine.execFabricRetrainFailure port withinSecond s
  | .spanWindowWrite n wordB v => Sys2Proof.Machine.execSpanWindowWrite n wordB v s
  | .bxfArrive who b v => Sys2Proof.Machine.execBxfArrive who b v s
  | .bxfBarArrive b v => Sys2Proof.Machine.execBxfBarArrive b v s
  | .barrierUnitEnable b v => Sys2Proof.Machine.execBarrierUnitEnable b v s
  | .ringTask part ctx => Sys2Proof.Machine.execRingTask part ctx s
  | .ringWaitmem part ctx => Sys2Proof.Machine.execRingWaitmem part ctx s
  | .ringWrite part ctx => Sys2Proof.Machine.execRingWrite part ctx s
  | .ringPhase part ctx => Sys2Proof.Machine.execRingPhase part ctx s
  | .ringNop part ctx => Sys2Proof.Machine.execRingNop part ctx s
  | .ringStallTimeout part ctx => Sys2Proof.Machine.execRingStallTimeout part ctx s
  | .ringCopy part ctx => Sys2Proof.Machine.execRingCopy part ctx s
  | .copyEngineComplete e host hostAgain => Sys2Proof.Machine.execCopyEngineComplete e host hostAgain s
  | .sealedPackageLoad part ctx host => Sys2Proof.Machine.execSealedPackageLoad part ctx host s
  | .sealedLoadComplete e => Sys2Proof.Machine.execSealedLoadComplete e s
  | .commandFetchComplete part ctx entries => Sys2Proof.Machine.execCommandFetchComplete part ctx entries s
  | .taskComplete part ctx n => Sys2Proof.Machine.execTaskComplete part ctx n s
  | .windowRead fn ofs len => Sys2Proof.Machine.execWindowRead fn ofs len s
  | .windowWrite fn ofs data => Sys2Proof.Machine.execWindowWrite fn ofs data s
  | .registerWrite who a v => Sys2Proof.Machine.execRegisterWrite who a v s
  | .vfFlr n => Sys2Proof.Machine.execVfFlr n s
  | .hostRequestFailure part ctx => Sys2Proof.Machine.execHostRequestFailure part ctx s
  | .pcieAtomicop fn ofs => Sys2Proof.Machine.execPcieAtomicop fn ofs s
  | .doeAbort fn => Sys2Proof.Machine.execDoeAbort fn s
  | .doeDiscovery fn => Sys2Proof.Machine.execDoeDiscovery fn s
  | .pcieLinkUp lanes rate => Sys2Proof.Machine.execPcieLinkUp lanes rate s
  | .getVersion via body => Sys2Proof.Machine.execGetVersion via body s
  | .getCapabilities via body => Sys2Proof.Machine.execGetCapabilities via body s
  | .negotiateAlgorithms via body => Sys2Proof.Machine.execNegotiateAlgorithms via body s
  | .getDigests via body => Sys2Proof.Machine.execGetDigests via body s
  | .spdmFinish via body => Sys2Proof.Machine.execSpdmFinish via body s
  | .spdmHeartbeat via body => Sys2Proof.Machine.execSpdmHeartbeat via body s
  | .keyUpdate via body => Sys2Proof.Machine.execKeyUpdate via body s
  | .endSession via body => Sys2Proof.Machine.execEndSession via body s
  | .chunkSend via body => Sys2Proof.Machine.execChunkSend via body s
  | .chunkGet via body => Sys2Proof.Machine.execChunkGet via body s
  | .getCertificate via slot ofs len => Sys2Proof.Machine.execGetCertificate via slot ofs len s
  | .spdmChallenge via body => Sys2Proof.Machine.execSpdmChallenge via body s
  | .keyExchange via body => Sys2Proof.Machine.execKeyExchange via body s
  | .getMeasurements via index signed body => Sys2Proof.Machine.execGetMeasurements via index signed body s
  | .kegRead n nonce => Sys2Proof.Machine.execKegRead n nonce s
  | .kegAdvance n v nonce => Sys2Proof.Machine.execKegAdvance n v nonce s
  | .kegReserve nonce => Sys2Proof.Machine.execKegReserve nonce s
  | .kegSeed nonce => Sys2Proof.Machine.execKegSeed nonce s
  | .kegResponse r => Sys2Proof.Machine.execKegResponse r s
  | .recordProgramComplete => Sys2Proof.Machine.execRecordProgramComplete s
  | .keyLoad part v => Sys2Proof.Machine.execKeyLoad part v s
  | .keyDrop part v => Sys2Proof.Machine.execKeyDrop part v s
  | .keyLoadComplete part => Sys2Proof.Machine.execKeyLoadComplete part s
  | .domainSwitch n v => Sys2Proof.Machine.execDomainSwitch n v s
  | .pllLock n locked => Sys2Proof.Machine.execPllLock n locked s
  | .domainStopPoint n => Sys2Proof.Machine.execDomainStopPoint n s
  | .domainRestart n => Sys2Proof.Machine.execDomainRestart n s
  | .referenceFailure src => Sys2Proof.Machine.execReferenceFailure src s
  | .pllLossOfLock n => Sys2Proof.Machine.execPllLossOfLock n s
  | .trimWindow err => Sys2Proof.Machine.execTrimWindow err s
  | .unitWake gate bit => Sys2Proof.Machine.execUnitWake gate bit s
  | .currentLimitEvent die => Sys2Proof.Machine.execCurrentLimitEvent die s
  | .currentLimitRelease die => Sys2Proof.Machine.execCurrentLimitRelease die s
  | .droopEvent cluster => Sys2Proof.Machine.execDroopEvent cluster s
  | .coreFence cause phys => Sys2Proof.Machine.execCoreFence cause phys s
  | .coreArrayError core array word correctable => Sys2Proof.Machine.execCoreArrayError core array word correctable s
  | .inFieldTestComplete passed => Sys2Proof.Machine.execInFieldTestComplete passed s
  | .d2dLaneFailure port lane => Sys2Proof.Machine.execD2dLaneFailure port lane s
  | .d2dTrainingComplete port capTun capDie => Sys2Proof.Machine.execD2dTrainingComplete port capTun capDie s
  | .d2dTrainingTimeout port withinSecond => Sys2Proof.Machine.execD2dTrainingTimeout port withinSecond s
  | .d2dRetrain port v => Sys2Proof.Machine.execD2dRetrain port v s
  | .d2dPartialReset port v => Sys2Proof.Machine.execD2dPartialReset port v s
  | .d2dFatalError port dieSide => Sys2Proof.Machine.execD2dFatalError port dieSide s
  | .vinAuxOn millivolts => Sys2Proof.Machine.execVinAuxOn millivolts s
  | .vinMainOn millivolts => Sys2Proof.Machine.execVinMainOn millivolts s
  | .bootStepEnd r => Sys2Proof.Machine.execBootStepEnd r s
  | .thermalTrip what => Sys2Proof.Machine.execThermalTrip what s
  | .thermalRecheck tj => Sys2Proof.Machine.execThermalRecheck tj s
  | .ideKm m => Sys2Proof.Machine.execIdeKm m s
  | .ideIntegrityFailure stream => Sys2Proof.Machine.execIdeIntegrityFailure stream s

end Sys2Proof.Machine
end

