-- ==== Sys2Proof/Safety.lean ====
section
/-!
DEFINITION. What the statements speak of: a step that completes, the invariants a step keeps, and the
readings of the state that name what a command leaves unchanged.
-/
namespace Sys2Proof.Machine

/-- A command completes with a state. -/
abbrev Completes (c : Instr) (s t : State) : Prop := exec c s = .next t

/-- A state whose next step is not a stop. -/
def State.StepsOn (s : State) : Prop := ∃ t, step s = .next t

/-- FAULT_N and MGMT_ALERT_N show what the state asserts (15 R531, 17 R574). -/
def State.PinsAgree (s : State) : Prop :=
  s.boot.faultN = s.faultAsserted ∧ s.boot.alertN = (s.boot.aux && (s.svcRequest || s.boot.thermtripN))

/-- The byte memories are in canonical form. -/
def State.MemoriesWf (s : State) : Prop :=
  Memory.wf s.mem.hbm ∧ Memory.wf s.mem.scratch ∧ Memory.wf s.mem.loc

/-- The 48-bit count of an event counter (00 R20). -/
def State.eventCount (s : State) (lo hi : Reg) (i : Nat) : Nat :=
  (s.rget lo i).toNat + bitsOf (s.rget hi i) 0 16 * 2 ^ 32

/-! ### Issue -/

/-- A group that its wait no longer holds back. -/
def Group.ready (g : Group) : Group := { g with wait := .none }

/-- A one-word instruction issues: its issuer may issue, the word is one the issuer accepts, its
registers exist, are aligned and free (05 R158, R160; 04 R114, R126). -/
abbrev State.Issues (s : State) (i : Issuer) (w : W64) (g : Group) : Prop :=
  s.canIssue i = true ∧ s.group? i = some g ∧ (legalOne w && (!i.isCp || cpSubset w)) = true ∧
    regFault g.ready (wordOperands w) = none ∧ s.busyWord i g.ready w = false

/-- A two-word instruction issues, `ops` being the fragments and accumulator sets it names: a group may issue it, the
words are legal, its registers exist, are aligned and free, and a collective one has its full mask (06 R199, R584). -/
abbrev State.Issues2 (s : State) (i : Issuer) (w0 w1 : W64) (ops : List VOperand) (g : Group) : Prop :=
  s.canIssue i = true ∧ s.group? i = some g ∧ (legalTwo w0 w1 && !i.isCp) = true ∧
    beyondRpt g.rpt ops = none ∧ misalignedReg ops = none ∧ (!collective w0 || g.fullMask) = true ∧
    (ops.any (fun o => s.busyV i g.ready o.reg o.count) || (twoScalars w0 w1).any (s.busyS i g.ready)) = false

/-- Everything but the cores' state, the registers and the pins is as before. -/
def State.SameBeyondCores (s t : State) : Prop :=
  t.lows = s.lows ∧ t.aon = s.aon ∧ t.aonCopy = s.aonCopy ∧ t.mem = s.mem ∧ t.hbm = s.hbm ∧ t.fab = s.fab ∧
    t.tun = s.tun ∧ t.host = s.host ∧ t.sec = s.sec ∧ t.clk = s.clk ∧ t.ras = s.ras ∧ t.out = s.out ∧
    t.pending = s.pending

/-- Everything is as before but the register words that `p` names, and the pins. -/
def State.SameBut (s t : State) (p : Reg → Nat → Prop) : Prop :=
  t.co = s.co ∧ t.views = s.views ∧ s.SameBeyondCores t ∧ ∀ r j, j < 2 ^ 24 → ¬ p r j → t.rget r j = s.rget r j

end Sys2Proof.Machine
end

