-- ==== Sys2Proof/Certificates/Slice0/Obligations.lean ====
section
/-!
DEFINITION. The statements for the provers, family by family in the order of the opcode table. A command completes when
`exec` answers a next state (`Completes`); the pins that follow from the state are set last (`State.pins`).
-/
section Slice0Obligations
open Sys2Proof Sys2Proof.Machine

/-! ### The machine (log entries 1 and 2) -/

/-- A step takes the command at the front of the queue and executes it on the state with the rest of the queue; on an
empty queue the block idles (the model's choice, log entry 1). -/
def Obligations.StepRunsFrontCommand : Prop :=
  (∀ (c : Instr) (rest : List Instr) (s : State), s.pending = c :: rest →
    step s = exec c { s with pending := rest }) ∧
  ∀ s : State, s.pending = [] → step s = .next s

/-- After reset no command waits, nothing has been sent, every register word holds its reset word, no thread group is
resident, and the byte memories are empty (their reading as zero is the model's choice, log entry 5; so are the 0 of
the fields that boot fills, 3); the two outputs that follow the state show what it asserts. -/
def Obligations.ResetState : Prop :=
  State.reset.pending = [] ∧ State.reset.out = [] ∧
  (∀ r i, State.reset.rget r i = r.resetWord i) ∧
  (∀ core slot, State.reset.group? (.group core slot) = none) ∧
  (∀ c, State.reset.core c = CoreSt.reset) ∧
  (∀ a, Memory.read State.reset.mem.hbm a = 0 ∧ Memory.read State.reset.mem.scratch a = 0 ∧
    Memory.read State.reset.mem.loc a = 0) ∧
  State.reset.MemoriesWf ∧ State.reset.PinsAgree

/-- Whatever command is at the front of the queue, after a step FAULT_N is asserted exactly while one of its claimants
asserts it, and MGMT_ALERT_N exactly while the always-on rail is up and the service request or THERMTRIP_N stands. -/
def Obligations.StepKeepsPins : Prop :=
  ∀ s t : State, s.PinsAgree → step s = .next t → t.PinsAgree

/-- A command whose operands name nothing changes nothing (the model's choice, log entry 11): it completes, and with
the pins as the state asserts them the next state is the state before. -/
def Obligations.IllFormedChangesNothing : Prop :=
  ∀ (c : Instr) (s : State), c.wf = false → Completes c s s.pins ∧ (s.PinsAgree → s.pins = s)

/-- The model stops with a fault for a supply beyond its absolute maximum and for nothing else; every other command
completes in every state, and none is refused. -/
def Obligations.OnlyOverSupplyFaults : Prop :=
  (∀ (c : Instr) (s : State) (r : Fault), exec c s = .fault r ↔
    (∃ mv, 3900 < mv ∧ c = .vinAuxOn mv ∧ r = .absoluteMaximum mv) ∨
    ∃ mv, 14000 < mv ∧ c = .vinMainOn mv ∧ r = .absoluteMaximum mv) ∧
  (∀ (c : Instr) (s : State) (r : Refusal), exec c s ≠ .refused r) ∧
  ∀ (c : Instr) (s : State), (∀ mv, 3900 < mv → c ≠ .vinAuxOn mv) → (∀ mv, 14000 < mv → c ≠ .vinMainOn mv) →
    ∃ t, Completes c s t

/-! ### Registers (00 R13, R20) -/

/-- What a write of `v` makes of each field of a register: a read-only field and a write-only one keep their bits, a
read-write field takes those of `v`, one guarded by an enable takes them only while the enable is clear, and a
write-one-to-clear field loses the bits that `v` has set. -/
def Obligations.WriteByAccessCode : Prop :=
  ∀ (r : Reg) (held : Bool) (old v : W32), ∀ x ∈ r.info.fields,
    bitsOf (r.written held old v) x.lo x.n =
      match x.acc with
      | .ro | .wo => bitsOf old x.lo x.n
      | .rw => bitsOf v x.lo x.n
      | .rwd => if held then bitsOf old x.lo x.n else bitsOf v x.lo x.n
      | .w1c => bitsOf (old &&& ~~~v) x.lo x.n

/-- An event counter counts modulo 2^48 (00 R20), a wrap sets its sticky bit, counting on keeps the bit, a write clears
it exactly where it carries a 1 in its place, and every other register word keeps its value. -/
def Obligations.EventCounterWraps : Prop :=
  (∀ hi ∈ [Reg.coreEvtHi, .sliceEvtHi, .stackEvtHi, .bxfCtlEvtHi, .portEvtHi, .secEvtHi, .clkEvtHi, .pwrEvtHi, .rasEvtHi,
      .d2dEvtHi], ∀ (held : Bool) (old v : W32),
    bitsOf (hi.written held old v) 16 1 = (if bitsOf v 16 1 = 1 then 0 else bitsOf old 16 1)) ∧
  ∀ (s : State) (lo hi : Reg) (i k : Nat), lo ≠ hi → i < 2 ^ 24 →
    (s.bump lo hi i k).eventCount lo hi i = (s.eventCount lo hi i + k) % 2 ^ 48 ∧
    bitsOf ((s.bump lo hi i k).rget hi i) 16 1 =
      (if 2 ^ 48 ≤ s.eventCount lo hi i + k then 1 else bitsOf (s.rget hi i) 16 1) ∧
    ∀ (r : Reg) (j : Nat), j < 2 ^ 24 → (j ≠ i ∨ (r ≠ lo ∧ r ≠ hi)) →
      (s.bump lo hi i k).rget r j = s.rget r j

/-! ### One-word instructions of a group (04, 05) -/

/-- What a retired instruction of a resident group changes: its own group, which becomes the one given with the program
counter past the instruction, the count of issued instructions of its core, and that count on the account of its
partition. Every other group, register word and part of the state is as before. -/
def Obligations.RetireFrame : Prop :=
  ∀ (s : State) (core slot : Nat) (g h : Group), core < 256 → slot < 64 → s.group? (.group core slot) = some h →
    (s.retire (.group core slot) g).group? (.group core slot) = some { g with pc := g.pc + 8 } ∧
    (∀ c k, c < 256 → k < 64 → (c ≠ core ∨ k ≠ slot) →
      (s.retire (.group core slot) g).group? (.group c k) = s.group? (.group c k)) ∧
    (s.retire (.group core slot) g).eventCount .coreEvtLo .coreEvtHi (core * 8) =
      (s.eventCount .coreEvtLo .coreEvtHi (core * 8) + 1) % 2 ^ 48 ∧
    (∀ (r : Reg) (j : Nat), j < 2 ^ 24 → (j ≠ core * 8 ∨ (r ≠ .coreEvtLo ∧ r ≠ .coreEvtHi)) →
      (s.retire (.group core slot) g).rget r j = s.rget r j) ∧
    (∀ k, SMap.get 0 (s.retire (.group core slot) g).views.work k =
      SMap.get 0 s.views.work k + (if k = h.part * 8192 + core * 8 then 1 else 0)) ∧
    (s.retire (.group core slot) g).views.shown = s.views.shown ∧
    (s.retire (.group core slot) g).views.stamps = s.views.stamps ∧
    (∀ c, (s.retire (.group core slot) g).core c = s.core c) ∧
    (s.retire (.group core slot) g).co.accesses = s.co.accesses ∧
    s.SameBeyondCores (s.retire (.group core slot) g)

/-- System instructions that issue: NOP moves past itself; FENCE waits for what its argument names; YIELD waits for the
next beat boundary; SREAD writes the selected value; BARG with the full mask waits for the group's own work; FSR and
FSC, once no earlier instruction can set a flag, write the status, and FSC then clears the flags its immediate
selects. BARC with the full mask and no fence open counts one arrival at its barrier and waits, and the barrier is
released when the arrivals reach the participants; SEED with room in every queue it needs gives each engine its
seed.
Rows that complete here: NOP, FENCE, BARG, BARC, FSR, FSC, SEED, SREAD, YIELD. -/
def Obligations.SystemWords : Prop :=
  (∀ (s : State) (i : Issuer) (w : W64) (g : Group), s.Issues i w g →
    ((Instr.nop i w).wf → Completes (.nop i w) s (s.retire i g.ready).pins) ∧
    ((Instr.fence i w).wf →
      Completes (.fence i w) s (s.retire i { g.ready with wait := .fence (fld w 16 4) }).pins) ∧
    ((Instr.yield i w).wf → Completes (.yield i w) s (s.retire i { g.ready with wait := .beat }).pins) ∧
    ((Instr.sread i w).wf →
      Completes (.sread i w) s (s.retire i (g.ready.setS (fld w 20 6) (s.special i g.ready (fld w 32 8)))).pins) ∧
    ((Instr.barg i w).wf → g.active = g.launch →
      Completes (.barg i w) s (s.retire i { g.ready with wait := .fence 8 }).pins) ∧
    ((Instr.fsr i w).wf → s.flagsPending i g.ready = false →
      Completes (.fsr i w) s (s.retire i (g.ready.setS (fld w 20 6) (g.fp.setWidth 64))).pins) ∧
    ((Instr.fsc i w).wf → s.flagsPending i g.ready = false →
      Completes (.fsc i w) s (s.retire i { g.ready.setS (fld w 20 6) (g.fp.setWidth 64) with
        fp := g.fp &&& ~~~(BitVec.ofNat 5 (fld w 32 5)) }).pins)) ∧
  ∀ (s : State) (core slot : Nat) (w : W64) (g : Group), s.Issues (.group core slot) w g →
    ((Instr.barc (.group core slot) w).wf → g.active = g.launch →
      s.fenceOpen (.group core slot) g.ready (barcFence w) = false →
      Completes (.barc (.group core slot) w) s
        (let t := s.retire (.group core slot) { g.ready with wait := .barrier (fld w 16 2) }
         let c := t.core core
         (t.setCore core { c with
            arrivals := SMap.put c.arrivals (barKey g.ready (fld w 16 2))
              (SMap.get 0 c.arrivals (barKey g.ready (fld w 16 2)) + 1) }).tryRelease core g.ready (fld w 16 2)).pins) ∧
    ((Instr.seed (.group core slot) w).wf → (seedEngines (fld w 16 4)).all (s.core core).room = true →
      Completes (.seed (.group core slot) w) s
        ((seedEngines (fld w 16 4)).foldl
          (fun t e => t.seedEngine core slot g.ready w (g.s (fld w 26 6)) e)
          (s.retire (.group core slot) g.ready)).pins)

/-- Integer, compare, predicate and lane instructions that issue change the registers of their group as their rules say
and nothing else, and move past themselves.
Rows that complete here: SCALAR_INTEGER, VECTOR_INTEGER, COMPARE_TO_PREDICATE, PREDICATE_LOGIC, SHFL, SHFLX, SHFL64,
SHFLX64, BALLOT, RDLANE, LANEID. -/
def Obligations.IntegerAndLaneWords : Prop :=
  ∀ (s : State) (i : Issuer) (w : W64) (g : Group), s.Issues i w g →
    ((Instr.scalarInteger i w).wf →
      Completes (.scalarInteger i w) s (s.retire i (g.ready.setS (fld w 17 6) (scalarResult g.ready w))).pins) ∧
    ((Instr.vectorInteger i w).wf → Completes (.vectorInteger i w) s (s.retire i (vecInteger w g.ready)).pins) ∧
    ((Instr.compareToPredicate i w).wf →
      Completes (.compareToPredicate i w) s (s.retire i (vecCompare w g.ready)).pins) ∧
    ((Instr.predicateLogic i w).wf →
      Completes (.predicateLogic i w) s (s.retire i (vecPredicate w g.ready)).pins) ∧
    ((Instr.shfl i w).wf → Completes (.shfl i w) s (s.retire i (vecShuffle false w g.ready)).pins) ∧
    ((Instr.shflx i w).wf → Completes (.shflx i w) s (s.retire i (vecShuffle false w g.ready)).pins) ∧
    ((Instr.shfl64 i w).wf → Completes (.shfl64 i w) s (s.retire i (vecShuffle true w g.ready)).pins) ∧
    ((Instr.shflx64 i w).wf → Completes (.shflx64 i w) s (s.retire i (vecShuffle true w g.ready)).pins) ∧
    ((Instr.ballot i w).wf → Completes (.ballot i w) s (s.retire i (vecBallot w g.ready)).pins) ∧
    ((Instr.rdlane i w).wf → Completes (.rdlane i w) s (s.retire i (vecRdlane w g.ready)).pins) ∧
    ((Instr.laneid i w).wf → Completes (.laneid i w) s (s.retire i (vecLaneid w g.ready)).pins)

/-- What OPC 0x20, 0x24 and LANEID leave in the vector registers: each participating thread's destination takes the
operation's result on the operands as they stood before, a thread that does not participate keeps its destination,
and every other register of every thread is unchanged. -/
def Obligations.VectorLanes : Prop :=
  ∀ (w : W64) (g : Group) (r t : Nat), t < 32 →
    (opcOf w ≠ 0x21 →
      (vecInteger w g).v r t =
        if r = (vForm w).vd ∧ (g.parts (vForm w).g).getLsbD t then
          intOp 32 (fnOf w) (g.v (vForm w).va t) (vecB32 g (vForm w) t)
        else g.v r t) ∧
    (vecShuffle false w g).v r t =
      (if r = (vForm w).vd ∧ (g.parts (vForm w).g).getLsbD t then g.v (vForm w).va (shuffleLane g w t)
       else g.v r t) ∧
    (vecLaneid w g).v r t =
      (if r = (vForm w).vd ∧ (g.parts (vForm w).g).getLsbD t then BitVec.ofNat 32 t else g.v r t)

/-- The values that scalar integer instructions write to their destination (05 R163, R164): with a the value of sA and b
operand B, the scalar register or the sign-extended immediate. Division never faults. The other values of FN, and
the fields of LI, LIH, POPC, CLZ and CTZ that break their rule, are no legal encoding.
Rows that complete here: SCALAR_INTEGER. -/
def Obligations.ScalarIntegerValues : Prop :=
  (∀ w : W64, opcOf w = 0x10 →
    fnOf w ∈ [0x0F, 0x13, 0x1A, 0x1B] ∨ 0x1E < fnOf w ∨
      (fnOf w = 0x18 ∨ fnOf w = 0x19) ∧ (bitOf w 16 = false ∨ fld w 23 6 ≠ 0) ∨ fnOf w = 0x19 ∧ fld w 61 3 ≠ 0 ∨
      (fnOf w = 0x1C ∨ fnOf w = 0x1D ∨ fnOf w = 0x1E) ∧ (bitOf w 16 = true ∨ fld w 29 6 ≠ 0) → legalOne w = false) ∧
  ∀ (s : State) (i : Issuer) (w : W64) (g : Group), (Instr.scalarInteger i w).wf → s.Issues i w g →
    ∃ t g', Completes (.scalarInteger i w) s t ∧ t.group? i = some g' ∧ g'.pc = g.pc + 8 ∧
      ∀ a b : W64, a = g.s (fld w 23 6) →
        b = (if bitOf w 16 then (BitVec.ofNat 35 (fld w 29 35)).signExtend 64 else g.s (fld w 29 6)) →
        let d := g'.s (fld w 17 6)
        match fnOf w with
        | 0x00 => d = a + b
        | 0x01 => d = a - b
        | 0x02 => d = a &&& b
        | 0x03 => d = a ||| b
        | 0x04 => d = a ^^^ b
        | 0x05 => d = a <<< (b.toNat % 64)
        | 0x06 => d = a >>> (b.toNat % 64)
        | 0x07 => d = a.sshiftRight (b.toNat % 64)
        | 0x08 => d = BitVec.ofNat 64 (a.toNat * b.toNat)
        | 0x09 => d.toNat = a.toNat * b.toNat / 2 ^ 64
        | 0x0A => d = BitVec.ofInt 64 (a.toInt * b.toInt / 2 ^ 64)
        | 0x0B => d = if b = 0 then BitVec.allOnes 64 else a / b
        | 0x0C => d = if b = 0 then BitVec.allOnes 64 else BitVec.ofInt 64 (Int.tdiv a.toInt b.toInt)
        | 0x0D => d = if b = 0 then a else a % b
        | 0x0E => d = if b = 0 then a else BitVec.ofInt 64 (Int.tmod a.toInt b.toInt)
        | 0x10 => d = if a = b then 1 else 0
        | 0x11 => d = if a.toInt < b.toInt then 1 else 0
        | 0x12 => d = if a.toNat < b.toNat then 1 else 0
        | 0x14 => d.toInt = min a.toInt b.toInt
        | 0x15 => d.toInt = max a.toInt b.toInt
        | 0x16 => d.toNat = min a.toNat b.toNat
        | 0x17 => d.toNat = max a.toNat b.toNat
        | 0x18 => d = b
        | 0x19 => d = BitVec.ofNat 64 (fld w 29 32 * 2 ^ 32 + (g.s (fld w 17 6)).toNat % 2 ^ 32)
        | 0x1C => d.toNat = ((List.range 64).filter (fun k => a.getLsbD k)).length
        | 0x1D => d.toNat = 64 ∧ a = 0 ∨ d.toNat < 64 ∧ a.getLsbD (63 - d.toNat) ∧ ∀ k, 63 - d.toNat < k → a.getLsbD k = false
        | 0x1E => d.toNat = 64 ∧ a = 0 ∨ d.toNat < 64 ∧ a.getLsbD d.toNat ∧ ∀ k, k < d.toNat → a.getLsbD k = false
        | _ => True

/-- Floating-point, pair and conversion instructions that issue compute each participating thread's result in ascending
lane order, drawing from the generator of the group's vector engine; under SR the generator is left at the step the
instruction reached.
Rows that complete here: FP32_ARITHMETIC, FP64_ARITHMETIC, PAIR_ARITHMETIC, CONVERSION. -/
def Obligations.FloatingWords : Prop :=
  ∀ (s : State) (core slot : Nat) (w : W64) (g : Group), s.Issues (.group core slot) w g →
    ∀ (c : Instr) (f : Group → LaneRun → Nat → LaneRun),
      ((c = .fp32Arithmetic (.group core slot) w ∧ f = laneFp32 w) ∨
        (c = .fp64Arithmetic (.group core slot) w ∧ f = laneFp64 w) ∨
        (c = .pairArithmetic (.group core slot) w ∧ f = lanePair w) ∨
        (c = .conversion (.group core slot) w ∧ f = laneConvert w)) → c.wf = true →
      ∃ r : LaneRun,
        r = (lanesOf (g.ready.parts (vForm w).g)).foldl (f g.ready) ⟨g.ready, Gen.start ((s.core core).gen (4 + slot % 2))⟩ ∧
        Completes c s
          (if rmOf w = .sr then
            (s.retire (.group core slot) r.g).setCore core ((s.core core).setGen (4 + slot % 2) r.gen.s)
           else s.retire (.group core slot) r.g).pins

/-- Branches that issue: BRA is taken by the whole active mask or not at all; BRR pushes the other threads with the
reconvergence address and counts a divergence; BRI goes to an aligned register value, and with one that is not
aligned raises fault 0x0407 and does not branch (05 R176); CALL saves the return address.
Rows that complete here: BRA, BRR, BRI, CALL. -/
def Obligations.BranchWords : Prop :=
  ∀ (s : State) (i : Issuer) (w : W64) (g : Group), s.Issues i w g →
    ((Instr.bra i w).wf →
      ((guardOf w).pe = false ∨ g.active &&& g.guardMask (guardOf w) = g.active →
        Completes (.bra i w) s ((s.countIssue i).setGroup i { g.ready with pc := branchTarget w g.pc }).pins) ∧
      ((guardOf w).pe = true → g.active &&& g.guardMask (guardOf w) = 0 → g.active ≠ 0 →
        Completes (.bra i w) s ((s.countIssue i).setGroup i { g.ready with pc := g.pc + 8 }).pins)) ∧
    ((Instr.brr i w).wf → i.isCp = false → g.stack.length < 32 → g.active &&& g.guardMask (guardOf w) ≠ 0 →
      Completes (.brr i w) s
        (let t := (s.countIssue i).setGroup i { g.ready with
            active := g.active &&& g.guardMask (guardOf w)
            pc := branchTarget w g.pc
            stack := ⟨reconvTarget w g.pc, g.active, g.active &&& ~~~(g.guardMask (guardOf w)), g.pc + 8⟩ :: g.stack }
         if g.active &&& ~~~(g.guardMask (guardOf w)) ≠ 0 then t.countCore i 2 1 else t).pins) ∧
    ((Instr.bri i w).wf → (g.s (fld w 23 6)).toNat % 8 = 0 →
      Completes (.bri i w) s ((s.countIssue i).setGroup i { g.ready with pc := g.s (fld w 23 6) }).pins) ∧
    ((Instr.bri i w).wf → (g.s (fld w 23 6)).toNat % 8 ≠ 0 →
      Completes (.bri i w) s
        (((s.countIssue i).setGroup i g.ready).raise i 0x0407 0xFF ((g.s (fld w 23 6)).truncate 32)).pins) ∧
    ((Instr.call i w).wf →
      Completes (.call i w) s ((s.countIssue i).setGroup i
        { g.ready.setS (fld w 23 6) (g.pc + 8) with pc := branchTarget w g.pc }).pins)

/-- Instructions that use the mask stack: JOIN at the entry's address runs the threads still pending there, or else
restores the saved ones and pops the entry; BRK takes threads out of the entries below the one it names; EXIT takes
its threads out of every mask and goes on, and with no thread left the group ends.
Rows that complete here: JOIN, BRK, EXIT. -/
def Obligations.MaskStackWords : Prop :=
  ∀ (s : State) (i : Issuer) (w : W64) (g : Group), s.Issues i w g →
    ((Instr.join i w).wf → ∀ e rest, g.stack = e :: rest → e.rpc = g.pc →
      (e.pend ≠ 0 →
        Completes (.join i w) s ((s.countIssue i).setGroup i { g.ready with
          active := e.pend, pc := e.ppc, stack := { e with pend := 0 } :: rest }).pins) ∧
      (e.pend = 0 → e.saved &&& g.launch ≠ 0 →
        Completes (.join i w) s ((s.countIssue i).setGroup i { g.ready with
          active := e.saved &&& g.launch, pc := g.pc + 8, stack := rest }).pins)) ∧
    ((Instr.brk i w).wf → fld w 23 5 + 1 ≤ g.stack.length → g.active &&& ~~~(g.parts (guardOf w)) ≠ 0 →
      Completes (.brk i w) s ((s.countIssue i).setGroup i { g.ready with
        active := g.active &&& ~~~(g.parts (guardOf w))
        pc := g.pc + 8
        stack := (g.stack.take (fld w 23 5)).map (fun e => { e with
            saved := e.saved &&& ~~~(g.parts (guardOf w)), pend := e.pend &&& ~~~(g.parts (guardOf w)) }) ++
          g.stack.drop (fld w 23 5) }).pins) ∧
    ((Instr.exit i w).wf →
      (g.launch &&& ~~~(g.parts (guardOf w)) ≠ 0 → g.active &&& ~~~(g.parts (guardOf w)) ≠ 0 →
        Completes (.exit i w) s ((s.countIssue i).setGroup i { g.ready with
          active := g.active &&& ~~~(g.parts (guardOf w))
          launch := g.launch &&& ~~~(g.parts (guardOf w))
          pc := g.pc + 8
          stack := g.stack.map (fun e => { e with
            saved := e.saved &&& ~~~(g.parts (guardOf w)), pend := e.pend &&& ~~~(g.parts (guardOf w)) }) }).pins) ∧
      (g.launch &&& ~~~(g.parts (guardOf w)) = 0 → i.isCp = false →
        ∃ t, Completes (.exit i w) s t ∧ SMap.find t.co.groups i.key = none))

/-- A word that names no instruction raises fault 0x0401 in the group that issues it: the context of the group is torn
down with that code, the core records the word and the address of the instruction, and nothing else is done. -/
def Obligations.IllegalWordFaults : Prop :=
  ∀ (s : State) (core slot : Nat) (w : W64) (g : Group), core < 256 → slot < 64 → g.part < 64 → g.ctx < 16 →
    s.canIssue (.group core slot) = true → s.group? (.group core slot) = some g → classOf w = none → g.part ≠ 0 →
    s.b F.coreFaultStatus_VALID core = false → (s.ring (16 * g.part + g.ctx)).cmds = [] →
    ∃ t, Completes (.nop (.group core slot) w) s t ∧
      t.f F.tunCtx_STATE (16 * g.part + g.ctx) = 5 ∧ t.f F.tunCtx_FAULT (16 * g.part + g.ctx) = 0x0401 ∧
      t.f F.coreFaultStatus_CODE core = 0x0401 ∧ t.b F.coreFaultStatus_VALID core = true ∧
      t.rget .coreFaultInfo core = w.truncate 32 ∧ t.pair .coreFaultPcLo .coreFaultPcHi core = g.pc ∧
      t.group? (.group core slot) = none

/-! ### Memory accesses (05, 04) -/

/-- Loads and stores that issue, each of whose lanes names a place it may access, none of them behind a far atomic of the
group: a load binds what the places hold and sends for the words of other nodes, a store writes its lanes in
ascending order, counts as retired work when a thread takes part, and sends those of other nodes; both move past
themselves. One that a far atomic of the group precedes on a line waits and is not counted (07 R258).
Rows that complete here: LD, ST. -/
def Obligations.LoadStoreWords : Prop :=
  ∀ (s : State) (i : Issuer) (w : W64) (g : Group), s.Issues i w g →
    ∀ (ps : List (Nat × MemAt)) (t : State),
      ((Instr.ld i w).wf →
        s.memAll i g.ready (mForm w).sp (mForm w).bytes .load (memLanes g.ready (mForm w)) = .ok (ps, t) →
        (t.behindFar g.ready ps = true → Completes (.ld i w) s (s.stall i g.ready).pins) ∧
        (t.behindFar g.ready ps = false → ∀ g' u, t.loadLanes i g.ready (mForm w) (addrOf (memLanes g.ready (mForm w))) ps g.ready = .ok (g', u) →
          Completes (.ld i w) s
            ((if (mForm w).dr then (u.retire i g').hintDraff ps else u.retire i g').loadAway i g.ready (mForm w) ps).pins)) ∧
      ((Instr.st i w).wf →
        s.memAll i g.ready (mForm w).sp (mForm w).bytes .store (memLanes g.ready (mForm w)) = .ok (ps, t) →
        (t.behindFar g.ready ps = true → Completes (.st i w) s (s.stall i g.ready).pins) ∧
        (t.behindFar g.ready ps = false → ∀ u, t.storeLanes i g.ready (mForm w) (addrOf (memLanes g.ready (mForm w))) ps = .ok u →
          (u.group? i).isSome = true →
          Completes (.st i w) s
            (let v := if (memLanes g.ready (mForm w)).isEmpty then u.retire i g.ready
               else (u.retire i g.ready).retireWork g.gtag
             (v.storeAway i g.ready (mForm w) ps).mgmtStores i g.ready (mForm w) ps).pins))

/-- Scalar loads and stores of Local space at an aligned address inside it: a load writes the bytes there, least
significant first, to its register and leaves every memory as it was; a store writes exactly the bytes at that
address, and every other byte of any core's Local space reads, for the partition of the group, as before.
Rows that complete here: LD, ST. -/
def Obligations.LocalScalarAccess : Prop :=
  ∀ (s : State) (core slot : Nat) (w : W64) (g : Group), s.Issues (.group core slot) w g →
    (mForm w).sc = true → (mForm w).sp = 0 →
    ∀ a : Nat, a = (g.s (mForm w).va + (mForm w).ofs).toNat → a % (mForm w).bytes = 0 →
      a + (mForm w).bytes ≤ localSize →
      ((Instr.ld (.group core slot) w).wf → ∃ t g', Completes (.ld (.group core slot) w) s t ∧
        t.group? (.group core slot) = some g' ∧
        g' = { g.ready.setS (mForm w).vd (loadValue (mForm w).sx (s.localRead core g.part a (mForm w).bytes)) with
          pc := g.pc + 8 } ∧ t.mem = s.mem) ∧
      ((Instr.st (.group core slot) w).wf → ∃ t, Completes (.st (.group core slot) w) s t ∧
        t.localRead core g.part a (mForm w).bytes =
          leBytes (mForm w).bytes ((g.s (mForm w).vd).toNat % 2 ^ (8 * (mForm w).bytes)) ∧
        (∀ c b, b < 2 ^ 22 → (c ≠ core ∨ b < a ∨ a + (mForm w).bytes ≤ b) →
          t.localRead c g.part b 1 = s.localRead c g.part b 1) ∧
        t.mem.hbm = s.mem.hbm ∧ t.mem.scratch = s.mem.scratch)

/-- Atomics and locks that issue, each of whose lanes names a word that may be updated: an atomic returns the old values
and writes the results of its near lanes in ascending lane order, and its far lanes go to the homes of their words as
one access; a lock-acquire takes the locks of this device that are free, asks the homes of the others, and ends when
every lane has its status; a lock-release frees the words its threads hold, here and at other nodes. An atomic or a
lock-acquire whose word lies behind a far atomic of the group waits (07 R258).
Rows that complete here: ATOMIC, LACQ, LREL. -/
def Obligations.AtomicAndLockWords : Prop :=
  ∀ (s : State) (i : Issuer) (w : W64) (g : Group), s.Issues i w g →
    let a := aForm w
    let xs := laneAddrs g.ready a.va (lanesOf (g.parts a.g))
    ∀ (ps : List (Nat × MemAt)) (t : State),
      (∀ p ∈ ps, ∀ n o, p.2 ≠ .regs n o) →
      ((Instr.atomic i w).wf → s.memAll i g.ready a.sp (if a.w64 then 8 else 4) .atomic xs = .ok (ps, t) →
        let far := ps.filter (fun p => t.isFar a p.2)
        let near := ps.filter (fun p => !t.isFar a p.2)
        (t.behindFar g.ready near = true → Completes (.atomic i w) s (t.stall i g.ready).pins) ∧
        (t.behindFar g.ready near = false → ∀ g' hit u,
          t.nearAtomics i.core g.ready (fnOf w) a near g.ready false = .ok (g', hit, u) →
          let v := if hit then (u.retire i g').retireWork g.gtag else u.retire i g'
          let x := v.openAccess (farAccess i g.ready (fnOf w) (if a.w64 then 8 else 4) a.vd (if a.w64 then 2 else 1)
            (atomicFp (fnOf w)) true far)
          let y := x.2.sendAtomics g.ready x.1 (fnOf w) a far
          (far = [] → Completes (.atomic i w) s v.pins) ∧
          (far ≠ [] → y.farFits = true → Completes (.atomic i w) s y.pins) ∧
          (far ≠ [] → y.farFits = false → Completes (.atomic i w) s (t.stall i g.ready).pins))) ∧
      ((Instr.lacq i w).wf → s.memAll i g.ready a.sp 8 .lock xs = .ok (ps, t) →
        (t.behindFar g.ready ps = true → Completes (.lacq i w) s (t.stall i g.ready).pins) ∧
        (t.behindFar g.ready ps = false → ∀ ys u, t.firstTries i.core g.ready ps = .ok (ys, u) →
          Completes (.lacq i w) s
            (let lanes := ps.map (fun p => (⟨p.1, g.v64 a.va p.1,
              ((ys.find? (fun y => y.1 == p.1)).map Prod.snd).getD none, none⟩ : LockLane))
             let v := u.retire i { g.ready with wait := .lock a.sp a.vd lanes w }
             let v := if acquired ys then v.retireWork g.gtag else v
             (ps.foldl (fun s (p : Nat × MemAt) =>
               match p.2 with
               | .away cls n o => s.askLock i g.ready p.1 cls n o 0
               | _ => s) v).endLock i).pins)) ∧
      ((Instr.lrel i w).wf → s.releaseWaits i g.ready = false →
        s.memAll i g.ready a.sp 8 .lock xs = .ok (ps, t) →
        ∀ u, t.releases i g.ready ps = (u, none) → Completes (.lrel i w) s (u.retire i g.ready).pins)

/-! ### Tile handles, fragments, engines (06) -/

/-- Handle instructions that issue: THSET builds a legal handle from two registers, THADV moves a set handle whose new
coordinates are in range, THGET copies half of a handle to a register, THDR a word of the header of a tile, which
of a tile at another node is a load of that word.
Rows that complete here: THSET, THADV, THGET, THDR. -/
def Obligations.HandleWords : Prop :=
  ∀ (s : State) (i : Issuer) (w0 w1 : W64) (g : Group), s.Issues2 i w0 w1 [] g →
    let f := tForm w0 w1
    ((Instr.thset i w0 w1).wf → thsetOk (g.s f.sb) = true →
      Completes (.thset i w0 w1) s (s.retire2 i (g.ready.setH f.td (g.s f.sb ++ g.s f.sa))).pins) ∧
    ((Instr.thadv i w0 w1).wf → hFormat (g.h f.ta) ≠ 0 → ∀ h, thadv (g.h f.ta) f.imm = some h →
      Completes (.thadv i w0 w1) s (s.retire2 i (g.ready.setH f.td h)).pins) ∧
    ((Instr.thget i w0 w1).wf →
      Completes (.thget i w0 w1) s
        (s.retire2 i (g.ready.setS f.sd (BitVec.ofNat 64 (hf (g.h f.ta) (64 * (f.opt % 2)) 64)))).pins) ∧
    ((Instr.thdr i w0 w1).wf → hFormat (g.h f.ta) ≠ 0 → (hTile (g.h f.ta) 0 0).placed = true →
      let l := hTile (g.h f.ta) 0 0
      let a := l.hdrAddr + BitVec.ofNat 64 (8 * (f.opt % 2))
      (l.space ≠ 2 ∨ (∀ cls node ofs, s.translate g.part a .load ≠ .at (.remote cls node ofs)) →
        ∀ x0 x1 u, s.seeWord0 i.core g.part l .load = .ok (x0, x1, u) →
          Completes (.thdr i w0 w1) s (u.retire2 i (g.ready.setS f.sd (if f.opt % 2 = 1 then x1 else x0))).pins) ∧
      (l.space = 2 → ∀ cls node ofs, s.translate g.part a .load = .at (.remote cls node ofs) →
        Completes (.thdr i w0 w1) s ((s.retire2 i g.ready).remoteLoad
          (scalarLoad i g.ready f.sd (rLine node ofs) (ofs % 128)) [(rLine node ofs, cls)] i.core).pins))

/-- Tiles built by stores and fragments, in a group whose instruction issues: TOPEN makes an idle tile busy and marks
the handle open with the tile's generation; TSEAL, once the group's stores are performed, seals a tile that the
handle has open; FLD loads the fragment of a tile that reads clean, or unverified where the handle asks for no
verification; FST writes its registers as a tile.
Rows that complete here: TOPEN, TSEAL, FLD, FST. -/
def Obligations.TileWords : Prop :=
  ∀ (s : State) (i : Issuer) (w0 w1 : W64) (g : Group),
    let f := tForm w0 w1
    (s.Issues2 i w0 w1 [] g → hFormat (g.h f.td) ≠ 0 → s.ownHandle (g.h f.td) = true →
      (hTile (g.h f.td) 0 0).placed = true →
      ((Instr.topen i w0 w1).wf →
        ∀ w u, s.beginTile i.core g.part (hTile (g.h f.td) 0 0) (hRole (g.h f.td)) (hVrows (g.h f.td))
            (hVcols (g.h f.td)) 0 0 .tileWrite = .ok (some w, u) →
          Completes (.topen i w0 w1) s
            ((u.retire2 i (g.ready.setH f.td (hSetOpen (g.h f.td) true (hdrGen w)))).retireWork g.gtag).pins) ∧
      ((Instr.tseal i w0 w1).wf → s.fenceOpen i g.ready 3 = false → hOpen (g.h f.td) = true →
        ∀ x u v, s.seeTile i.core g.part (hTile (g.h f.td) 0 0) .tileWrite = .ok (x, u) →
          hdrBusy x.word0 = true → hdrGen x.word0 = hOgen (g.h f.td) →
          u.sealTile i.core g.part (hTile (g.h f.td) 0 0) x = .ok v →
          Completes (.tseal i w0 w1) s
            ((v.retire2 i (g.ready.setH f.td (hSetOpen (g.h f.td) false (hOgen (g.h f.td))))).retireWork
              g.gtag).pins)) ∧
    (s.Issues2 i w0 w1 (fldOps (g.h f.ta) f.vr) g → fragmentHandle (g.h f.ta) = true →
      (f.opt % 2 = 0 ∨ hFormat (g.h f.ta) = 2 ∨ hFormat (g.h f.ta) = 3) → (hTile (g.h f.ta) 0 0).placed = true →
      (Instr.fld i w0 w1).wf →
      ∀ img u, s.readTile i.core g.part (hTile (g.h f.ta) 0 0) (hFormat (g.h f.ta)) (hRole (g.h f.ta)) (hNv (g.h f.ta))
          .tileRead = (.good img, u) →
        Completes (.fld i w0 w1) s (u.retire2 i (g.ready.loadFragment
          (if hNv (g.h f.ta) then
            ⟨mkHeader false (hRole (g.h f.ta)) (hFormat (g.h f.ta)) (hdrVrows img.word0) (hdrVcols img.word0) 0 0 0,
              img.payload, img.scale⟩
           else img) f.vr (f.opt % 2))).pins) ∧
    (s.Issues2 i w0 w1 (fstOps (g.h f.td) f.vr) g → fragmentHandle (g.h f.td) = true →
      (hTile (g.h f.td) 0 0).placed = true → (Instr.fst i w0 w1).wf →
      ∀ u, s.writeTile i.core g.part (hTile (g.h f.td) 0 0) (hRole (g.h f.td)) (hVrows (g.h f.td))
          (hVcols (g.h f.td)) i.core 3 (g.ready.storeFragment (g.h f.td) f.vr) [] .tileWrite = .ok (some u) →
        Completes (.fst i w0 w1) s ((u.retire2 i g.ready).retireWork g.gtag).pins)

/-- Matrix instructions that issue with suitable handles and room in the queue of their engine: the group goes on past
the instruction, and the engine's queue ends with the instruction and the handle values of that moment.
Rows that complete here: MMA, ACCW, TCVT. -/
def Obligations.MatrixWordsQueue : Prop :=
  ∀ (s : State) (core slot : Nat) (w0 w1 : W64) (g : Group),
    let f := tForm w0 w1
    let e := (s.core core).engineOf f.eng
    ((s.core core).me e).length < 4 →
    ∀ t, t = ((s.retire2 (.group core slot) g.ready).setCore core ((s.core core).setMe e ((s.core core).me e ++
        [{ slot := slot, gtag := g.gtag, pc := g.pc, w0 := w0, w1 := w1, td := g.hn f.td, td2 := g.hn (f.td + 1),
           ta := g.hn f.ta, ta2 := g.hn (f.ta + 1), tb := g.hn f.tb, tb2 := g.hn (f.tb + 1), seed := none,
           started := false, wait := TileWait.fresh, held := none }]))).pins →
      (s.Issues2 (.group core slot) w0 w1 (mmaOps w0 w1) g → (Instr.mma (.group core slot) w0 w1).wf →
        mmaBadHandle g.ready w0 w1 = none →
        f.kt ≤ mmaLimit (fnOf w0) (hFormat (g.hn f.ta)) (hFormat (g.hn f.tb)) →
        misplaced ((if f.ar then [] else [(g.hn f.ta, f.kt + 1)]) ++
          (if fnOf w0 == 4 && !f.ar then [(g.hn (f.ta + 1), f.kt + 1)] else []) ++ [(g.hn f.tb, f.kt + 1)] ++
          (if fnOf w0 == 4 then [(g.hn (f.tb + 1), f.kt + 1)] else [])) = none →
        Completes (.mma (.group core slot) w0 w1) s t) ∧
      (s.Issues2 (.group core slot) w0 w1 (accwOps g.ready w0 w1) g → (Instr.accw (.group core slot) w0 w1).wf →
        hFormat (g.hn f.td) ≠ 0 → hFormat (g.hn f.td) ≠ 4 → hFormat (g.hn f.td) ≠ 15 → hSpace (g.hn f.td) = 0 →
        f.opt % 8 + f.kt + 1 ≤ tileCols (hFormat (g.hn f.td)) / 32 →
        (hRole (g.hn f.td) ≠ 1 → misplaced [(g.hn f.td, 1)] = none →
          Completes (.accw (.group core slot) w0 w1) s t) ∧
        (hRole (g.hn f.td) = 1 → f.td ≠ 15 → hFormat (g.hn (f.td + 1)) = 1 → hRole (g.hn (f.td + 1)) = 2 →
          hSpace (g.hn (f.td + 1)) = 0 → misplaced [(g.hn f.td, 1), (g.hn (f.td + 1), 1)] = none →
          Completes (.accw (.group core slot) w0 w1) s t)) ∧
      (s.Issues2 (.group core slot) w0 w1 [] g → (Instr.tcvt (.group core slot) w0 w1).wf →
        tcvtHandle (g.hn f.ta) = true → tcvtHandle (g.hn f.td) = true →
        f.kt + 1 = tcvtRatio (hFormat (g.hn f.ta)) (hFormat (g.hn f.td)) →
        misplaced [(g.hn f.ta, (tcvtRuns (g.hn f.ta) (g.hn f.td)).1), (g.hn f.td, (tcvtRuns (g.hn f.ta) (g.hn f.td)).2)]
          = none → Completes (.tcvt (.group core slot) w0 w1) s t)

/-- Tile-mover instructions that issue past their checks, with room in the queue, enter the queue of their core with the
handle and register values of that moment, under a number of their own, and the group goes on. RANGE instructions
that issue with an aligned address and length and room in the queue: a length above 0 enters the queue as that many
lines.
Rows that complete here: COPY, TRED, TATOM, RANGE_PREFETCH, RANGE_FLUSH, RANGE_INVALIDATE, RANGE_DRAFF. -/
def Obligations.MoverWordsQueue : Prop :=
  (∀ (s : State) (core slot : Nat) (w0 w1 : W64) (g : Group), s.Issues2 (.group core slot) w0 w1 [] g →
    let f := tForm w0 w1
    let n := (g.s f.sa).toNat
    (s.core core).room 6 = true →
    ∀ queued : W64 → Nat → State,
      (∀ sc k, queued sc k =
        let u := s.retire2 (.group core slot) g.ready
        let u := { u with co := { u.co with nextCmd := s.co.nextCmd + 1 } }
        (u.setCore core { s.core core with
          tm := (s.core core).tm ++ [mkCmd s.co.nextCmd slot g.ready w0 w1 sc k] }).pins) →
      ((Instr.copy (.group core slot) w0 w1).wf → s.copyBad g.ready f = none → 1 ≤ n → n ≤ 4096 →
        badStride (g.h f.ta) (g.h f.td) (g.s f.sb) (g.s f.sc) = none → s.postFault g.ready w0 f = none →
        badTile n (mkCmd 0 0 g.ready w0 w1 (g.s f.sc) n).src = none →
        badTile n (mkCmd 0 0 g.ready w0 w1 (g.s f.sc) n).dst = none →
        Completes (.copy (.group core slot) w0 w1) s (queued (g.s f.sc) n)) ∧
      ((Instr.tred (.group core slot) w0 w1).wf → s.tredBad g.ready f = none → 1 ≤ n → n ≤ 4096 →
        badStride (g.h f.ta) (g.h f.td) (g.s f.sb) 0 = none → s.postFault g.ready w0 f = none →
        badTile n (mkCmd 0 0 g.ready w0 w1 0 n).src = none → badTile n (mkCmd 0 0 g.ready w0 w1 0 n).dst = none →
        Completes (.tred (.group core slot) w0 w1) s (queued 0 n)) ∧
      ((Instr.tatom (.group core slot) w0 w1).wf → n % (if f.opt % 2 = 1 then 8 else 4) = 0 →
        s.wordFault w0 false (g.s f.sd) = none →
        Completes (.tatom (.group core slot) w0 w1) s (queued (g.s f.sc) 1))) ∧
  ∀ (s : State) (core slot : Nat) (w0 w1 : W64) (g : Group) (c : Instr),
    (c = .rangePrefetch (.group core slot) w0 w1 ∨ c = .rangeFlush (.group core slot) w0 w1 ∨
      c = .rangeInvalidate (.group core slot) w0 w1 ∨ c = .rangeDraff (.group core slot) w0 w1) → c.wf = true →
    s.Issues2 (.group core slot) w0 w1 [] g →
    let f := tForm w0 w1
    (g.s f.sa).toNat % 128 = 0 → (g.s f.sb).toNat % 128 = 0 → (g.s f.sb).toNat ≠ 0 →
    s.postFault g.ready w0 f = none → (s.core core).room 6 = true →
    Completes c s
      (let u := s.retire2 (.group core slot) g.ready
       let u := { u with co := { u.co with nextCmd := s.co.nextCmd + 1 } }
       (u.setCore core { s.core core with
          tm := (s.core core).tm ++ [mkCmd s.co.nextCmd slot g.ready w0 w1 0 ((g.s f.sb).toNat / 128)] }).pins)

/-- WAITGE on a word that can be read ends at once with result 0 when the word has reached the value, else the group
waits; WAITGE_REACHED ends that wait with result 0; PHASE notes its hint.
Rows that complete here: WAITGE, PHASE, WAITGE_REACHED. -/
def Obligations.WaitAndPhaseWords : Prop :=
  (∀ (s : State) (i : Issuer) (w0 w1 : W64) (g : Group), s.Issues2 i w0 w1 [] g →
    let f := tForm w0 w1
    ((Instr.waitge i w0 w1).wf → s.wordFault w0 (f.opt % 2 == 1) (g.s f.sa) = none →
      ∀ v u, s.waitWord i g.ready (f.opt % 2) (g.s f.sa) = .ok (v, u) →
        Completes (.waitge i w0 w1) s
          (if (g.s f.sb).toNat ≤ v.toNat then u.retire2 i (g.ready.setS f.sd 0)
           else u.retire2 i { g.ready with wait := .waitge (f.opt % 2) (g.s f.sa) (g.s f.sb) f.sd }).pins) ∧
    ((Instr.phase i w0 w1).wf →
      Completes (.phase i w0 w1) s ((s.retire2 i g.ready).addHint g.part g.ctx f.imm).pins)) ∧
  ∀ (s : State) (i : Issuer) (g : Group) (space sd : Nat) (a bound v : W64) (u : State), i.wf = true →
    s.group? i = some g → g.wait = .waitge space a bound sd → s.waitWord i g space a = .ok (v, u) →
    bound.toNat ≤ v.toNat →
    Completes (.waitgeReached i) s (u.setGroup i { g.setS sd 0 with wait := .none }).pins

/-- Events of a group's own work: the last answer of a far atomic writes the old values to the group and closes the
access; a lock-acquire that waits tries its lanes again; a group whose watchdog count has reached 4,096, the lowest of
its core that has, takes fault 0x0306 and its expiry is counted.
Rows that complete here: FAR_ATOMIC_RESPONSE, LOCK_RETRY, GROUP_WATCHDOG_EXPIRY. -/
def Obligations.GroupEvents : Prop :=
  (∀ (s : State) (i : Issuer) (id : Nat) (a : Access) (g : Group), i.wf = true →
    SMap.find s.co.accesses id = some a → a.who = i → a.got.all Option.isSome = true → s.group? i = some g →
    g.gtag = a.gtag →
    Completes (.farAtomicResponse i id) s
      (({ s with co := { s.co with accesses := SMap.drop s.co.accesses id } } : State).setGroup i (a.bind g)).pins) ∧
  (∀ (s : State) (i : Issuer) (g : Group) (space vd : Nat) (lanes : List LockLane) (w : W64), i.wf = true →
    s.group? i = some g → g.wait = .lock space vd lanes w → lanes.any (fun l => l.status.isNone) = true →
    Completes (.lockRetry i) s (s.retryLanes i space lanes).pins) ∧
  ∀ (s : State) (core slot : Nat) (g : Group), core < 256 → slot < 64 → s.group? (.group core slot) = some g →
    4096 ≤ g.wdog → (∀ e ∈ s.co.groups, e.1 / 64 = core → core * 64 + slot ≤ e.1 ∨ e.2.wdog < 4096) → 1 ≤ g.part → g.part < 64 → g.ctx < 16 → s.f F.tunCtx_STATE (16 * g.part + g.ctx) ≠ 5 →
    s.b F.clkStatus_SAFE 0 = false → (s.ring (16 * g.part + g.ctx)).cmds = [] →
    ∃ t, Completes (.groupWatchdogExpiry (.group core slot)) s t ∧
      t.f F.tunCtx_STATE (16 * g.part + g.ctx) = 5 ∧ t.f F.tunCtx_FAULT (16 * g.part + g.ctx) = 0x0306 ∧
      t.eventCount .coreEvtLo .coreEvtHi (core * 8 + 7) =
        (s.eventCount .coreEvtLo .coreEvtHi (core * 8 + 7) + 1) % 2 ^ 48 ∧
      t.group? (.group core slot) = none

/-- Matrix-engine events: the head of an idle engine starts; an attempt that met a busy tile, or an operand's first
checksum mismatch, ends with the instruction back at the head and nothing written; an attempt whose operands read
clean ends with the group's registers and flags, the destination tiles and the engine's generator as the instruction
makes them, and the instruction out of the queue; a result held since step 1 is written; the instruction of a group
that is gone leaves the queue and nothing more.
Rows that complete here: MATRIX_ENGINE_START, ENGINE_ATTEMPT_ABANDON, ENGINE_INSTRUCTION_COMPLETE. -/
def Obligations.EngineEvents : Prop :=
  ∀ (s : State) (core me : Nat) (m : MatCmd), core < 256 → me < 4 → s.engineHead core me = some m →
    (m.started = false → (s.matGroup m).isSome = true → s.issuing = true → s.coreClocked core = true →
      Completes (.matrixEngineStart core me) s (s.setEngineHead core me { m with started := true }).pins) ∧
    (m.started = true → ∀ g, s.headAttempt core me = some (m, g, .busy) →
      Completes (.engineAttemptAbandon core me) s
        (s.setEngineHead core me { m with started := false, wait := s.openWait m.wait }).pins) ∧
    (m.started = true → ∀ g mark l, s.headAttempt core me = some (m, g, .mismatch mark l) → m.wait.mismatch ≠ some mark →
      Completes (.engineAttemptAbandon core me) s
        (s.setEngineHead core me { m with started := false, wait := { m.wait with mismatch := some mark } }).pins) ∧
    (m.started = true → ∀ h, m.held = some h →
      Completes (.engineInstructionComplete core me) s (s.finishHeld core me m h).pins) ∧
    (m.started = true → m.held = none → s.groupOf m.gtag = none →
      Completes (.engineInstructionComplete core me) s (s.popEngine core me).pins) ∧
    (m.started = true → m.held = none → ∀ i g ts, s.groupOf m.gtag = some i → s.group? i = some g → s.attempt core g.part m = .clean ts →
      Completes (.engineInstructionComplete core me) s
        (let r := runMat m g ts ((s.core core).gen me)
         let u := (s.countNv (s.matOperands core g.part m)).confirmRefetch m.wait ts
         let u := (u.setCore core ((s.core core).setGen me r.gen)).writeTargets core g.part (matTargets m) r.tiles []
         ((u.setGroup i (r.g.addFlags r.flags)).popEngine core me).retireWork m.gtag).pins)

/-- Steps of tile readers and writers, for every agent that has one to make: a read of a source tile completes, step 1
of a write begins, a window or a wait that has run out ends with its fault, and in the clock safe state no timeout
runs: nothing changes. A group that waits at a tile instruction whose window has run out while the tile is still busy takes the
reader's fault 0x0102 or the writer's 0x0105, and its context is torn down with it.
Rows that complete here: TILE_WRITE_BEGIN, TILE_WRITER_TIMEOUT, TILE_READ_COMPLETE, TORN_TILE_WINDOW_EXPIRY,
COPY_TIMEOUT, CASK_WAIT_TIMEOUT. -/
def Obligations.TileAgentEvents : Prop :=
  (∀ (s t : State) (a : TileAgent), a.wf = true →
    (s.tileWrite a = some t → Completes (.tileWriteBegin a) s (State.service s t).pins) ∧
    (s.tileRead a = some t → Completes (.tileReadComplete a) s (State.service s t).pins) ∧
    (s.b F.clkStatus_SAFE 0 = false →
      (s.writeExpiry a = some t → Completes (.tileWriterTimeout a) s (State.service s t).pins) ∧
      (s.copyExpires a = some t → Completes (.copyTimeout a) s (State.service s t).pins) ∧
      (s.caskExpiry a = some t → Completes (.caskWaitTimeout a) s (State.service s t).pins) ∧
      ((s.readExpiry a).isSome = true → (s.rasCount 3).readExpiry a = some t →
        Completes (.tornTileWindowExpiry a) s (State.service s t).pins)) ∧
    (s.b F.clkStatus_SAFE 0 = true → ∀ c ∈ [Instr.tileWriterTimeout a, .copyTimeout a, .caskWaitTimeout a,
      .tornTileWindowExpiry a], Completes c s s.pins)) ∧
  ∀ (s t : State) (core slot : Nat) (g : Group), core < 256 → slot < 64 → s.group? (.group core slot) = some g →
    1 ≤ g.part → g.part < 64 → g.ctx < 16 → s.b F.clkStatus_SAFE 0 = false →
    s.f F.tunCtx_STATE (16 * g.part + g.ctx) ≠ 5 → (s.ring (16 * g.part + g.ctx)).cmds = [] →
    (s.writeExpiry (.group core slot) = some t →
      ∃ u, Completes (.tileWriterTimeout (.group core slot)) s u ∧
        u.f F.tunCtx_STATE (16 * g.part + g.ctx) = 5 ∧ u.f F.tunCtx_FAULT (16 * g.part + g.ctx) = 0x0105) ∧
    ((s.readExpiry (.group core slot)).isSome = true → (s.rasCount 3).readExpiry (.group core slot) = some t →
      ∃ u, Completes (.tornTileWindowExpiry (.group core slot)) s u ∧
        u.f F.tunCtx_STATE (16 * g.part + g.ctx) = 5 ∧ u.f F.tunCtx_FAULT (16 * g.part + g.ctx) = 0x0102)

/-- Transfers of the tile mover: a far atomic that was held up starts first, else the next transfer starts at the cursor
of its command, on a core that issues and has room in flight; a transfer that is written, or whose old value has come,
or that has landed ends, and the last one of its command posts; an engine's instruction that runs past its limit
fences the engine's core.
Rows that complete here: TILE_OPERATION_TIMEOUT, TRANSFER_START, TRANSFER_COMPLETE. -/
def Obligations.TransferEvents : Prop :=
  ∀ (s : State) (core : Nat), core < 256 →
    (s.canTransfer core = true → ∀ c x, s.heldTatom core = some (c, x) →
      Completes (.transferStart core) s (s.openXfer core c x).pins) ∧
    (s.canTransfer core = true → s.heldTatom core = none → ∀ c, s.nextTm core = some c → c.total = 0 →
      Completes (.transferStart core) s (s.postCommand core c).pins) ∧
    (s.canTransfer core = true → s.heldTatom core = none → ∀ c, s.nextTm core = some c → c.total ≠ 0 → c.tileDraws = 0 → c.begun = true →
      Completes (.transferStart core) s
        (let x : Xfer := ⟨c.cursor, .reading, TileWait.fresh, c.draws, c.used, false⟩
         let d := { c with cursor := c.cursor + 1, xfers := c.xfers ++ [x] }
         let u := (s.setTm core d).openXfer core d x
         u.setCore core (drainTmSeeds (u.core core) (u.core core).tm)).pins) ∧
    (∀ cmd idx c x, s.xfer core cmd idx = some (c, x) →
      (x.stage = .landed → classOf c.w0 ≠ some .tatom →
        Completes (.transferComplete core cmd idx) s (s.endXfer core cmd idx).pins) ∧
      (∀ old p sc, x.stage = .read old p sc → classOf c.w0 = some .tatom →
        Completes (.transferComplete core cmd idx) s
          ((s.localWrite core c.part c.sd.toNat (leBytes 8 old.toNat)).endXfer core cmd idx).pins) ∧
      (∀ w p sc l u, x.stage = .writing w p sc → classOf c.w0 ≠ some .tatom →
        s.siteOf c.part (c.dst x.idx) .copyDestination = .ok (.here l) →
        s.finishTile core c.part l w p sc .copyDestination = .ok u →
        Completes (.transferComplete core cmd idx) s (u.endXfer core cmd idx).pins)) ∧
    (∀ cmd idx c, s.xfer core cmd idx = none → s.tmCmd core cmd = some c → s.postable core c = true →
      Completes (.transferComplete core cmd idx) s (s.postCommand core c).pins) ∧
    (∀ me m, me < 4 → s.engineHead core me = some m → m.started = true → s.b F.clkStatus_SAFE 0 = false →
      s.corePresent core = true →
      Completes (.tileOperationTimeout core me) s (State.service s (s.fenceCore (s.physIdx core))).pins)

/-! ### Regions, ways and the HBM subsystem (07, 08, 09, 11) -/

/-- A region's owner word (11 R390): a write that would change OWNER or LEND is carried out while the region is neither
valid nor filling and the new owner is 0 or an enabled partition; any other such write leaves both and sets WI, and
changes nothing else; a write that leaves both as they are is not refused, and a 1 in it clears WI.
Rows that complete here: REGION_OWNER_WRITE. -/
def Obligations.RegionOwner : Prop :=
  ∀ (s : State) (n : Nat) (v : W32), n < 1024 →
    ∃ t, Completes (.regionOwnerWrite n v) s t ∧
      (bitsOf v 0 6 ≠ s.f F.rgnown_OWNER n ∨ bitsOf v 6 1 ≠ s.f F.rgnown_LEND n →
        (s.b F.llmRgnDesc_VALID n = false → s.b F.llmRgnDesc_FILLING n = false →
          bitsOf v 0 6 = 0 ∨ s.b F.partCfg_ENABLE (bitsOf v 0 6) = true →
          t.f F.rgnown_OWNER n = bitsOf v 0 6 ∧ t.f F.rgnown_LEND n = bitsOf v 6 1) ∧
        (s.b F.llmRgnDesc_VALID n = true ∨ s.b F.llmRgnDesc_FILLING n = true ∨
            bitsOf v 0 6 ≠ 0 ∧ s.b F.partCfg_ENABLE (bitsOf v 0 6) = false →
          t.f F.rgnown_OWNER n = s.f F.rgnown_OWNER n ∧ t.f F.rgnown_LEND n = s.f F.rgnown_LEND n ∧
          t.b F.rgnown_WI n = true ∧ s.SameBut t (fun r j => r = .rgnown ∧ j = n))) ∧
      (bitsOf v 0 6 = s.f F.rgnown_OWNER n → bitsOf v 6 1 = s.f F.rgnown_LEND n →
        t.f F.rgnown_OWNER n = s.f F.rgnown_OWNER n ∧ t.f F.rgnown_LEND n = s.f F.rgnown_LEND n ∧
        t.f F.rgnown_WI n = (if bitsOf v 31 1 = 1 then 0 else s.f F.rgnown_WI n) ∧
        s.SameBut t (fun r j => r = .rgnown ∧ j = n))

/-- A region's VALID bit: writing 0 to a valid region starts its drain, writing 1 gives it the allotment it had, or a
new one that is zero-filled first, or reports that no place is left. The ends of a region's operations: a drain
leaves it neither valid nor filling, a zero-fill leaves it valid with every byte of it 0.
Rows that complete here: REGION_DISABLE, REGION_ENABLE, REGION_DRAIN_COMPLETE, REGION_ZERO_FILL_COMPLETE. -/
def Obligations.RegionLife : Prop :=
  (∀ (s : State) (n : Nat) (v : W32), n < 1024 →
    (bitsOf v 0 1 = 0 → s.b F.llmRgnDesc_VALID n = true → s.b F.llmRgnDesc_FILLING n = false →
      ∃ t, Completes (.regionDisable n v) s t ∧ t.b F.llmRgnDesc_FILLING n = true ∧ n ∈ t.hbm.drains) ∧
    (bitsOf v 0 1 = 1 → Completes (.regionEnable n v) s (s.writeDesc n v).pins) ∧
    (s.oldAllotFits n = true →
      (s.enableRegion n).b F.llmRgnDesc_VALID n = true ∧ (s.enableRegion n).b F.llmRgnDesc_FILLING n = false) ∧
    (s.oldAllotFits n = false → s.newAllot n = none →
      (s.enableRegion n).b F.llmRgnDesc_NOSPACE n = true ∧ (s.enableRegion n).b F.llmRgnDesc_VALID n = s.b F.llmRgnDesc_VALID n) ∧
    (s.oldAllotFits n = false → ∀ a, s.newAllot n = some a →
      (s.enableRegion n).b F.llmRgnDesc_FILLING n = true ∧ n ∈ (s.enableRegion n).hbm.fills)) ∧
  ∀ (s : State) (n : Nat), n < 1024 → s.hbm.destroying = [] →
    (s.hbm.drains.contains n = true → s.hbm.move = none → s.regionQuiet n = true →
      ∃ t, Completes (.regionDrainComplete n) s t ∧ t.b F.llmRgnDesc_VALID n = false ∧
        t.b F.llmRgnDesc_FILLING n = false ∧ n ∉ t.hbm.drains) ∧
    (s.hbm.fills.contains n = true → s.hbm.wiping.contains n = false →
      ∃ t, Completes (.regionZeroFillComplete n) s t ∧ t.b F.llmRgnDesc_VALID n = true ∧
        t.b F.llmRgnDesc_FILLING n = false ∧ n ∉ t.hbm.fills ∧
        ∀ a, n * 2 ^ 30 ≤ a → a < (n + 1) * 2 ^ 30 → Memory.read t.mem.hbm a = 0)

/-- A slice way's word (08 R300, R276): zero at reset; from a mode other than CACHE, or with MODE and OWNER as they were,
it is taken at once, NIDX in SCRATCH mode alone; from CACHE with another MODE or OWNER the
way is BUSY until its lines are free, and then the word is taken; a write while BUSY, and one of MODE 3 or of an
owner that is no partition, is ignored and sets WI, and changes nothing else.
Rows that complete here: WAY_REASSIGN, WAY_REASSIGN_COMPLETE. -/
def Obligations.WayWords : Prop :=
  ∀ (s : State) (slice way : Nat) (v : W32), slice < 512 → way < 16 →
    let w := slice * 16 + way
    State.reset.rget .sliceWay w = 0 ∧
    (s.b F.sliceWay_BUSY w = false → bitsOf v 0 2 ≠ 3 → bitsOf v 2 6 = 0 ∨ s.b F.partCfg_ENABLE (bitsOf v 2 6) = true →
      (s.f F.sliceWay_MODE w ≠ 1 ∨ bitsOf (s.rget .sliceWay w) 0 8 = bitsOf v 0 8 → ∃ t, Completes (.wayReassign slice way v) s t ∧
        t.f F.sliceWay_MODE w = bitsOf v 0 2 ∧ t.f F.sliceWay_OWNER w = bitsOf v 2 6 ∧
        t.f F.sliceWay_NIDX w = (if bitsOf v 0 2 = 2 then bitsOf v 8 13 else 0) ∧ t.b F.sliceWay_BUSY w = false) ∧
      (s.f F.sliceWay_MODE w = 1 → bitsOf (s.rget .sliceWay w) 0 8 ≠ bitsOf v 0 8 →
        ∃ t, Completes (.wayReassign slice way v) s t ∧ t.b F.sliceWay_BUSY w = true ∧ t.f F.sliceWay_MODE w = 1 ∧
          SMap.find t.mem.reassign w = some v)) ∧
    (s.b F.sliceWay_BUSY w = true ∨ bitsOf v 0 2 = 3 ∨ bitsOf v 2 6 ≠ 0 ∧ s.b F.partCfg_ENABLE (bitsOf v 2 6) = false →
      ∃ t, Completes (.wayReassign slice way v) s t ∧ t.b F.sliceWay_WI w = true ∧
        bitsOf (t.rget .sliceWay w) 0 31 = bitsOf (s.rget .sliceWay w) 0 31 ∧
        s.SameBut t (fun r j => r = .sliceWay ∧ j = w)) ∧
    (SMap.find s.mem.reassign w = some v → s.wayFree w = true →
      ∃ t, Completes (.wayReassignComplete slice way) s t ∧ t.f F.sliceWay_MODE w = bitsOf v 0 2 ∧
        t.f F.sliceWay_OWNER w = bitsOf v 2 6 ∧ t.b F.sliceWay_BUSY w = false)

/-- Range operations of the host: one that its registers name without a fault is started, one that breaks a condition is
refused with its code (in the order of log entry 29), one written while another runs is ignored, and its end clears
BUSY and sets DONE.
Rows that complete here: HOST_RANGE_DONE, HOST_RANGE_FLUSH, HOST_RANGE_INVALIDATE, HOST_RANGE_DRAFF. -/
def Obligations.HostRange : Prop :=
  (∀ (s : State) (v : W32) (c : Instr) (k : Nat),
    ((c = .hostRangeFlush v ∧ k = 1) ∨ (c = .hostRangeInvalidate v ∧ k = 2) ∨ (c = .hostRangeDraff v ∧ k = 3)) →
    bitsOf v 30 1 = 1 → bitsOf v 0 2 = k →
    let u := s.code .llmCtlRangeOp 0 v
    (s.hbm.rangeOp = none → u.rangeRefusal u.rangeNamed = 0 →
      ∃ t, Completes c s t ∧ t.b F.llmCtlRangeStatus_BUSY 0 = true ∧ t.hbm.rangeOp = some u.rangeNamed ∧
        u.rangeNamed.fn = k) ∧
    (s.hbm.rangeOp = none → u.rangeRefusal u.rangeNamed ≠ 0 →
      ∃ t, Completes c s t ∧ t.b F.llmCtlRangeStatus_ERR 0 = true ∧ t.hbm.rangeOp = none) ∧
    (s.hbm.rangeOp.isSome = true → ∃ t, Completes c s t ∧ t.b F.llmCtlFlags_WRITE_IGNORED 0 = true ∧
      t.hbm.rangeOp = s.hbm.rangeOp)) ∧
  ∀ (s : State), s.rangeDone = true → ∃ t, Completes Instr.hostRangeDone s t ∧ t.hbm.rangeOp = none ∧
    t.b F.llmCtlRangeStatus_BUSY 0 = false ∧ t.b F.llmCtlRangeStatus_DONE 0 = true

/-- Retirement of a pseudo-channel: with room for its shares it starts, and on an isolated die it is done at once; a
channel already retired, without room, or of a region that is FILLING is refused with its reason; and at its end the
channel is retired.
Rows that complete here: RETIREMENT_MOVE_COMPLETE, PSEUDO_CHANNEL_RETIRE. -/
def Obligations.Retirement : Prop :=
  (∀ (s : State) (v : W32), bitsOf v 9 1 = 1 → s.f F.hbmCtlRetire_STATE 0 ≠ 1 →
    let pc := bitsOf v 0 9
    let u := s.code .hbmCtlRetire 0 v
    (u.retiredPc pc = true → ∃ t, Completes (.pseudoChannelRetire v) s t ∧ t.f F.hbmCtlRetire_STATE 0 = 3 ∧
      t.f F.hbmCtlRetire_REASON 0 = 1) ∧
    (u.retiredPc pc = false → u.fillingOn pc = false → u.moveShares pc 0 (u.pieces 1024) (u.sharesOn pc) = none →
      ∃ t, Completes (.pseudoChannelRetire v) s t ∧ t.f F.hbmCtlRetire_STATE 0 = 3 ∧ t.f F.hbmCtlRetire_REASON 0 = 2) ∧
    (u.retiredPc pc = false → u.fillingOn pc = true → ∃ t, Completes (.pseudoChannelRetire v) s t ∧
      t.f F.hbmCtlRetire_STATE 0 = 3 ∧ t.f F.hbmCtlRetire_REASON 0 = 3) ∧
    (u.retiredPc pc = false → u.fillingOn pc = false →
      ∀ ts, u.moveShares pc 0 (u.pieces 1024) (u.sharesOn pc) = some ts →
        (s.ras.isolated.contains (pc / 64) = false →
          ∃ t, Completes (.pseudoChannelRetire v) s t ∧ t.f F.hbmCtlRetire_STATE 0 = 1 ∧
            t.hbm.move = some ⟨pc, ts, 0⟩) ∧
        (s.ras.isolated.contains (pc / 64) = true →
          ∃ t, Completes (.pseudoChannelRetire v) s t ∧ t.f F.hbmCtlRetire_STATE 0 = 2 ∧ t.hbm.move = none))) ∧
  ∀ (s : State) (m : RetireMove), m.pc < 512 → s.hbm.move = some m → s.moveRuns = true → s.mem.farOps = [] → s.hbm.deferred = [] →
    ∃ t, Completes Instr.retirementMoveComplete s t ∧ t.f F.hbmCtlRetire_STATE 0 = 2 ∧ t.hbm.move = none ∧
      t.retiredPc m.pc = true

/-- Channel and burst events of a trained stack: a parity error that its retry repairs is counted and no more, one that
it does not retrains the channel, a retrain that fails takes the channel out of service; a soft repair that ends
waits for the next boot in the pending bit; scrub reads and reads of memory make the checks of a burst.
Rows that complete here: SCRUB_READ, MEMORY_READ_COMPLETE, SOFT_PPR_COMPLETE, CA_PARITY_ERROR, CHANNEL_RETRAIN_END. -/
def Obligations.HbmEvents : Prop :=
  (∀ (s : State) (stack chan : Nat), stack < 16 → chan < 16 →
    (s.b F.stackStatus_TRAINED stack = true → s.hbm.training.contains (stack * 16 + chan) = false →
      s.f F.stackStatus_FAILED_CH stack / 2 ^ chan % 2 = 0 →
      Completes (.caParityError stack chan true) s (s.stackCount stack 5).pins ∧
      ∃ t, Completes (.caParityError stack chan false) s t ∧ stack * 16 + chan ∈ t.hbm.training) ∧
    (s.hbm.training.contains (stack * 16 + chan) = true →
      Completes (.channelRetrainEnd stack chan true) s
        ({ s with hbm := { s.hbm with
          training := s.hbm.training.filter (· != stack * 16 + chan) } } : State).pins ∧
      ∃ t, Completes (.channelRetrainEnd stack chan false) s t ∧
        t.f F.stackStatus_FAILED_CH stack = (s.f F.stackStatus_FAILED_CH stack ||| 2 ^ chan) ∧
        stack * 16 + chan ∉ t.hbm.training)) ∧
  (∀ (s : State) (pc : Nat), pc < 512 →
    (∀ row, s.hbm.pprStall.find? (fun x => x.1 == pc) = some (pc, row) → s.hbm.training.contains (pc / 2) = false →
      ∃ t, Completes (.softPprComplete pc) s t ∧ t.b F.stackPcStatus_PPR_PENDING pc = true ∧
        t.f F.stackPcStatus_PPR_LEFT pc = min 15 (SMap.get 0 s.hbm.pprLeft pc - 1) ∧
        t.hbm.pprStall = s.hbm.pprStall.erase (pc, row)) ∧
    (∀ r : BurstReport, s.hbm.scrubDue.any (fun x => x.1 == pc) = true → s.chanStalled pc = false →
      Completes (.scrubRead pc r) s (s.doScrub pc r).pins) ∧
    ∀ (line : Nat) (who : Accessor) (r : BurstReport), (Instr.memoryReadComplete pc line who r).wf = true →
      line < 2 ^ 24 → s.b F.stackStatus_TRAINED (pc / 32) = true → s.chanStalled pc = false →
      s.f F.stackStatus_FAILED_CH (pc / 32) / 2 ^ (pc % 32 / 2) % 2 = 0 →
      Completes (.memoryReadComplete pc line who r) s (State.service s (s.doMemoryRead pc line who r)).pins)

/-! ### Partitions, contexts and their switches (11) -/

/-- Creation and the end of destruction of a partition: a creation that breaks no condition enables it in state ACTIVE,
one that breaks a condition is refused with its reason and leaves it disabled, a destruction runs its steps in
order, and its end leaves the descriptor disabled and vacant.
Rows that complete here: PARTITION_CREATE, PARTITION_DESTROY, PARTITION_DESTROY_END. -/
def Obligations.PartitionLife : Prop :=
  ∀ (s : State) (part : Nat) (v : W32), 1 ≤ part → part < 64 →
    (bitsOf v 0 1 = 1 → s.b F.partCfg_ENABLE part = false → s.partState part = 0 →
      let u := (s.code .partCfg part v).setF F.partCfg_ENABLE part 0
      (u.createRefusal part = 0 → ∃ t, Completes (.partitionCreate part v) s t ∧
        t.b F.partCfg_ENABLE part = true ∧ t.partState part = 1) ∧
      (u.createRefusal part ≠ 0 → ∃ t, Completes (.partitionCreate part v) s t ∧
        t.b F.partCfg_ENABLE part = false ∧ t.partState part = 0 ∧ t.b F.partCmd_REFUSED part = true ∧
        t.f F.partCmd_REASON part = u.createRefusal part)) ∧
    (bitsOf v 0 1 = 0 → s.b F.partCfg_ENABLE part = true → s.partState part ≠ 5 →
      Completes (.partitionDestroy part v) s
        (((s.code .partCfg part v).setF F.partCfg_ENABLE part 1).destroyPart part).pins) ∧
    (s.partState part = 5 → (∀ x ∈ s.hbm.destroying, x.2 ≠ part) →
      ∃ t, Completes (.partitionDestroyEnd part) s t ∧ t.b F.partCfg_ENABLE part = false ∧ t.partState part = 0 ∧
        t.rget .partCtxmask part = 0 ∧ part ∉ t.ras.tables)

/-- Operations on a partition: FREEZE and RESTORE that meet their conditions move its state on, THAW marks it, one that
does not is refused with its reason, and the end of a freeze leaves it FROZEN, that of a restore ACTIVE.
Rows that complete here: FREEZE, THAW, RESTORE, FREEZE_COMPLETE, RESTORE_COMPLETE. -/
def Obligations.PartitionOperations : Prop :=
  ∀ (s : State) (part : Nat) (v : W32), 1 ≤ part → part < 64 →
    let u := s.code .partCmd part v
    (goesOp 0 v = true → u.opRefusal part 0 = 0 → ∃ t, Completes (.partFreeze part v) s t ∧ t.partState part = 2) ∧
    (goesOp 1 v = true → u.opRefusal part 1 = 0 → ∃ t, Completes (.partThaw part v) s t ∧
      SMap.find t.tun.freezing part = some 2) ∧
    (goesOp 2 v = true → u.opRefusal part 2 = 0 → ∃ t, Completes (.partRestore part v) s t ∧ t.partState part = 4) ∧
    (∀ c k, ((c = Instr.partFreeze part v ∧ k = 0) ∨ (c = Instr.partThaw part v ∧ k = 1) ∨
        (c = Instr.partRestore part v ∧ k = 2)) → goesOp k v = true → u.opRefusal part k ≠ 0 →
      ∃ t, Completes c s t ∧ t.b F.partCmd_REFUSED part = true ∧ t.f F.partCmd_REASON part = u.opRefusal part k ∧
        t.partState part = s.partState part ∧ s.SameBut t (fun r j => r = .partCmd ∧ j = part)) ∧
    (s.freezeReady part = true → ∃ t, Completes (.partFreezeComplete part) s t ∧ t.partState part = 3) ∧
    (s.partState part = 4 → ∃ t, Completes (.partRestoreComplete part) s t ∧ t.partState part = 1)

/-- Writes of a context's word: enabling a FAULTED context makes it IDLE with no fault, disabling one that is IDLE or
FAULTED only clears ENABLE, and disabling any other tears it down with code 0 (log entry 95).
Rows that complete here: CONTEXT_ENABLE, CONTEXT_DISABLE. -/
def Obligations.ContextWords : Prop :=
  ∀ (s : State) (part ctx : Nat) (v : W32), 1 ≤ part → part < 64 → ctx < 16 →
    let key := 16 * part + ctx
    (bitsOf v 0 1 = 1 → s.f F.tunCtx_STATE key = 5 → ∃ t, Completes (.contextEnable part ctx v) s t ∧
      t.b F.tunCtx_ENABLE key = true ∧ t.f F.tunCtx_STATE key = 0 ∧ t.f F.tunCtx_FAULT key = 0) ∧
    (bitsOf v 0 1 = 1 → s.f F.tunCtx_STATE key ≠ 5 →
      Completes (.contextEnable part ctx v) s (s.code .tunCtx key v).pins ∧
      (s.code .tunCtx key v).b F.tunCtx_ENABLE key = true ∧
      (s.code .tunCtx key v).f F.tunCtx_STATE key = s.f F.tunCtx_STATE key) ∧
    (bitsOf v 0 1 = 0 → s.f F.tunCtx_STATE key = 0 ∨ s.f F.tunCtx_STATE key = 5 →
      Completes (.contextDisable part ctx v) s (s.code .tunCtx key v).pins ∧
      (s.code .tunCtx key v).b F.tunCtx_ENABLE key = false) ∧
    (bitsOf v 0 1 = 0 → s.f F.tunCtx_STATE key ≠ 0 → s.f F.tunCtx_STATE key ≠ 5 →
      Completes (.contextDisable part ctx v) s
        ((s.code .tunCtx key v).teardown ⟨0, part, ctx, 3, 0xFFFF, 0, 0⟩ false).pins)

/-- What a fault does to a context of a partition whose ring holds no command: it is FAULTED with the code, its FAULTED
bit is set and its RUNNING bit clear, its ring is STOPPED or in ERROR, none of its groups is resident, and the fault
is in the log; a context already FAULTED is not changed. -/
def Obligations.TeardownFaultsContext : Prop :=
  ∀ (s : State) (e : FaultRec) (ringError : Bool), 1 ≤ e.part → e.part < 64 → e.ctx < 16 → 0 < e.code → e.code < 2 ^ 16 →
    let key := 16 * e.part + e.ctx
    (s.f F.tunCtx_STATE key ≠ 5 → (s.ring key).cmds = [] →
      let t := s.teardown e ringError
      t.f F.tunCtx_STATE key = 5 ∧ t.f F.tunCtx_FAULT key = e.code ∧
      (t.f F.partCtxmask_FAULTED e.part).testBit e.ctx = true ∧ (t.f F.partCtxmask_RUNNING e.part).testBit e.ctx = false ∧
      t.f F.ringStatus_STATE key = (if ringError = true ∨ s.f F.ringStatus_STATE key = 3 then 3 else 2) ∧
      (∀ x ∈ t.co.groups, x.1 < 256 * 64 → ¬(x.2.part = e.part ∧ x.2.ctx = e.ctx)) ∧
      t.ras.logSeq = s.ras.logSeq + 1) ∧
    (s.f F.tunCtx_STATE key = 5 → s.teardown e ringError = s)

/-- Switches of a context: a core with nothing outstanding goes on to its save; a drain that runs out of time ends what is
outstanding as response timeouts and tears the context down with fault 0x0601 (log entries 109, 113); saves and restores that can run change the core as they say;
a torn-down context whose transfers have ended stops draining.
Rows that complete here: SWITCH_DRAIN_END, SWITCH_DRAIN_TIMEOUT, SWITCH_SAVE_COMPLETE, SWITCH_RESTORE_COMPLETE,
TEARDOWN_DRAIN_END. -/
def Obligations.SwitchEvents : Prop :=
  ∀ (s : State) (part ctx core : Nat), part < 64 → ctx < 16 → core < 256 →
    let key := 16 * part + ctx
    (s.stageOf key core = some .draining → s.coreQuiet part ctx core = true →
      Completes (.switchDrainEnd part ctx core) s (s.setStage key core .saving).pins) ∧
    (s.stageOf key core = some .draining → s.coreQuiet part ctx core = false → s.b F.clkStatus_SAFE 0 = false →
      Completes (.switchDrainTimeout part ctx core) s
        (let u := (s.openTags part ctx core).foldl State.doRespTimeout s
         u.draw.2.teardown ⟨0x0601, part, ctx, 0, core, 0, u.draw.1.truncate 32⟩ false).pins) ∧
    (s.stageOf key core = some .saving → s.saveReady part ctx core = true →
      Completes (.switchSaveComplete part ctx core) s (s.saveCore part ctx core).pins) ∧
    (s.stageOf key core = some .restoring → s.saveReady part ctx core = true →
      Completes (.switchRestoreComplete part ctx core) s (s.restoreCore part ctx core).pins) ∧
    ((s.ctx key).draining = true → s.ctxDrained part ctx = true →
      Completes (.teardownDrainEnd part ctx) s (s.setCtx key { s.ctx key with draining := false }).pins)

/-! ### Rings and their engines (12, 13) -/

/-- Writes of a ring's control word: enabling a disabled ring starts it afresh, disabling an enabled one abandons what
has not started, and a write of a layout that is not allowed changes only ENABLE and sets WI (log entry 115).
Rows that complete here: RING_ENABLE, RING_DISABLE. -/
def Obligations.RingEnableWords : Prop :=
  ∀ (s : State) (part ctx : Nat) (v : W32), part < 64 → ctx < 16 →
    let key := 16 * part + ctx
    (bitsOf v 0 1 = 1 → s.b F.ringCtrl_ENABLE key = false → s.ringBad key v = false →
      Completes (.ringEnable part ctx v) s ((s.code .ringCtrl key v).startRing key).pins) ∧
    (bitsOf v 0 1 = 1 → s.b F.ringCtrl_ENABLE key = true →
      Completes (.ringEnable part ctx v) s (s.code .ringCtrl key v).pins) ∧
    (bitsOf v 0 1 = 0 → s.b F.ringCtrl_ENABLE key = true →
      Completes (.ringDisable part ctx v) s ((s.code .ringCtrl key v).abandon key).pins) ∧
    (bitsOf v 0 1 = 0 → s.b F.ringCtrl_ENABLE key = false → s.ringBad key v = true →
      ∃ t, Completes (.ringDisable part ctx v) s t ∧ t.b F.ringStatus_WI key = true ∧
        t.f F.ringCtrl_LOG2N key = s.f F.ringCtrl_LOG2N key)

/-- The next command of a ring, once it may be considered and is well formed, in the cycle of a boundary (log entry 117):
TASK, WAITMEM, WRITE, PHASE and NOP act as their rules say, and a started WAITMEM whose word has reached its value
ends; COPY of no element ends at once, and with an element COPY and a sealed load are taken by the lowest free engine
(log entry 31).
Rows that complete here: TASK, WAITMEM, WRITE, RING_PHASE, RING_NOP, RING_COPY, SEALED_PACKAGE_LOAD. -/
def Obligations.RingCommands : Prop :=
  ∀ (s : State) (part ctx : Nat) (c : RingCmd), part < 64 → ctx < 16 →
    let key := 16 * part + ctx
    s.atBoundary = true → s.nextCmd key = some c → s.considered key c = true → c.ok = true →
    (c.op = 0x01 → ∀ t, s.beginTask key c = some t → Completes (.ringTask part ctx) s t.pins) ∧
    (c.op = 0x03 → (∀ x ∈ (s.ring key).cmds, x.started = true → x.op ≠ 0x03 ∨ x.ended.isSome = true) →
      ∀ t, s.beginWaitmem key c = some t → Completes (.ringWaitmem part ctx) s t.pins) ∧
    (∀ t, (s.ring key).cmds.findSome? (fun x =>
        if x.started && x.ended.isNone && x.op == 0x03 then s.retryWaitmem key x else none) = some t →
      Completes (.ringWaitmem part ctx) s t.pins) ∧
    (c.op = 0x04 → ∀ t, s.beginWrite key c = some t → Completes (.ringWrite part ctx) s t.pins) ∧
    (c.op = 0x05 → Completes (.ringPhase part ctx) s ((s.doneNow key c).addHint part ctx (fld (c.w 1) 0 32)).pins) ∧
    (c.op = 0x0F → Completes (.ringNop part ctx) s (s.doneNow key c).pins) ∧
    (c.op = 0x02 → c.w 3 = 0 → Completes (.ringCopy part ctx) s (s.doneNow key c).pins) ∧
    (c.op = 0x02 → c.w 3 ≠ 0 → ∀ e, s.freeEngine s.tun.copies 16 0 = some e →
      Completes (.ringCopy part ctx) s
        (let u := s.markStarted key c.idx
         ({ u with tun := { u.tun with copies := SMap.put u.tun.copies e (c.engine key []) } } : State).pins)) ∧
    (c.op = 0x10 → c.hsrc = false ∨ s.host.linkUp = true ∧ s.hostReady = true → ∀ e host, s.freeEngine s.tun.aes 4 16 = some e →
      Completes (.sealedPackageLoad part ctx host) s
        (let u := s.markStarted key c.idx
         ({ u with tun := { u.tun with aes := SMap.put u.tun.aes e (c.engine key host) } } : State).pins))

/-- Events of a ring: entries that a fetch brings join the ring's commands and HEAD moves to where the fetch ended; an
oldest command that has stalled too long raises 0x030C with the ring in ERROR; a host request that fails raises
0x0207; a task whose instances have ended is finished; an engine that can go on runs on, and so does a sealed load,
until it waits or its command is over.
Rows that complete here: RING_STALL_TIMEOUT, COPY_ENGINE_COMPLETE, SEALED_LOAD_COMPLETE, COMMAND_FETCH_COMPLETE,
TASK_COMPLETE, HOST_REQUEST_FAILURE. -/
def Obligations.RingEvents : Prop :=
  (∀ (s : State) (part ctx : Nat), part < 64 → ctx < 16 →
    let key := 16 * part + ctx
    (∀ entries : List (List W64), (Instr.commandFetchComplete part ctx entries).wf = true →
      s.fetching key = true → s.polled key = true → s.hostReady = true →
      entries.length + s.head key = (s.ring key).fetched →
      Completes (.commandFetchComplete part ctx entries) s (s.takeEntries key entries).pins ∧
      (s.takeEntries key entries).head key = (s.ring key).fetched % 2 ^ 64 ∧
      ((s.takeEntries key entries).ring key).cmds.length = (s.ring key).cmds.length + entries.length) ∧
    (∀ c rest, (s.ring key).cmds = c :: rest → s.b F.clkStatus_SAFE 0 = false → 2 ^ (s.f F.ringCtrl_STALL key + 8) ≤ (s.ring key).stalled →
      Completes (.ringStallTimeout part ctx) s (s.raiseRing key 0x030C 5 (s.entryAddr key c.idx) 0 true).pins) ∧
    (s.hostOpen key = true → Completes (.hostRequestFailure part ctx) s (s.failHost key).pins) ∧
    (∀ n x, x ∈ (s.ctx key).tasks → x.n = n → s.taskEnded part ctx x = true →
      Completes (.taskComplete part ctx n) s (s.finishTask part ctx n).pins)) ∧
  ∀ (s : State) (e : Nat), e < 16 →
    (∀ host again, (Instr.copyEngineComplete e host again).wf = true → s.engineGoes e host again = true →
      Completes (.copyEngineComplete e host again) s
        (State.engineRun (4 * (((SMap.find s.tun.copies e).map EngineCmd.total).getD 0) + 4) e host again s).pins) ∧
    ((Instr.sealedLoadComplete e).wf → (SMap.find s.tun.aes e).isSome = true →
      Completes (.sealedLoadComplete e) s (s.runSealed e).pins)

/-! ### Lines at their homes, and far operations (08) -/

/-- Requests that arrive at the home of a line: one joins the queue behind the request in progress, and with none in
progress it begins; the first reader of a line that no L1 holds is granted it in E, once its directory set has room for the
entry, which until then it waits for; an L1 that evicts a line it
holds in F, E or M holds it no more, and every other copy stays. A read that meets a bad word of the slice's array,
where a way holds the line and no L1 is asked, completes after the word is dealt with (log entry 125): an
uncorrectable one sets the way's bit of RAS_WAY_ADVISE and poisons the line unless it is a clean cache line.
Rows that complete here: GETS, GETM, PUTF, PUTE, PUTM, NON_ALLOCATING_READ, NON_ALLOCATING_WRITE. -/
def Obligations.LineRequests : Prop :=
  (∀ (s : State) (line : Nat) (c : Instr) (r : HomeReq), c.wf = true →
    ((∃ core slot, c = .gets core slot line .good ∧ r = .gets core slot ∧ s.mayAsk core slot line = true ∧
        s.l1State core line = none) ∨
      (∃ core slot, c = .getm core slot line ∧ r = .getm core slot ∧ s.mayAsk core slot line = true ∧
        line < 2 ^ 40 ∧ (s.l1State core line = none ∨ s.l1State core line = some .s ∨ s.l1State core line = some .f)) ∨
      (∃ who, c = .nonAllocatingRead line who ∧ r = .naRead who ∧ s.lineLives line = true) ∨
      ∃ who mask data, c = .nonAllocatingWrite line who mask data ∧ r = .naWrite who mask data ∧
        s.lineLives line = true ∧ line < 2 ^ 40) →
    (∀ q, s.txn line = some q →
      Completes c s (s.setTxn line (some { q with queue := q.queue ++ [r] })).pins ∧
      (s.setTxn line (some { q with queue := q.queue ++ [r] })).txn line = some { q with queue := q.queue ++ [r] }) ∧
    (s.txn line = none → Completes c s (State.serveQueue line [r] s).pins)) ∧
  (∀ (s : State) (core slot line : Nat), (Instr.gets core slot line .good).wf → s.mayAsk core slot line = true →
    s.l1State core line = none → s.txn line = none → line < 2 ^ 40 → s.dirEntry line = none →
    s.poisoned line = false → s.chanFailed line = false →
    (s.dirVictim (s.homeOf line).1 ((s.homeOf line).2 % 256) = none → s.dirFull line = false →
      ∃ t, Completes (.gets core slot line .good) s t ∧ SMap.find t.mem.grants (l1Key core line) = some .e) ∧
    ((s.makeRoom line (.gets core slot)).2 = true →
      Completes (.gets core slot line .good) s
        ((s.makeRoom line (.gets core slot)).1.setTxn line (some ⟨.gets core slot, [], [], false, [], true⟩)).pins)) ∧
  (∀ (s : State) (core slot line : Nat) (rep : ArrayReport), rep ≠ .good → (Instr.gets core slot line rep).wf →
    s.mayAsk core slot line = true → s.l1State core line = none → s.arrayRead core slot line = true →
    Completes (.gets core slot line rep) s (State.serveQueue line [.gets core slot] (s.readArray line rep)).pins) ∧
  (∀ (s : State) (line w : Nat), s.arrayWay line = some w → w < 8192 → (s.homeOf line).1 < 512 →
    ((s.readArray line .uncorrectable).rget .rasWayAdvise (w / 32)).getLsbD (w % 32) = true ∧
    ((∃ k c, s.cacheAt line = some (k, c) ∧ c.data = none ∧ c.busy = 0 ∧
        SMap.find (s.readArray line .uncorrectable).mem.cache k = none) ∨
      (s.readArray line .uncorrectable).mem.poison.contains line = true)) ∧
  ∀ (s : State) (core line : Nat) (c : Instr), c.wf = true → s.fenced core = false →
    ((c = .putf core line ∧ s.l1State core line = some .f) ∨ (c = .pute core line ∧ s.l1State core line = some .e) ∨
      (c = .putm core line ∧ s.l1State core line = some .m)) →
    ∃ t, Completes c s t ∧ t.l1State core line = none ∧
      ∀ k l, l1Key k l ≠ l1Key core line → t.l1State k l = s.l1State k l

/-- Messages of a home that an L1 acts on, and its answer: INV, FWDM and RECALL leave it without the line, FWDS with a
shared copy, SNOOP as it was; each time the answer travels, without data where the L1 had none. A flush leaves a
modified line in E with its data at the home. A grant puts the line into the L1 in the granted state.
Rows that complete here: L1_GRANT, INV, FWDS, FWDM, SNOOP, RECALL, FLUSH_REQUEST, L1_RESPONSE. -/
def Obligations.LineMessages : Prop :=
  (∀ (s : State) (core line : Nat) (q : HomeTxn), s.fenced core = false → s.txn line = some q →
    ∀ (c : Instr) (m : HomeMsg) (after : Option L1State) (data : Bool), c.wf = true → q.sent.contains (core, m) = true →
    ((c = .l1Inv core line ∧ m = .inv ∧ after = none ∧ data = true) ∨
      (c = .l1Fwds core line ∧ m = .fwds ∧ after = (s.l1State core line).map (fun _ => L1State.s) ∧
        data = (s.l1State core line).isSome) ∨
      (c = .l1Fwdm core line ∧ m = .fwdm ∧ after = none ∧ data = (s.l1State core line).isSome) ∨
      (c = .l1Snoop core line ∧ m = .snoop ∧ after = s.l1State core line ∧ data = (s.l1State core line).isSome) ∨
      (c = .l1Recall core line ∧ m = .recall ∧ after = none ∧ data = (s.l1State core line).isSome)) →
    ∃ t, Completes c s t ∧ t.l1State core line = after ∧
      t.txn line = some { q with
        sent := q.sent.erase (core, m), answering := q.answering ++ [core], noData := q.noData || !data }) ∧
  ∀ (s : State) (core line : Nat),
    ((Instr.l1FlushRequest core line).wf → s.fenced core = false → s.l1State core line = some .m →
      s.flushing line = true →
      ∃ t, Completes (.l1FlushRequest core line) s t ∧ t.l1State core line = some .e ∧
        SMap.find t.mem.l1data line = none) ∧
    (∀ st, (Instr.l1Grant core line).wf → SMap.find s.mem.grants (l1Key core line) = some st →
      Completes (.l1Grant core line) s ((s.takeGrant core line st).granted line).pins ∧
      (s.takeGrant core line st).l1State core line = some st ∧
      SMap.find (s.takeGrant core line st).mem.grants (l1Key core line) = none) ∧
    (∀ q, (Instr.l1Response core line).wf → s.txn line = some q → q.answering.contains core = true →
      Completes (.l1Response core line) s
        (State.service s ((s.forget core line).settle line { q with answering := q.answering.erase core })).pins)

/-- Far operations of a slice: the oldest that no other precedes on its line executes, one that had stalled goes on when
it can, and an atomic on a line that is sound leaves the operation's result in the word and returns the word as it
was. A home that waits for an L1 too long poisons the line, faults the access and fences the core.
Rows that complete here: FAR_OPERATION, FAR_OP_RESUME, SNOOP_TIMEOUT. -/
def Obligations.FarOperations : Prop :=
  (∀ (s : State) (slice : Nat) (o : FarOp),
    ((Instr.farOperation slice).wf → s.nextFar slice false = some o →
      Completes (.farOperation slice) s (s.runFar o).pins) ∧
    ((Instr.farOpResume slice).wf → s.nextFar slice true = some o → s.canResume o = true →
      Completes (.farOpResume slice) s (s.runFar o).pins)) ∧
  (∀ (s u : State) (o : FarOp) (fn : Nat) (w64 sat : Bool) (a b c : W64), o.kind = .atomic fn w64 sat a b c →
    o.stalled = false → s.poisoned o.line = false → (s.recallAll o.line true).poisoned o.line = false →
    (s.recallAll o.line true).farLine o o.line = some u →
    let n := if w64 then 8 else 4
    let old := BitVec.ofNat 64 (leNat (((u.curLine o.line).drop (a.toNat % 128)).take n))
    let r := atomicResult w64 fn sat old b c
    s.runFar o = ((u.putHome o.line (patch (u.curLine o.line) (a.toNat % 128) (leBytes n r.1.toNat))).dropFar
      o).farAnswer o w64 old r.2) ∧
  ∀ (s : State) (line core : Nat), (Instr.snoopTimeout line).wf → s.b F.clkStatus_SAFE 0 = false →
    s.silentCore line = some core →
    Completes (.snoopTimeout line) s (State.service s (s.snoopExpired line core)).pins

/-! ### The fabric's messages (10) -/

/-- A message that comes in on an up port with room for it: its flits are counted; one of a reserved type, or on a
channel that is not its type's, is dropped and counted; for another node it goes through transit; for this node its
row acts, or it stays in the receive buffer while it must wait. A device without a node number takes none (log entry
90). After a message of VC 1 to VC 3 what waits in the buffers is tried again (log entry 149).
Rows that complete here: BARRIVE, BRELEASE, DIGEST, MGMT_REGISTER_READ, MGMT_REGISTER_WRITE, MGMT_SPDM_FRAGMENT,
MGMTRSP, RD, WR, ATOM, TRD, TWR, TRED_CONTRIBUTION, RDRSP, WRACK, ATRSP, TWRACK, TRDRSP, ERR. -/
def Obligations.FabricMessages : Prop :=
  (∀ (s : State) (port : Nat) (m : Msg) (c : Instr) (type : BitVec 6) (act : State → Option State),
    (c, type, act) ∈ ([
      (.barrive port m, 0x04, fun s => some (s.barMessage m (fun b => s.childArrived b))),
      (.brelease port m, 0x05, fun s => some (s.barMessage m (fun b => (s.barRelease b).barSettle b))),
      (.digestMsg port m, 0x06, fun s => some (s.collectDigest m.snode.toNat (m.word 0) ((m.head.drop 8).take 32))),
      (.mgmtRegisterRead port m, 0x07, fun s => s.mgmtRead m),
      (.mgmtRegisterWrite port m, 0x07, fun s => s.mgmtWrite m),
      (.mgmtSpdmFragment port m, 0x07, fun s =>
        if s.mgmtOk m then some (s.takeFragment m) else s.refuseIn m 0 0x08)] :
        List (Instr × BitVec 6 × (State → Option State))) →
    c.wf = true → s.comesIn port m type = true →
    let u := s.portCount port 1 m.flits
    (m.vcOf ≠ some m.vc → Completes c s (u.portCount port 5 1).pins) ∧
    (m.vcOf = some m.vc → u.nodeId = none → Completes c s u.pins) ∧
    (m.vcOf = some m.vc → u.nodeId.isSome = true → u.nodeId ≠ some m.dnode.toNat →
      Completes c s (u.transit port m).pins) ∧
    (m.vcOf = some m.vc → u.nodeId = some m.dnode.toNat → u.channelWaits port m = false →
      Completes c s ((act u).getD (u.bufferMsg port m)).pins)) ∧
  ∀ (s : State) (port : Nat) (m : Msg) (c : Instr) (type : BitVec 6) (act : State → Option State),
    (c, type, act) ∈ ([
      (.rd port m, 0x20, fun s => s.serveRd m), (.wr port m, 0x21, fun s => s.serveWr m),
      (.atom port m, 0x22, fun s => s.serveAtom port m), (.trd port m, 0x23, fun s => s.serveTrd m),
      (.twr port m, 0x30, fun s => s.serveTwr port m), (.tredContribution port m, 0x31, fun s => s.serveTred port m),
      (.mgmtrsp port m, 0x08, fun s => some (s.takeResponse m)), (.rdrsp port m, 0x10, fun s => some (s.takeResponse m)),
      (.wrack port m, 0x11, fun s => some (s.takeResponse m)), (.atrsp port m, 0x12, fun s => some (s.takeResponse m)),
      (.twrack port m, 0x13, fun s => some (s.takeResponse m)), (.trdrsp port m, 0x32, fun s => some (s.takeResponse m)),
      (.errRsp port m, 0x14, fun s => some (s.takeResponse m))] :
        List (Instr × BitVec 6 × (State → Option State))) →
    c.wf = true → s.comesIn port m type = true →
    let u := s.portCount port 1 m.flits
    (m.vcOf ≠ some m.vc → Completes c s (u.portCount port 5 1).retryBuffers.pins) ∧
    (m.vcOf = some m.vc → u.nodeId = none → Completes c s u.retryBuffers.pins) ∧
    (m.vcOf = some m.vc → u.nodeId.isSome = true → u.nodeId ≠ some m.dnode.toNat →
      Completes c s (u.transit port m).retryBuffers.pins) ∧
    (m.vcOf = some m.vc → u.nodeId = some m.dnode.toNat → u.channelWaits port m = true →
      Completes c s (u.bufferMsg port m).retryBuffers.pins) ∧
    (m.vcOf = some m.vc → u.nodeId = some m.dnode.toNat → u.channelWaits port m = false →
      Completes c s ((act u).getD (u.bufferMsg port m)).retryBuffers.pins)

/-- What a home of this device answers to requests of other nodes, and what responses bring: a request that no span key
admits is refused with STATUS 2 and counted (log entry 84), a tile whose checksum does not hold with STATUS 5, a
read gets its line, marked cacheable where the region says so and its policy allows it, a write leaves the bytes its
mask enables, and both wait behind an earlier far operation of their node on the line; a response whose tag no request of this device holds
is counted as late; MGMT messages are admitted only without a span key and from a management node. -/
def Obligations.RequestsServed : Prop :=
  (∀ (s : State) (port : Nat) (m : Msg), s.keyPart m = none →
    let refused (vc : Nat) (type : BitVec 6) : Option State :=
      some ((s.ctlCount 2).respond m.snode.toNat m.tag.toNat 0 { Msg.empty with vc := vc, type := type, status := 2 })
    s.serveRd m = refused 1 0x10 ∧ s.serveWr m = refused 1 0x11 ∧ s.serveAtom port m = refused 1 0x12 ∧
      s.serveTrd m = refused 1 0x14 ∧ s.serveTwr port m = refused 1 0x13 ∧ s.serveTred port m = refused 1 0x13 ∧
      (s.mgmtOk m = false → s.mgmtRead m = refused 0 0x08 ∧ s.mgmtWrite m = refused 0 0x08)) ∧
  (∀ (s : State) (port p : Nat) (m : Msg), s.keyPart m = some p → m.intact = false →
    s.serveTwr port m = some ((s.ctlCount 6).respond m.snode.toNat m.tag.toNat p
      { Msg.empty with vc := 1, type := 0x13, status := 5 }) ∧ s.serveTred port m = s.serveTwr port m) ∧
  (∀ (s u : State) (p k ofs : Nat) (m : Msg) (d : List Byte), s.keyPart m = some p →
    (s.translate p m.here .load = .at (.own k ofs) → (s.noteXlat p m.here).farFrom m.snode (gLine ofs) = true →
      s.serveRd m = none) ∧
    (s.translate p m.here .store = .at (.own k ofs) → (s.noteXlat p m.here).farFrom m.snode (gLine ofs) = true →
      s.serveWr m = none) ∧
    (s.translate p m.here .load = .at (.own k ofs) → (s.noteXlat p m.here).farFrom m.snode (gLine ofs) = false →
      (s.noteXlat p m.here).naRead (gLine ofs) = .ok (d, u) →
      s.serveRd m = some (u.respond m.snode.toNat m.tag.toNat p { Msg.empty with
        vc := 1, type := 0x10, rc := u.b F.llmRgnDesc_RCACHE (regionOf ofs) && u.cacheable (gLine ofs),
        head := zeros 32 ++ d })) ∧
    (s.translate p m.here .store = .at (.own k ofs) → (s.noteXlat p m.here).farFrom m.snode (gLine ofs) = false →
      (s.noteXlat p m.here).naMerge (gLine ofs) (BitVec.ofNat 128 (leNat ((m.head.drop 8).take 16)))
        ((m.head.drop 32).take 128) = .ok u →
      s.serveWr m = some (u.respond m.snode.toNat m.tag.toNat p { Msg.empty with vc := 1, type := 0x11 }))) ∧
  ∀ (s : State) (m : Msg), SMap.find s.fab.reqs m.tag.toNat = none → s.takeResponse m = s.ctlCount 1

/-! ### Ports, tables, barriers and marks (10, 11) -/

/-- Writes of a port's control word and of the tables of the fabric: ENABLE 1 to a port out of service starts its
training, RETRAIN to a link in service starts its retrain, and CLEAR clears the longest wait. A route entry takes
the word as its access codes say. A partition key of 0 or one enabled elsewhere is refused with both its flags set
and the key as it was (both flags: log entry 52), any other is taken; a valid span window is not rewritten.
Rows that complete here: PKEY_WRITE, ROUTE_DATA_WRITE, PORT_ENABLE, PORT_RETRAIN, VC0_WAIT_CLEAR, SPAN_WINDOW_WRITE. -/
def Obligations.PortAndTableWords : Prop :=
  (∀ (s : State) (port : Nat) (v : W32), port < 8 →
    (bitsOf v 0 1 = 1 →
      Completes (.portEnable port v) s (State.portsChanged s (s.writePortCtrl port v)).pins ∧
      (s.b F.portCtrl_ENABLE port = false →
        (s.writePortCtrl port v).f F.portStatus_STATE port = 1 ∧ (s.writePortCtrl port v).b F.portCtrl_ENABLE port = true)) ∧
    (bitsOf v 1 1 = 1 →
      Completes (.portRetrain port v) s (State.portsChanged s (s.writePortCtrl port v)).pins ∧
      (bitsOf v 0 1 = 1 → s.b F.portCtrl_ENABLE port = true → s.portUp port = true →
        ((s.writePortCtrl port v).port port).training = true)) ∧
    (bitsOf v 31 1 = 1 → ∃ t, Completes (.vc0WaitClear port v) s t ∧ t.f F.portVc0Wait_MAX port = 0 ∧
      s.SameBut t (fun r j => r = .portVc0Wait ∧ j = port))) ∧
  (∀ (s : State) (v : W32), ∃ t, Completes (.routeDataWrite v) s t ∧
    t.rget .bxfCtlRouteData (s.f F.bxfCtlRouteSel_DNODE 0) =
      Reg.bxfCtlRouteData.written (s.held .bxfCtlRouteData (s.f F.bxfCtlRouteSel_DNODE 0))
        (s.rget .bxfCtlRouteData (s.f F.bxfCtlRouteSel_DNODE 0)) v) ∧
  ∀ (s : State) (n : Nat) (v : W32),
    (n < 64 → s.keyRefused n v = true → ∃ t, Completes (.pkeyWrite n v) s t ∧ t.b F.bxfCtlFlags_PKEY_DUP 0 = true ∧
      t.b F.bxfCtlFlags_WRITE_IGNORED 0 = true ∧ s.SameBut t (fun r j => r = .bxfCtlFlags ∧ j = 0)) ∧
    (n < 64 → s.keyRefused n v = false → ∃ t, Completes (.pkeyWrite n v) s t ∧
      t.rget .bxfCtlPkey n = Reg.bxfCtlPkey.written (s.held .bxfCtlPkey n) (s.rget .bxfCtlPkey n) v) ∧
    (∀ wordB, (Instr.spanWindowWrite n wordB v).wf → s.b F.bxfCtlSpanwinB_VALID n = true →
      ∃ t, Completes (.spanWindowWrite n wordB v) s t ∧ t.b F.bxfCtlFlags_WRITE_IGNORED 0 = true ∧
        s.SameBut t (fun r j => r = .bxfCtlFlags ∧ j = 0)) ∧
    ((Instr.spanWindowWrite n true v).wf → s.b F.bxfCtlSpanwinB_VALID n = false → bitsOf v 31 1 = 1 →
      s.spanOk n v = false → ∃ t, Completes (.spanWindowWrite n true v) s t ∧ t.b F.bxfCtlFlags_SPAN_BAD 0 = true ∧
        s.SameBut t (fun r j => r = .bxfCtlFlags ∧ j = 0))

/-- Events of a port: a training that ends brings the link up at the smaller of the two ends' widths, or leaves it
REFUSED where the peer is not the one expected; a refused port tries again; the third retrain that fails within a
second, and a port without lanes, are FAILED; a lane that fails is noted; the eighth replay of a flit starts a
retrain, and the 17th replay attributed to a lane within 1 ms fails the lane (log entries 85, 86); requests that wait
too long end with fault 0x0601, messages with 0x0605; SPDM fragments that wait too long are dropped.
Rows that complete here: SPDM_FRAGMENT_TIMEOUT, RESP_TIMEOUT, STALL_TIMEOUT, LANE_FAILURE, FLIT_CRC_ERROR,
TRAINING_COMPLETE, TRAINING_RETRY, FABRIC_RETRAIN_FAILURE. -/
def Obligations.PortEvents : Prop :=
  (∀ (s : State) (port : Nat), port < 8 →
    (∀ (peer : Option W16) (peerLanes : Nat) (delay : W16), (Instr.trainingComplete port peer peerLanes delay).wf →
      s.f F.portStatus_STATE port = 1 ∨ (s.port port).training = true → s.b F.clkStatus_SAFE 0 = false →
      peerLanes = 8 ∨ peerLanes = 16 → s.ownLanes port ≠ 0 →
      ∃ t, Completes (.trainingComplete port peer peerLanes delay) s t ∧
        t.f F.portStatus_STATE port =
          (if (s.notePeer port peer).miswired port peer = true then 5
           else if s.ownLanes port = 16 ∧ peerLanes = 16 then 2 else 3)) ∧
    (s.b F.portCtrl_ENABLE port = true → s.f F.portStatus_STATE port = 1 ∨ s.f F.portStatus_STATE port = 5 →
      ∃ t, Completes (.trainingRetry port) s t ∧ t.f F.portStatus_STATE port = 1) ∧
    ((s.port port).training = true →
      (∀ within, Completes (.fabricRetrainFailure port within) s
        (State.portsChanged s (s.doRetrainFailure port within)).pins) ∧
      (2 ≤ (s.port port).retrainFails → (s.doRetrainFailure port true).f F.portStatus_STATE port = 4)) ∧
    (∀ lane, (Instr.flitCrcError port lane).wf → s.linked port = true → (s.port port).training = false →
      s.carries port lane = true →
      Completes (.flitCrcError port lane) s (State.portsChanged s (s.doCrcError port lane)).pins ∧
      ((SMap.get [] (s.port port).laneReplays lane).length < 16 →
        ∃ t, Completes (.flitCrcError port lane) s t ∧
          (7 ≤ (s.port port).replay → (t.port port).training = true) ∧
          ((s.port port).replay < 7 → (t.port port).replay = (s.port port).replay + 1) ∧
          t.eventCount .portEvtLo .portEvtHi (port * 6 + 2) =
            (s.eventCount .portEvtLo .portEvtHi (port * 6 + 2) + 1) % 2 ^ 48) ∧
      ∀ u : State, u = ((s.portCount port 2 1).setPort port { s.port port with replay := (s.port port).replay + 1 }).tick →
        (∀ x ∈ SMap.get [] (s.port port).laneReplays lane, u.tun.tb.toNat ≤ x + 1000000) →
        16 ≤ (SMap.get [] (s.port port).laneReplays lane).length → lane < 32 → s.laneAlive (port / 2) lane = true →
        ∃ t, Completes (.flitCrcError port lane) s t ∧
          t.f F.portLanes_FAILED port = (s.f F.portLanes_FAILED port ||| 2 ^ (lane % 16))) ∧
    (∀ vc, (Instr.stallTimeout port vc).wf → s.stalls port vc = true → s.b F.clkStatus_SAFE 0 = false →
      Completes (.stallTimeout port vc) s
        ((((s.port port).queued.filter (fun q => q.msg.vc == vc)).foldl (fun s q => s.discardStalled port vc q.msg)
          (s.setPort port { s.port port with
            queued := (s.port port).queued.filter (fun q => q.msg.vc != vc) })).releaseHeld).pins)) ∧
  (∀ (s : State) (engine lane : Nat), (Instr.laneFailure engine lane).wf → s.laneAlive engine lane = true →
    Completes (.laneFailure engine lane) s (State.portsChanged s (s.doLaneFailure engine lane)).pins ∧
    (engine < 4 → lane < 32 →
      (s.doLaneFailure engine lane).f F.portLanes_FAILED (2 * engine + lane / 16) =
        (s.f F.portLanes_FAILED (2 * engine + lane / 16) ||| 2 ^ (lane % 16)))) ∧
  ∀ s : State, s.b F.clkStatus_SAFE 0 = false →
    (∀ tag r, (Instr.respTimeout tag).wf → s.sentReq tag = some r →
      Completes (.respTimeout tag) s ((((((s.ctlCount 0).tick.restTag tag).dropReq tag).failReq r 0x0601
        (routeInfo r.msg.dnode.toNat r.msg.type.toNat)).releaseHeld).pins)) ∧
    ∀ snode msgno, (Instr.spdmFragmentTimeout snode msgno).wf →
      s.fab.frags.any (fun f => f.snode == snode && f.msgno == msgno && !f.whole) = true →
      ∃ t, Completes (.spdmFragmentTimeout snode msgno) s t ∧
        ∀ f, f ∈ t.fab.frags ↔ f ∈ s.fab.frags ∧ ¬(f.snode = snode ∧ f.msgno = msgno)

/-- Barrier units: enabling one clears its counts and its round; an arrival that does not complete LOCAL is counted; one
of a partition that does not own the unit, or at a unit out of service, changes nothing.
Rows that complete here: BXF_ARRIVE, BXF_BAR_ARRIVE, BARRIER_UNIT_ENABLE. -/
def Obligations.BarrierUnits : Prop :=
  ∀ (s : State) (b : Nat) (v : W32), b < 64 →
    (bitsOf v 31 1 = 1 → Completes (.barrierUnitEnable b v) s (s.writeBarCfg b v).pins ∧
      (s.b F.barCfg_ENABLE b = false → bitsOf v 16 1 = 0 → 0 < bitsOf v 21 10 →
        (s.writeBarCfg b v).f F.barStatus_LCOUNT b = 0 ∧ (s.writeBarCfg b v).f F.barStatus_CCOUNT b = 0 ∧
        (s.writeBarCfg b v).round b = 0 ∧ (s.writeBarCfg b v).b F.barCfg_ENABLE b = true)) ∧
    (s.b F.barCfg_ENABLE b = true → Completes (.bxfBarArrive b v) s (s.barArrived b).pins) ∧
    (s.b F.barCfg_ENABLE b = false → Completes (.bxfBarArrive b v) s s.pins) ∧
    (∀ who g, (Instr.bxfArrive who b v).wf → s.group? who = some g →
      (s.f F.barOwner_PARTITION b = g.part → s.b F.barCfg_ENABLE b = true →
        Completes (.bxfArrive who b v) s (s.barArrived b).pins) ∧
      (s.f F.barOwner_PARTITION b ≠ g.part ∨ s.b F.barCfg_ENABLE b = false →
        Completes (.bxfArrive who b v) s s.pins)) ∧
    (s.f F.barStatus_LCOUNT b + 1 < s.f F.barCfg_LOCAL b →
      (s.barArrived b).f F.barStatus_LCOUNT b = s.f F.barStatus_LCOUNT b + 1 ∧
      (s.barArrived b).round b = s.round b)

/-- Marks, delays, the digest and the boundary: a mark on VC 0 is counted, and taken where the port carries marks, one on
another channel is dropped and counted; a frame whose start or CRC fails changes nothing; a delay request is answered
with its three times, a response that answers the last request leaves half the round trip as the port's delay; a
captured digest is computed and sent; a boundary, with the power of its beat within what the power controller
allowed, moves TIMEBASE to the next multiple of the beat length (and past it by a step that waits), and in the clock
safe state does nothing else.
Rows that complete here: BEAT_BOUNDARY, DIGEST_COMPUTED, MARK, BEAT_IN_FRAME, DLYREQ, DLYRSP. -/
def Obligations.MarksAndBoundary : Prop :=
  (∀ (s : State) (port : Nat) (m : Msg) (arrival : W64), (Instr.beatMark port m arrival).wf →
    s.comesIn port m 0x01 = true →
    let u := s.portCount port 1 m.flits
    (m.vcOf ≠ some m.vc → Completes (.beatMark port m arrival) s (u.portCount port 5 1).pins) ∧
    (m.vcOf = some m.vc → s.b F.portCfg_MARKS port = true →
      Completes (.beatMark port m arrival) s (u.takeMark port (markOf m.head) arrival).pins) ∧
    (m.vcOf = some m.vc → s.b F.portCfg_MARKS port = false → Completes (.beatMark port m arrival) s u.pins)) ∧
  (∀ (s : State) (frame : List Byte) (arrival : W64), (Instr.beatInFrame frame arrival).wf →
    (frameMark frame = none → Completes (.beatInFrame frame arrival) s s.pins) ∧
    (∀ b, frameMark frame = some b → Completes (.beatInFrame frame arrival) s (s.takeMark 8 b arrival).pins)) ∧
  (∀ (s : State) (port : Nat) (m : Msg), port < 8 → m.vc = 0 →
    (∀ t2 t3, (Instr.dlyreq port m t2 t3).wf → m.type = 0x02 → s.comesIn port m 0x02 = true →
      Completes (.dlyreq port m t2 t3) s
        (let u := s.portCount port 1 m.flits
         u.transmit port { Msg.empty with
          vc := 0, type := 0x03, dnode := m.snode, snode := u.snode, tag := m.tag, hops := BitVec.ofNat 5 u.hopLimit,
          head := leBytes 8 (m.word 0).toNat ++ leBytes 8 t2.toNat ++ leBytes 8 t3.toNat }).pins) ∧
    (∀ t4, (Instr.dlyrsp port m t4).wf → m.type = 0x03 → s.comesIn port m 0x03 = true → (s.port port).t1 = some (m.word 0) →
      ∃ t, Completes (.dlyrsp port m t4) s t ∧ (t.port port).t1 = none ∧
        t.f F.portDelay_DELAY port = ((t4 - m.word 0) - (m.word 16 - m.word 8)).toNat / 2 % 2 ^ 16)) ∧
  ∀ (s : State),
    (s.fab.digest.isSome = true → Completes Instr.digestComputed s s.doDigest.pins) ∧
    (s.beats = true → ∀ m, (Instr.beatBoundary m).wf → s.keepsBudget m = true →
      (s.b F.clkStatus_SAFE 0 = true → Completes (.beatBoundary m) s
        (s.advanceTime.setMark { s.advanceTime.fab.mark with hold := false }).pins) ∧
      (s.b F.clkStatus_SAFE 0 = false →
        Completes (.beatBoundary m) s (State.service s ((s.advanceTime.boundary m).tripHot m)).pins)) ∧
    s.advanceTime.tun.tb = BitVec.ofNat 64 ((s.tun.tb.toNat / s.len + 1) * s.len + s.fab.mark.step)

/-! ### Register writes, the host's windows and links (12, 16) -/

/-- Register writes: from a requester that can reach the device, a place that its window holds takes the write through
the place's alias; a function's write to a place that its window does not hold is dropped; one to a gated unit is
noted as a bus error; a group's store to no place faults 0x0213. A write of an always-on register is latched, and
takes effect with the copies at the next always-on edge (log entries 53, 56).
Rows that complete here: AON_WRITE_APPLY, REGISTER_WRITE. -/
def Obligations.RegisterWrites : Prop :=
  (∀ (s : State) (who : Requester) (a : RegAddr) (v : W32), (Instr.registerWrite who a v).wf → s.canWrite who = true →
    let w := s.windowOf who
    let x := s.reach w a.block a.inst a.off
    (s.gatedInfo w a.block a.inst a.off = none →
      (x ≠ .outside → x ≠ .absent → Completes (.registerWrite who a v) s (State.service s (s.writeAt x a.via v)).pins) ∧
      (x = .outside ∨ x = .absent →
        (∀ n, who = .fn n → Completes (.registerWrite who a v) s s.pins) ∧
        (∀ core slot, who = .group core slot → Completes (.registerWrite who a v) s
          (State.service s (s.raise (.group core slot) 0x0213 0xFF (BitVec.ofNat 32 (regBar0 w a)))).pins))) ∧
    (∀ info n, s.gatedInfo w a.block a.inst a.off = some info → who = .fn n →
      Completes (.registerWrite who a v) s (State.service s (s.noteFnErr n 0x0701 (regBar0 w a) true)).pins)) ∧
  (∀ (s : State) (r : Reg) (i : Nat) (via : Alias) (v : W32), r.info.blk = .tunAon →
    s.writeAt (.reg r i) via v = s.latchAon r i via v ∧ (s.latchAon r i via v).regs = s.regs ∧
    ∃ e ∈ (s.latchAon r i via v).aon, e.key = r.key i) ∧
  ∀ s : State, s.boot.aux = true → s.clk.failed.contains .iosc = false →
    Completes Instr.aonWriteApply s ({ (s.aon.foldl State.applyAon s).refreshAon with aon := [] } : State).pins

/-- Accesses through a function's window: with no partition bound (or while IDE turns requests away) a read is answered
Unsupported Request and a write dropped; a read returns the data of its pieces, poisoned data or Completer Abort; an
access that faults is noted in PCI_FN_ERR, the first one kept (log entries 37, 38). An AtomicOp is answered
Unsupported Request.
Rows that complete here: WINDOW_READ, WINDOW_WRITE, PCIE_ATOMICOP. -/
def Obligations.WindowAccesses : Prop :=
  ∀ (s : State) (fn : Nat) (ofs : W64), s.hostUp = true →
    ((Instr.pcieAtomicop fn ofs).wf → Completes (.pcieAtomicop fn ofs) s (s.emit (.unsupported fn)).pins) ∧
    (∀ len, (Instr.windowRead fn ofs len).wf → len ≠ 0 → ofs.toNat + len ≤ s.windowSize fn →
      (s.windowPart fn = none → Completes (.windowRead fn ofs len) s (s.emit (.unsupported fn)).pins) ∧
      ∀ p, s.windowPart fn = some p →
        let got := State.windowGet fn p (linePieces (len / 128 + 2) ofs.toNat len) s
        (∀ d t, got = .ok (d, t) → Completes (.windowRead fn ofs len) s (t.emit (.readData fn d)).pins) ∧
        (got = .error 0x0220 → Completes (.windowRead fn ofs len) s (s.emit (.poisoned fn)).pins) ∧
        (∀ c, got = .error c → c ≠ 0 → c ≠ 0x0220 →
          Completes (.windowRead fn ofs len) s ((s.noteFnErr fn c ofs.toNat false).emit (.abort fn)).pins)) ∧
    (∀ data, (Instr.windowWrite fn ofs data).wf → data ≠ [] → ofs.toNat + data.length ≤ s.windowSize fn →
      (s.windowPart fn = none → Completes (.windowWrite fn ofs data) s s.pins) ∧
      ∀ p, s.windowPart fn = some p →
        let put := State.windowPut fn p (linePieces (data.length / 128 + 2) ofs.toNat data.length) data s
        (∀ t, put = .ok t → Completes (.windowWrite fn ofs data) s t.pins) ∧
        (∀ c, put = .error c → c ≠ 0 → Completes (.windowWrite fn ofs data) s (s.noteFnErr fn c ofs.toNat true).pins)) ∧
    (∀ c o w, fn < 64 → s.b F.fnErr_VALID fn = true →
      (s.noteFnErr fn c o w).f F.fnErr_CODE fn = s.f F.fnErr_CODE fn ∧ (s.noteFnErr fn c o w).b F.fnErr_MORE fn = true)

/-- The link, its functions and what rides on them: the link comes up with its width and rate and goes down with every
stream of IDE; on an endpoint that answers, function resets and VF Enable act on their functions (VF Enable not in
recovery); mailboxes are aborted and describe themselves; IDE streams are keyed, taken into use, and leave Secure when
their integrity fails; an invalidation drops the entries of its scope and is busy until no access holds them and it is
done (log entries 37, 75, 76).
Rows that complete here: INVALIDATION_DONE, PF_FLR, VF_ENABLE_SET, VF_ENABLE_CLEAR, PCIE_LINK_DOWN,
TRANSLATION_INVALIDATE, VF_FLR, DOE_ABORT, DOE_DISCOVERY, PCIE_LINK_UP, IDE_KM, IDE_INTEGRITY_FAILURE. -/
def Obligations.LinkAndFunctions : Prop :=
  ∀ (s : State),
    (∀ lanes rate, s.trainsLink = true → lanes ∈ [1, 2, 4, 8] → rate ∈ [25, 50, 80, 160, 320] →
      Completes (.pcieLinkUp lanes rate) s
        ({ s with host := { s.host with linkUp := true, lanes := lanes, rate := rate } } : State).pins) ∧
    (s.host.linkUp = true →
      Completes Instr.pcieLinkDown s s.dropLink.pins ∧ (s.hostOpen = (fun _ => false) → s.dropLink.host.linkUp = false ∧
        s.dropLink.host.ide = [])) ∧
    (s.hostUp = true →
      (∃ t, Completes Instr.pfFlr s t ∧ t.host.vfEnable = false ∧ t.host.ide = []) ∧
      (s.host.vfEnable = false → s.boot.recovery = false → ∃ t, Completes Instr.vfEnableSet s t ∧
        t.host.vfEnable = true ∧ (t.fn 1).msixCount = max 1 (s.f F.pciCtlMsixVf_COUNT 1)) ∧
      (s.host.vfEnable = true →
        (∃ t, Completes Instr.vfEnableClear s t ∧ t.host.vfEnable = false) ∧
        ∀ n, 0 < n → n < 64 → Completes (.vfFlr n) s (s.resetVf n).pins) ∧
      (∀ fn, fn < 64 → Completes (.doeDiscovery fn) s (s.emit (.doe fn (Config.doeDiscovery fn))).pins ∧
        ∃ t, Completes (.doeAbort fn) s t ∧ (t.fn fn).doeError = false) ∧
      (∀ m, (Instr.ideKm m).wf → s.sec.sessions.contains (.doe 0) = true → m.stream < 5 →
        (m.activate = false → ∃ t, Completes (.ideKm m) s t ∧ t.ideStream m.stream = some ⟨m.stream, m.key, false⟩) ∧
        (m.activate = true → ∀ x, s.ideStream m.stream = some x →
          ∃ t, Completes (.ideKm m) s t ∧ t.ideStream m.stream = some { x with secure := true }))) ∧
    (∀ n, (Instr.ideIntegrityFailure n).wf → s.host.ide.any (fun x => x.stream == n && x.secure) = true →
      ∃ t, Completes (.ideIntegrityFailure n) s t ∧ t.host.ide.any (fun x => x.stream == n && x.secure) = false ∧
        t.out = .aer n :: s.out) ∧
    (∀ v : W32, bitsOf v 30 1 = 1 →
      (s.b F.xlatInvStatus_BUSY 0 = false → ∃ t, Completes (.translationInvalidate v) s t ∧
        t.b F.xlatInvStatus_BUSY 0 = true) ∧
      (s.b F.xlatInvStatus_BUSY 0 = true → ∃ t, Completes (.translationInvalidate v) s t ∧
        t.b F.xlatInvStatus_WI 0 = true ∧ t.tun = s.tun)) ∧
    (s.b F.xlatInvStatus_BUSY 0 = true → s.invalHeld = false → ∃ t, Completes Instr.invalidationDone s t ∧
      t.b F.xlatInvStatus_BUSY 0 = false ∧ t.b F.xlatInvStatus_DONE 0 = true)

/-! ### Trust (13) -/

/-- SPDM requests that reach the responder: those of the standard are answered with their response code; those that only
a secure session carries are answered so inside one and with an error outside; END_SESSION ends the session; signed
ones take the next index, and KEY_EXCHANGE opens the session; only the first certificate chain is served (log
entries 80, 81).
Rows that complete here: GET_VERSION, GET_CAPABILITIES, NEGOTIATE_ALGORITHMS, GET_DIGESTS, FINISH, HEARTBEAT,
KEY_UPDATE, END_SESSION, CHUNK_SEND, CHUNK_GET, GET_CERTIFICATE, CHALLENGE, KEY_EXCHANGE, GET_MEASUREMENTS. -/
def Obligations.SpdmRequests : Prop :=
  ∀ (s : State) (via : SpdmPath) (body : List Byte), s.spdmReach via = true →
    (∀ (c : Instr) (req rsp : Nat), (c, req, rsp) ∈ ([
        (.getVersion via body, 0x84, 0x04), (.getCapabilities via body, 0xE1, 0x61),
        (.negotiateAlgorithms via body, 0xE3, 0x63), (.getDigests via body, 0x81, 0x01),
        (.chunkSend via body, 0x85, 0x05), (.chunkGet via body, 0x86, 0x06)] : List (Instr × Nat × Nat)) → c.wf →
      Completes c s (s.spdmAnswer via req rsp body).pins) ∧
    (∀ (c : Instr) (req rsp : Nat), (c, req, rsp) ∈ ([
        (.spdmFinish via body, 0xE5, 0x65), (.spdmHeartbeat via body, 0xE8, 0x68),
        (.keyUpdate via body, 0xE9, 0x69)] : List (Instr × Nat × Nat)) → c.wf →
      (s.sec.sessions.contains via = true → Completes c s (s.spdmAnswer via req rsp body).pins) ∧
      (s.sec.sessions.contains via = false → Completes c s (s.spdmError via 4).pins)) ∧
    ((Instr.endSession via body).wf → s.sec.sessions.contains via = true →
      ∃ t, Completes (.endSession via body) s t ∧ t.sec.sessions.contains via = false) ∧
    (∀ slot ofs len, (Instr.getCertificate via slot ofs len).wf →
      (slot = 0 → Completes (.getCertificate via slot ofs len) s (s.spdmSend via 0x02
        (Config.spdmBody 0x82 (leBytes 1 0 ++ leBytes 2 ofs ++ leBytes 2 len))).pins) ∧
      (slot ≠ 0 → Completes (.getCertificate via slot ofs len) s (s.spdmError via 1).pins)) ∧
    (body.length ≤ 65524 → ∀ i u, s.sign = .at i u →
      ((Instr.spdmChallenge via body).wf → Completes (.spdmChallenge via body) s
        (u.spdmSend via 0x03 (Config.spdmBody 0x83 body ++ Config.xmssSign i (Config.spdmBody 0x83 body))).pins) ∧
      ((Instr.keyExchange via body).wf → ∃ t, Completes (.keyExchange via body) s t ∧
        t.sec.sessions.contains via = true) ∧
      u.sec.idxNext = s.sec.idxNext + 1 ∧ i = s.sec.idxNext) ∧
    (∀ index, (Instr.getMeasurements via index false body).wf → body.length ≤ 65524 →
      Completes (.getMeasurements via index false body) s (s.spdmSend via 0x60
        (Config.spdmBody 0xE0 (leBytes 1 index ++ body ++ s.measurements via index))).pins)

/-- The Keg: a command goes out on a free link and its answer comes with the MAC over nonce and command; READ changes
nothing there, ADVANCE raises a counter that the new value exceeds, RESERVE takes 1,024 indices while they last,
SEED is served once; a response whose MAC, nonce or command is another is rejected and the command stays
outstanding.
Rows that complete here: READ, ADVANCE, RESERVE, SEED_COMMAND, KEG_RESPONSE. -/
def Obligations.KegCommands : Prop :=
  (∀ (s : State) (nonce : BitVec 128), s.kegFree = true →
    (∀ n, (Instr.kegRead n nonce).wf →
      Completes (.kegRead n nonce) s (State.service s (s.kegSend (.read n) nonce)).pins) ∧
    (∀ n v, (Instr.kegAdvance n v nonce).wf →
      Completes (.kegAdvance n v nonce) s (State.service s (s.kegSend (.advance n v) nonce)).pins) ∧
    Completes (.kegReserve nonce) s (State.service s (s.kegSend .reserve nonce)).pins ∧
    Completes (.kegSeed nonce) s (State.service s (s.kegSend .seed nonce)).pins) ∧
  (∀ (s : State) (c : KegCmd) (nonce : BitVec 128), (s.kegSend c nonce).sec.kegBusy = some (c, nonce) ∧
    (s.kegSend c nonce).out = .keg c (s.kegRun c).1 (kegMac nonce c (s.kegRun c).1) :: s.out) ∧
  (∀ (s : State) (n x : Nat) (v : W64), n < 5 → s.counter n = some x →
    (s.kegRun (.read n)).2 = s ∧ (s.kegRun (.advance n v)).2.counter n = some (max x v.toNat)) ∧
  (∀ (s : State) (x y : Nat), s.counter 2 = some x → s.counter 4 = some y → y < 2 ^ 64 - 1 →
    (x ≤ 2 ^ 40 - 1024 → (s.kegRun .reserve).1 = .value (BitVec.ofNat 64 x) ∧
      (s.kegRun .reserve).2.counter 2 = some (x + 1024) ∧ (s.kegRun .reserve).2.counter 4 = some (y + 1)) ∧
    (2 ^ 40 - 1024 < x → (s.kegRun .reserve).1 = .exhausted ∧ (s.kegRun .reserve).2 = s)) ∧
  (∀ s : State, (s.sec.seedServed = true → (s.kegRun .seed).1 = .refused ∧ (s.kegRun .seed).2 = s) ∧
    (s.sec.seedServed = false → (s.kegRun .seed).1 = .seedWrapped ∧ (s.kegRun .seed).2.sec.seedServed = true)) ∧
  ∀ (s : State) (r : KegReply) (c : KegCmd) (nonce : BitVec 128), (Instr.kegResponse r).wf → s.sec.kegBusy = some (c, nonce) →
    (r.nonce = nonce → r.cmd = c → r.mac = kegMac nonce c r.result →
      Completes (.kegResponse r) s (State.service s (s.kegTake c r.result)).pins) ∧
    (r.nonce ≠ nonce ∨ r.cmd ≠ c ∨ r.mac ≠ kegMac nonce c r.result → Completes (.kegResponse r) s s.pins)

/-- Firmware, records and keys: GO and EPOCH start the commit they name; a transfer collects its words and ends with its
judgement, after which nothing is busy; a key load is busy until it ends, a drop of a key that its circle slot holds
frees the slot, of one that it does not hold is error 7; debug access clears the circle keys and the identity for
good.
Rows that complete here: DEBUG_ACCESS, FIRMWARE_COMMIT, EPOCH_ADVANCE, RECORD_START, RECORD_DATA, RECORD_DONE,
RECORD_PROGRAM_COMPLETE, KEY_LOAD, KEY_DROP, KEY_LOAD_COMPLETE. -/
def Obligations.TrustRegisters : Prop :=
  (∀ (s : State) (v : W32),
    (bitsOf v 0 1 = 1 → s.b F.secCommit_BUSY 0 = false → ∃ t, Completes (.firmwareCommit v) s t ∧
      t.b F.secCommit_BUSY 0 = true ∧ t.sec.committing = some false) ∧
    (bitsOf v 0 2 = 2 → s.b F.secCommit_BUSY 0 = false → ∃ t, Completes (.epochAdvance v) s t ∧
      t.b F.secCommit_BUSY 0 = true ∧ t.sec.committing = some true) ∧
    (bitsOf v 0 2 = 1 → s.b F.secRecCtrl_BUSY 0 = false → bitsOf v 4 2 < 2 → s.inRecovery = false ∨ bitsOf v 4 2 = 0 →
      ∃ t, Completes (.recordStart v) s t ∧ t.b F.secRecCtrl_BUSY 0 = true ∧ t.sec.recWords = [] ∧
        t.sec.recActive = true) ∧
    (∃ t, Completes (.recordData v) s t ∧
      t.sec.recWords = if s.sec.recActive then v :: s.sec.recWords else s.sec.recWords) ∧
    (bitsOf v 0 2 = 2 → s.sec.recActive = true → ∃ t, Completes (.recordDone v) s t ∧ t.sec.recActive = false ∧
      t.sec.recJudging = true) ∧
    (s.sec.recJudging = true → ∃ t, Completes Instr.recordProgramComplete s t ∧ t.sec.recJudging = false ∧
      t.b F.secRecCtrl_BUSY 0 = false) ∧
    ∃ t, Completes Instr.debugAccess s t ∧ t.sec.circles = [] ∧ t.sec.vault = false ∧ t.b F.secStatus_DEBUG 0 = true ∧
      t.b F.secStatus_IDENTITY_ON 0 = false) ∧
  ∀ (s : State) (part : Nat) (v : W32), part < 64 →
    (bitsOf v 6 1 = 1 → bitsOf v 0 2 = 0 → s.b F.keyStatus_BUSY part = false →
      ∃ t, Completes (.keyLoad part v) s t ∧ t.b F.keyStatus_BUSY part = true ∧
        SMap.find t.sec.keyBusy part = some (s.pair .keyAddrLo .keyAddrHi part)) ∧
    (bitsOf v 6 1 = 1 → bitsOf v 0 2 = 1 → s.b F.keyStatus_BUSY part = false →
      (∀ c, SMap.find s.sec.circles (bitsOf v 2 4) = some c → c.part = part → ∃ t, Completes (.keyDrop part v) s t ∧
        SMap.find t.sec.circles (bitsOf v 2 4) = none ∧ t.b F.keyStatus_DONE part = true ∧ t.f F.keyStatus_ERR part = 0) ∧
      ((∀ c, SMap.find s.sec.circles (bitsOf v 2 4) = some c → c.part ≠ part) →
        ∃ t, Completes (.keyDrop part v) s t ∧ t.sec.circles = s.sec.circles ∧ t.f F.keyStatus_ERR part = 7)) ∧
    ∀ t, s.endKeyLoad part = some t → Completes (.keyLoadComplete part) s t.pins

/-! ### Clocks and power (14) -/

/-- The switch of a running domain, its sources, and the events of the power controller: a request to switch is pending
and locks; a lock lets the domain stop at its point and restart on the new reference, a failed one leaves it as it
was with FAILED set; a source that fails is noted, and one in use puts the device into the safe state (not under
Kuori compatibility, where its loss moves the domains back to IOSC); recovery and the exit of the safe state undo
it; a trim window records the error; a unit that wakes is awake and counted; limit and droop events are noted for
their die or cluster (log entries 40, 41, 42).
Rows that complete here: SOURCE_RECOVERY, SAFE_STATE_EXIT, KUORI_SOURCE_FAILURE, DOMAIN_SWITCH, PLL_LOCK,
DOMAIN_STOP_POINT, DOMAIN_RESTART, REFERENCE_FAILURE, PLL_LOSS_OF_LOCK, TRIM_WINDOW, UNIT_WAKE, CURRENT_LIMIT_EVENT,
CURRENT_LIMIT_RELEASE, DROOP_EVENT. -/
def Obligations.ClockAndPowerEvents : Prop :=
  (∀ (s : State) (n : Nat), n < 62 →
    (∀ v : W32, bitsOf v 0 1 ≠ s.f F.clkDom_REF n → s.b F.clkDom_PEND n = false →
      ∃ t, Completes (.domainSwitch n v) s t ∧ t.f F.clkDom_REF n = bitsOf v 0 1 ∧ t.b F.clkDom_PEND n = true ∧
        t.domStage n = .locking) ∧
    (s.domStage n = .locking →
      (s.clk.failed.contains (refOf (s.b F.clkDom_REF n)) = false →
        ∃ t, Completes (.pllLock n true) s t ∧ t.domStage n = .stopping) ∧
      ∃ t, Completes (.pllLock n false) s t ∧ t.domStage n = .running ∧ t.b F.clkDom_PEND n = false ∧
        t.b F.clkDom_FAILED n = true ∧ t.f F.clkDom_REF n = 1 - s.f F.clkDom_REF n) ∧
    (s.canStop n = true → ∃ t, Completes (.domainStopPoint n) s t ∧ t.domStage n = .stopped) ∧
    (s.domStage n = .stopped → Completes (.domainRestart n) s (s.doRestart n).pins ∧
      (s.doRestart n).domStage n = .running ∧ (s.doRestart n).b F.clkDom_PEND n = false) ∧
    (s.b F.clkCfg_KUORI_CLK 0 = true → s.b F.clkDom_REF n = true → s.domStage n ≠ .lost →
      ∃ t, Completes (.pllLossOfLock n) s t ∧ t.domStage n = .lost)) ∧
  (∀ s : State,
    (∀ src, s.clk.failed.contains src = false →
      Completes (.referenceFailure src) s (State.service s (s.doFailure src)).pins ∧
      (s.host.linkUp = false → (s.doFailure src).clk.failed = src :: s.clk.failed ∧
        (s.doFailure src).b (okBit src) 0 = false ∧
        (src ≠ .refclkPcie → s.inService src = true → s.b F.clkCfg_KUORI_CLK 0 = false →
          (s.doFailure src).b F.clkStatus_SAFE 0 = true))) ∧
    (s.clk.failed ≠ [] → ∃ t, Completes Instr.sourceRecovery s t ∧ t.clk.failed = [] ∧
      t.clk.recovering = s.b F.clkStatus_SAFE 0 ∧ ∀ x ∈ s.clk.failed, t.b (okBit x) 0 = true) ∧
    (s.b F.clkStatus_SAFE 0 = true → s.clk.recovering = true → ∃ t, Completes Instr.safeStateExit s t ∧
      t.b F.clkStatus_SAFE 0 = false ∧ t.clk.recovering = false) ∧
    (s.b F.clkCfg_KUORI_CLK 0 = true → s.inService .refclkSys = true →
      ∃ t, Completes Instr.kuoriSourceFailure s t ∧ t.b F.clkFlags_SRCFAIL 0 = true ∧
        ∀ n, n < 62 → t.b F.clkDom_REF n = false) ∧
    (∀ err, s.trimRef ≠ 0 → ∃ t, Completes (.trimWindow err) s t ∧ t.f F.clkTrim_ERR 0 = err.toNat) ∧
    (∀ gate bit, gate < 3 → bit < 32 → s.f F.clkCfg_GATING 0 = 1 → wakes gate bit = true →
      (SMap.get 0 s.clk.awake gate).getLsbD bit = false →
      ∃ t, Completes (.unitWake gate bit) s t ∧ (SMap.get 0 t.clk.awake gate).getLsbD bit = true ∧
        t.eventCount .clkEvtLo .clkEvtHi 2 = (s.eventCount .clkEvtLo .clkEvtHi 2 + 1) % 2 ^ 48)) ∧
  ∀ (s : State) (n : Nat),
    (n < 8 → s.clk.limiter.contains n = false → ∃ t, Completes (.currentLimitEvent n) s t ∧
      n ∈ t.clk.limiter ∧ n ∈ t.clk.limited) ∧
    (n < 8 → s.clk.limiter.contains n = true → ∃ t, Completes (.currentLimitRelease n) s t ∧ n ∉ t.clk.limiter ∧
      t.clk.limited = s.clk.limited) ∧
    (n < 32 → ∃ t, Completes (.droopEvent n) s t ∧ n ∈ t.clk.drooped)

/-! ### Faults, spares and the die-to-die links (15) -/

/-- Fences, spares, tests, the directory sample and the die-to-die links: each request starts what it names or is
refused with its reason, and each event ends it (log entries 70, 71, 152).
Rows that complete here: SPARE_BRING_IN_COMPLETE, CORE_SPARE_BRING_IN, WAY_SPARE_BRING_IN, IN_FIELD_TEST,
CORE_UNFENCE, DIRECTORY_SAMPLE, CORE_FENCE, CORE_ARRAY_ERROR, IN_FIELD_TEST_COMPLETE, D2D_LANE_FAILURE,
D2D_TRAINING_COMPLETE, D2D_TRAINING_TIMEOUT, D2D_RETRAIN, D2D_PARTIAL_RESET, D2D_FATAL_ERROR. -/
def Obligations.ServiceCommands : Prop :=
  (∀ (s : State) (v : W32),
    (bitsOf v 10 1 = 1 → bitsOf v 9 1 = 0 →
      Completes (.coreFence (.manager v) (bitsOf v 0 9)) s (State.service s (s.writeFence v)).pins) ∧
    (∀ cause phys, (∀ x, cause ≠ .manager x) → coreId phys = true → s.fencedPhys (physIndexOf phys) = false →
      Completes (.coreFence cause phys) s (State.service s (s.fenceCore (physIndexOf phys))).pins) ∧
    (bitsOf v 10 1 = 1 → bitsOf v 9 1 = 1 →
      (coreId (bitsOf v 0 9) = true → s.ras.tested.contains (physIndexOf (bitsOf v 0 9)) = true →
        s.replaced (physIndexOf (bitsOf v 0 9)) = false →
        ∃ t, Completes (.coreUnfence v) s t ∧ t.fencedPhys (physIndexOf (bitsOf v 0 9)) = false) ∧
      (coreId (bitsOf v 0 9) = true →
        s.replaced (physIndexOf (bitsOf v 0 9)) = true ∨ s.fencedPhys (physIndexOf (bitsOf v 0 9)) = true ∧
          s.ras.tested.contains (physIndexOf (bitsOf v 0 9)) = false →
        ∃ t, Completes (.coreUnfence v) s t ∧ t.f F.rasFence_REASON 0 = 2 ∧ t.b F.rasFence_ERR 0 = true ∧
          t.rget .rasFenced (physIndexOf (bitsOf v 0 9) / 32) = s.rget .rasFenced (physIndexOf (bitsOf v 0 9) / 32))) ∧
    (bitsOf v 14 1 = 1 → bitsOf v 0 1 = 0 → s.b F.rasCellar_BUSY 0 = false → coreId (bitsOf v 1 9) = true →
      let i := physIndexOf (bitsOf v 1 9)
      (s.fencedPhys i = true → (s.logicalOf i).isSome = true → s.f F.clStatus_SPARE_STATE (i / 9) = 0 →
        ∃ t, Completes (.coreSpareBringIn v) s t ∧ t.b F.rasCellar_BUSY 0 = true ∧ t.ras.cellar = some (0, i, 0)) ∧
      (s.fencedPhys i = false → ∃ t, Completes (.coreSpareBringIn v) s t ∧ t.f F.rasCellar_REASON 0 = 1 ∧
        t.ras.cellar = s.ras.cellar)) ∧
    (bitsOf v 14 1 = 1 → bitsOf v 0 1 = 1 → s.b F.rasCellar_BUSY 0 = false →
      (s.spareUsed (bitsOf v 1 9) = false → ∃ t, Completes (.waySpareBringIn v) s t ∧ t.b F.rasCellar_BUSY 0 = true ∧
        t.ras.cellar = some (1, bitsOf v 1 9, bitsOf v 10 4)) ∧
      (s.spareUsed (bitsOf v 1 9) = true → ∃ t, Completes (.waySpareBringIn v) s t ∧ t.f F.rasCellar_REASON 0 = 3)) ∧
    (bitsOf v 14 1 = 1 →
      Completes (.inFieldTest v) s (State.service s (s.writeIft v)).pins ∧
      (s.networkHeld = true → (s.writeIft v).f F.rasIftStatus_REASON 0 = 2 ∧ (s.writeIft v).ras.testing = s.ras.testing)) ∧
    (bitsOf v 31 1 = 1 → ∃ t, Completes (.directorySample v) s t ∧
      ∀ e, s.mem.dir.find? (fun e => e.2.slice == bitsOf v 0 9 && e.2.set == bitsOf v 9 8 && e.2.way == bitsOf v 17 4) =
          some e → ∀ k, k < 10 → t.rget .rasDirData k = BitVec.ofNat 32 (e.2.bits / 2 ^ (32 * k)))) ∧
  (∀ (s : State) (passed : Bool),
    (s.cellarReady passed = true → Completes (.spareBringInComplete passed) s (State.service s (s.endCellar passed)).pins) ∧
    (s.iftReady = true → ∃ t, Completes (.inFieldTestComplete passed) s t ∧
      (∀ target way, s.ras.testing = some (0, target, way) → t.ras.testing = none ∧
        t.f F.rasIftStatus_STATE 0 = (if passed then 2 else 3)))) ∧
  (∀ (s : State) (core array word : Nat), core < 256 → array < 3 → s.corePresent core = true → s.fenced core = false →
    word < arrayWords array →
    (∃ t, Completes (.coreArrayError core array word true) s t ∧
      t.eventCount .rasEvtLo .rasEvtHi 6 = (s.eventCount .rasEvtLo .rasEvtHi 6 + 1) % 2 ^ 48) ∧
    Completes (.coreArrayError core array word false) s (State.service s (s.doArrayError core array word false)).pins) ∧
  ∀ (s : State) (port : Nat), port < 24 →
    (s.d2dState port ≠ 0 → s.d2dState port ≠ 4 →
      (∀ lane, lane < 512 → (s.lostLanes port).contains lane = false →
        Completes (.d2dLaneFailure port lane) s (State.service s (s.doLane port lane).judgeDies).pins) ∧
      ∀ side, Completes (.d2dFatalError port side) s (State.service s (s.partialReset port side).judgeDies).pins) ∧
    (s.d2dState port = 1 →
      (∀ a b, s.capsOk port a b = true →
        Completes (.d2dTrainingComplete port a b) s (State.service s (s.doD2dTrained port a b).judgeDies).pins) ∧
      (s.b F.clkStatus_SAFE 0 = false → ∀ within,
        Completes (.d2dTrainingTimeout port within) s (State.service s (s.doTrainTimeout port within).judgeDies).pins)) ∧
    (∀ v : W32, (bitsOf v 0 1 = 1 → Completes (.d2dRetrain port v) s (State.service s (s.writeD2d port v).judgeDies).pins) ∧
      (bitsOf v 1 1 = 1 →
        Completes (.d2dPartialReset port v) s (State.service s (s.writeD2d port v).judgeDies).pins)) ∧
    (SMap.get 0 s.ras.d2dRes port = 0 → ∀ a b, a ≤ 2 → b ≤ 2 →
      (s.doD2dTrained port a b).f F.d2dStatus_WIDTH port = min a b ∧
      (s.doD2dTrained port a b).d2dState port = (if min a b = 2 then 2 else if min a b = 1 then 3 else 4))

/-! ### Rails, resets, boot and the management port (17) -/

/-- Rails, resets and boot: VIN_AUX and VIN_MAIN in range bring their domain up, and their loss takes it down; the
regulators in regulation end a cold reset, and boot step 1 begins; PERST_N resets the link's functions; a boot step
that ends does what its number says; a trip latches THERMTRIP_N and turns the regulators off, and a cool recheck
clears it. The management port answers its six reads while VIN_AUX is present (log entries 2, 63, 76).
Rows that complete here: VIN_AUX_LOSS, VIN_MAIN_LOSS, REGULATORS_IN_REGULATION, LINK_RESET, PERST_DEASSERT,
TAP_RESET, BOOT_STEP, BOOT_RESULT, HALT_CODE, MGMT_STATUS_READ, MGMT_TEMPERATURE_READ, MGMT_POWER_READ,
ALERT_RESPONSE, VIN_AUX_ON, VIN_MAIN_ON, BOOT_STEP_END, THERMAL_TRIP, THERMAL_RECHECK. -/
def Obligations.RailsAndBoot : Prop :=
  ∀ s : State,
    (∀ mv, 3135 ≤ mv → mv ≤ 3465 → s.boot.aux = false → ∃ t, Completes (.vinAuxOn mv) s t ∧ t.boot.aux = true ∧
      t.boot.pwrgoodLow = true) ∧
    (∀ mv, 11400 ≤ mv → mv ≤ 12600 → s.boot.main = false → ∃ t, Completes (.vinMainOn mv) s t ∧ t.boot.main = true ∧
      (s.boot.lost = true → s.boot.aux = true → t.b F.aonEvent_MAIN_LOST 0 = true)) ∧
    (s.boot.aux = true → ∃ t, Completes Instr.vinAuxLoss s t ∧ t.boot.aux = false ∧ t.boot.regulators = false) ∧
    (s.boot.main = true → ∃ t, Completes Instr.vinMainLoss s t ∧ t.boot.main = false ∧ t.boot.aux = s.boot.aux) ∧
    (s.boot.aux = true → s.boot.main = true → s.boot.regulators = false → s.boot.thermal = false →
      ∃ t, Completes Instr.regulatorsInRegulation s t ∧ t.boot.step = 1 ∧ t.boot.regulators = true ∧ t.pending = s.pending ∧
        t.sec.keg = s.sec.keg ∧ ∀ c, t.core c = CoreSt.reset) ∧
    (s.boot.main = true → s.boot.perst = false → ∃ t, Completes Instr.linkReset s t ∧ t.boot.perst = true ∧
      t.host = { HostState.reset with pfCount := max 1 (s.f F.pciCtlMsixPf_COUNT 0) }) ∧
    (s.boot.perst = true → ∃ t, Completes Instr.perstDeassert s t ∧ t.boot.perst = false) ∧
    (∃ t, Completes Instr.tapReset s t ∧ t.boot.tapReset = true) ∧
    (∀ r, s.boot.regulators = true → s.booting = true → s.boot.result = 0 →
      (s.boot.step ≠ 1 ∨ s.boot.thermtripN = false ∨ cool r.junctions = true) →
      Completes (.bootStepEnd r) s (State.service s (s.endStep r)).pins ∧
      (s.boot.step = 1 → r.selfTestOk = false → (s.endStep r).boot.haltCode = 0x0101) ∧
      (s.boot.step = 7 → s.b F.beatCtrl_SOURCE 0 = false → (s.endStep r).boot.result = 1 ∧
        (s.endStep r).b F.beatCtrl_ENABLE 0 = true)) ∧
    (∀ what, s.boot.regulators = true → s.boot.thermal = false → tripOk what = true →
      ∃ t, Completes (.thermalTrip what) s t ∧ t.boot.thermtripN = true ∧ t.boot.regulators = false ∧
        t.boot.thermal = true ∧ t.boot.result = 4) ∧
    (∀ tj, s.boot.step = 1 → s.boot.result = 0 → s.boot.thermtripN = true →
      ∃ t, Completes (.thermalRecheck tj) s t ∧ t.boot.thermtripN = !cool tj) ∧
    (s.boot.aux = true →
      Completes Instr.bootStep s (s.emit (.mgmt s.boot.step)).pins ∧
      Completes Instr.bootResult s (s.emit (.mgmt s.boot.result)).pins ∧
      Completes Instr.haltCode s (s.emit (.mgmt s.boot.haltCode)).pins ∧
      Completes Instr.mgmtStatusRead s (s.emit (.mgmt s.mgmtStatus)).pins ∧
      Completes Instr.mgmtTemperatureRead s (s.emit (.mgmt (if s.boot.main then min 255 s.boot.maxTemp else 0))).pins ∧
      Completes Instr.mgmtPowerRead s (s.emit (.mgmt (if s.boot.main then s.f F.pwrMs_WATTS 0 else 0))).pins ∧
      (s.boot.alertN = true → Completes Instr.alertResponse s (s.emit .alert).pins))

end Slice0Obligations
end

