-- ==== Sys2Proof/Laws/Dispatch.lean ====
section
/-!
SUPPORT. One equation for each row: executing the command is its meaning.
-/
namespace Sys2Proof.Machine

@[simp] theorem exec_nop {who w} {s : State} : exec (.nop who w) s = execNop who w s := rfl
@[simp] theorem exec_fence {who w} {s : State} : exec (.fence who w) s = execFence who w s := rfl
@[simp] theorem exec_barg {who w} {s : State} : exec (.barg who w) s = execBarg who w s := rfl
@[simp] theorem exec_barc {who w} {s : State} : exec (.barc who w) s = execBarc who w s := rfl
@[simp] theorem exec_fsr {who w} {s : State} : exec (.fsr who w) s = execFsr who w s := rfl
@[simp] theorem exec_fsc {who w} {s : State} : exec (.fsc who w) s = execFsc who w s := rfl
@[simp] theorem exec_seed {who w} {s : State} : exec (.seed who w) s = execSeed who w s := rfl
@[simp] theorem exec_sread {who w} {s : State} : exec (.sread who w) s = execSread who w s := rfl
@[simp] theorem exec_yield {who w} {s : State} : exec (.yield who w) s = execYield who w s := rfl
@[simp] theorem exec_bra {who w} {s : State} : exec (.bra who w) s = execBra who w s := rfl
@[simp] theorem exec_brr {who w} {s : State} : exec (.brr who w) s = execBrr who w s := rfl
@[simp] theorem exec_join {who w} {s : State} : exec (.join who w) s = execJoin who w s := rfl
@[simp] theorem exec_brk {who w} {s : State} : exec (.brk who w) s = execBrk who w s := rfl
@[simp] theorem exec_bri {who w} {s : State} : exec (.bri who w) s = execBri who w s := rfl
@[simp] theorem exec_call {who w} {s : State} : exec (.call who w) s = execCall who w s := rfl
@[simp] theorem exec_exit {who w} {s : State} : exec (.exit who w) s = execExit who w s := rfl
@[simp] theorem exec_scalarInteger {who w} {s : State} : exec (.scalarInteger who w) s = execScalarInteger who w s := rfl
@[simp] theorem exec_vectorInteger {who w} {s : State} : exec (.vectorInteger who w) s = execVectorInteger who w s := rfl
@[simp] theorem exec_compareToPredicate {who w} {s : State} : exec (.compareToPredicate who w) s = execCompareToPredicate who w s := rfl
@[simp] theorem exec_predicateLogic {who w} {s : State} : exec (.predicateLogic who w) s = execPredicateLogic who w s := rfl
@[simp] theorem exec_shfl {who w} {s : State} : exec (.shfl who w) s = execShfl who w s := rfl
@[simp] theorem exec_shflx {who w} {s : State} : exec (.shflx who w) s = execShflx who w s := rfl
@[simp] theorem exec_shfl64 {who w} {s : State} : exec (.shfl64 who w) s = execShfl64 who w s := rfl
@[simp] theorem exec_shflx64 {who w} {s : State} : exec (.shflx64 who w) s = execShflx64 who w s := rfl
@[simp] theorem exec_ballot {who w} {s : State} : exec (.ballot who w) s = execBallot who w s := rfl
@[simp] theorem exec_rdlane {who w} {s : State} : exec (.rdlane who w) s = execRdlane who w s := rfl
@[simp] theorem exec_laneid {who w} {s : State} : exec (.laneid who w) s = execLaneid who w s := rfl
@[simp] theorem exec_fp32Arithmetic {who w} {s : State} : exec (.fp32Arithmetic who w) s = execFp32Arithmetic who w s := rfl
@[simp] theorem exec_fp64Arithmetic {who w} {s : State} : exec (.fp64Arithmetic who w) s = execFp64Arithmetic who w s := rfl
@[simp] theorem exec_pairArithmetic {who w} {s : State} : exec (.pairArithmetic who w) s = execPairArithmetic who w s := rfl
@[simp] theorem exec_conversion {who w} {s : State} : exec (.conversion who w) s = execConversion who w s := rfl
@[simp] theorem exec_ld {who w} {s : State} : exec (.ld who w) s = execLd who w s := rfl
@[simp] theorem exec_st {who w} {s : State} : exec (.st who w) s = execSt who w s := rfl
@[simp] theorem exec_atomic {who w} {s : State} : exec (.atomic who w) s = execAtomic who w s := rfl
@[simp] theorem exec_lacq {who w} {s : State} : exec (.lacq who w) s = execLacq who w s := rfl
@[simp] theorem exec_lrel {who w} {s : State} : exec (.lrel who w) s = execLrel who w s := rfl
@[simp] theorem exec_thset {who w0 w1} {s : State} : exec (.thset who w0 w1) s = execThset who w0 w1 s := rfl
@[simp] theorem exec_thadv {who w0 w1} {s : State} : exec (.thadv who w0 w1) s = execThadv who w0 w1 s := rfl
@[simp] theorem exec_thget {who w0 w1} {s : State} : exec (.thget who w0 w1) s = execThget who w0 w1 s := rfl
@[simp] theorem exec_thdr {who w0 w1} {s : State} : exec (.thdr who w0 w1) s = execThdr who w0 w1 s := rfl
@[simp] theorem exec_topen {who w0 w1} {s : State} : exec (.topen who w0 w1) s = execTopen who w0 w1 s := rfl
@[simp] theorem exec_tseal {who w0 w1} {s : State} : exec (.tseal who w0 w1) s = execTseal who w0 w1 s := rfl
@[simp] theorem exec_fld {who w0 w1} {s : State} : exec (.fld who w0 w1) s = execFld who w0 w1 s := rfl
@[simp] theorem exec_fst {who w0 w1} {s : State} : exec (.fst who w0 w1) s = execFst who w0 w1 s := rfl
@[simp] theorem exec_mma {who w0 w1} {s : State} : exec (.mma who w0 w1) s = execMma who w0 w1 s := rfl
@[simp] theorem exec_accw {who w0 w1} {s : State} : exec (.accw who w0 w1) s = execAccw who w0 w1 s := rfl
@[simp] theorem exec_tcvt {who w0 w1} {s : State} : exec (.tcvt who w0 w1) s = execTcvt who w0 w1 s := rfl
@[simp] theorem exec_copy {who w0 w1} {s : State} : exec (.copy who w0 w1) s = execCopy who w0 w1 s := rfl
@[simp] theorem exec_tred {who w0 w1} {s : State} : exec (.tred who w0 w1) s = execTred who w0 w1 s := rfl
@[simp] theorem exec_tatom {who w0 w1} {s : State} : exec (.tatom who w0 w1) s = execTatom who w0 w1 s := rfl
@[simp] theorem exec_rangePrefetch {who w0 w1} {s : State} : exec (.rangePrefetch who w0 w1) s = execRangePrefetch who w0 w1 s := rfl
@[simp] theorem exec_rangeFlush {who w0 w1} {s : State} : exec (.rangeFlush who w0 w1) s = execRangeFlush who w0 w1 s := rfl
@[simp] theorem exec_rangeInvalidate {who w0 w1} {s : State} : exec (.rangeInvalidate who w0 w1) s = execRangeInvalidate who w0 w1 s := rfl
@[simp] theorem exec_rangeDraff {who w0 w1} {s : State} : exec (.rangeDraff who w0 w1) s = execRangeDraff who w0 w1 s := rfl
@[simp] theorem exec_waitge {who w0 w1} {s : State} : exec (.waitge who w0 w1) s = execWaitge who w0 w1 s := rfl
@[simp] theorem exec_phase {who w0 w1} {s : State} : exec (.phase who w0 w1) s = execPhase who w0 w1 s := rfl
@[simp] theorem exec_farAtomicResponse {who id} {s : State} : exec (.farAtomicResponse who id) s = execFarAtomicResponse who id s := rfl
@[simp] theorem exec_lockRetry {who} {s : State} : exec (.lockRetry who) s = execLockRetry who s := rfl
@[simp] theorem exec_waitgeReached {who} {s : State} : exec (.waitgeReached who) s = execWaitgeReached who s := rfl
@[simp] theorem exec_groupWatchdogExpiry {who} {s : State} : exec (.groupWatchdogExpiry who) s = execGroupWatchdogExpiry who s := rfl
@[simp] theorem exec_matrixEngineStart {core me} {s : State} : exec (.matrixEngineStart core me) s = execMatrixEngineStart core me s := rfl
@[simp] theorem exec_engineAttemptAbandon {core me} {s : State} : exec (.engineAttemptAbandon core me) s = execEngineAttemptAbandon core me s := rfl
@[simp] theorem exec_engineInstructionComplete {core me} {s : State} : exec (.engineInstructionComplete core me) s = execEngineInstructionComplete core me s := rfl
@[simp] theorem exec_tileOperationTimeout {core me} {s : State} : exec (.tileOperationTimeout core me) s = execTileOperationTimeout core me s := rfl
@[simp] theorem exec_transferStart {core} {s : State} : exec (.transferStart core) s = execTransferStart core s := rfl
@[simp] theorem exec_transferComplete {core cmd idx} {s : State} : exec (.transferComplete core cmd idx) s = execTransferComplete core cmd idx s := rfl
@[simp] theorem exec_tileWriteBegin {a} {s : State} : exec (.tileWriteBegin a) s = execTileWriteBegin a s := rfl
@[simp] theorem exec_tileWriterTimeout {a} {s : State} : exec (.tileWriterTimeout a) s = execTileWriterTimeout a s := rfl
@[simp] theorem exec_tileReadComplete {a} {s : State} : exec (.tileReadComplete a) s = execTileReadComplete a s := rfl
@[simp] theorem exec_tornTileWindowExpiry {a} {s : State} : exec (.tornTileWindowExpiry a) s = execTornTileWindowExpiry a s := rfl
@[simp] theorem exec_copyTimeout {a} {s : State} : exec (.copyTimeout a) s = execCopyTimeout a s := rfl
@[simp] theorem exec_caskWaitTimeout {a} {s : State} : exec (.caskWaitTimeout a) s = execCaskWaitTimeout a s := rfl
@[simp] theorem exec_beatBoundary {m} {s : State} : exec (.beatBoundary m) s = execBeatBoundary m s := rfl
@[simp] theorem exec_digestComputed (s : State) : exec (.digestComputed) s = execDigestComputed s := rfl
@[simp] theorem exec_hostRangeDone (s : State) : exec (.hostRangeDone) s = execHostRangeDone s := rfl
@[simp] theorem exec_retirementMoveComplete (s : State) : exec (.retirementMoveComplete) s = execRetirementMoveComplete s := rfl
@[simp] theorem exec_invalidationDone (s : State) : exec (.invalidationDone) s = execInvalidationDone s := rfl
@[simp] theorem exec_aonWriteApply (s : State) : exec (.aonWriteApply) s = execAonWriteApply s := rfl
@[simp] theorem exec_pfFlr (s : State) : exec (.pfFlr) s = execPfFlr s := rfl
@[simp] theorem exec_vfEnableSet (s : State) : exec (.vfEnableSet) s = execVfEnableSet s := rfl
@[simp] theorem exec_vfEnableClear (s : State) : exec (.vfEnableClear) s = execVfEnableClear s := rfl
@[simp] theorem exec_pcieLinkDown (s : State) : exec (.pcieLinkDown) s = execPcieLinkDown s := rfl
@[simp] theorem exec_debugAccess (s : State) : exec (.debugAccess) s = execDebugAccess s := rfl
@[simp] theorem exec_sourceRecovery (s : State) : exec (.sourceRecovery) s = execSourceRecovery s := rfl
@[simp] theorem exec_safeStateExit (s : State) : exec (.safeStateExit) s = execSafeStateExit s := rfl
@[simp] theorem exec_kuoriSourceFailure (s : State) : exec (.kuoriSourceFailure) s = execKuoriSourceFailure s := rfl
@[simp] theorem exec_vinAuxLoss (s : State) : exec (.vinAuxLoss) s = execVinAuxLoss s := rfl
@[simp] theorem exec_vinMainLoss (s : State) : exec (.vinMainLoss) s = execVinMainLoss s := rfl
@[simp] theorem exec_regulatorsInRegulation (s : State) : exec (.regulatorsInRegulation) s = execRegulatorsInRegulation s := rfl
@[simp] theorem exec_linkReset (s : State) : exec (.linkReset) s = execLinkReset s := rfl
@[simp] theorem exec_perstDeassert (s : State) : exec (.perstDeassert) s = execPerstDeassert s := rfl
@[simp] theorem exec_tapReset (s : State) : exec (.tapReset) s = execTapReset s := rfl
@[simp] theorem exec_bootStep (s : State) : exec (.bootStep) s = execBootStep s := rfl
@[simp] theorem exec_bootResult (s : State) : exec (.bootResult) s = execBootResult s := rfl
@[simp] theorem exec_haltCode (s : State) : exec (.haltCode) s = execHaltCode s := rfl
@[simp] theorem exec_mgmtStatusRead (s : State) : exec (.mgmtStatusRead) s = execMgmtStatusRead s := rfl
@[simp] theorem exec_mgmtTemperatureRead (s : State) : exec (.mgmtTemperatureRead) s = execMgmtTemperatureRead s := rfl
@[simp] theorem exec_mgmtPowerRead (s : State) : exec (.mgmtPowerRead) s = execMgmtPowerRead s := rfl
@[simp] theorem exec_alertResponse (s : State) : exec (.alertResponse) s = execAlertResponse s := rfl
@[simp] theorem exec_spareBringInComplete {passed} {s : State} : exec (.spareBringInComplete passed) s = execSpareBringInComplete passed s := rfl
@[simp] theorem exec_scrubRead {pc r} {s : State} : exec (.scrubRead pc r) s = execScrubRead pc r s := rfl
@[simp] theorem exec_memoryReadComplete {pc line who r} {s : State} : exec (.memoryReadComplete pc line who r) s = execMemoryReadComplete pc line who r s := rfl
@[simp] theorem exec_switchDrainEnd {part ctx core} {s : State} : exec (.switchDrainEnd part ctx core) s = execSwitchDrainEnd part ctx core s := rfl
@[simp] theorem exec_switchDrainTimeout {part ctx core} {s : State} : exec (.switchDrainTimeout part ctx core) s = execSwitchDrainTimeout part ctx core s := rfl
@[simp] theorem exec_switchSaveComplete {part ctx core} {s : State} : exec (.switchSaveComplete part ctx core) s = execSwitchSaveComplete part ctx core s := rfl
@[simp] theorem exec_switchRestoreComplete {part ctx core} {s : State} : exec (.switchRestoreComplete part ctx core) s = execSwitchRestoreComplete part ctx core s := rfl
@[simp] theorem exec_teardownDrainEnd {part ctx} {s : State} : exec (.teardownDrainEnd part ctx) s = execTeardownDrainEnd part ctx s := rfl
@[simp] theorem exec_partitionCreate {part v} {s : State} : exec (.partitionCreate part v) s = execPartitionCreate part v s := rfl
@[simp] theorem exec_partitionDestroy {part v} {s : State} : exec (.partitionDestroy part v) s = execPartitionDestroy part v s := rfl
@[simp] theorem exec_partFreeze {part v} {s : State} : exec (.partFreeze part v) s = execPartFreeze part v s := rfl
@[simp] theorem exec_partThaw {part v} {s : State} : exec (.partThaw part v) s = execPartThaw part v s := rfl
@[simp] theorem exec_partRestore {part v} {s : State} : exec (.partRestore part v) s = execPartRestore part v s := rfl
@[simp] theorem exec_partitionDestroyEnd {part} {s : State} : exec (.partitionDestroyEnd part) s = execPartitionDestroyEnd part s := rfl
@[simp] theorem exec_partFreezeComplete {part} {s : State} : exec (.partFreezeComplete part) s = execPartFreezeComplete part s := rfl
@[simp] theorem exec_partRestoreComplete {part} {s : State} : exec (.partRestoreComplete part) s = execPartRestoreComplete part s := rfl
@[simp] theorem exec_contextEnable {part ctx v} {s : State} : exec (.contextEnable part ctx v) s = execContextEnable part ctx v s := rfl
@[simp] theorem exec_contextDisable {part ctx v} {s : State} : exec (.contextDisable part ctx v) s = execContextDisable part ctx v s := rfl
@[simp] theorem exec_ringEnable {part ctx v} {s : State} : exec (.ringEnable part ctx v) s = execRingEnable part ctx v s := rfl
@[simp] theorem exec_ringDisable {part ctx v} {s : State} : exec (.ringDisable part ctx v) s = execRingDisable part ctx v s := rfl
@[simp] theorem exec_regionOwnerWrite {n v} {s : State} : exec (.regionOwnerWrite n v) s = execRegionOwnerWrite n v s := rfl
@[simp] theorem exec_regionDisable {n v} {s : State} : exec (.regionDisable n v) s = execRegionDisable n v s := rfl
@[simp] theorem exec_regionEnable {n v} {s : State} : exec (.regionEnable n v) s = execRegionEnable n v s := rfl
@[simp] theorem exec_pkeyWrite {n v} {s : State} : exec (.pkeyWrite n v) s = execPkeyWrite n v s := rfl
@[simp] theorem exec_regionDrainComplete {n} {s : State} : exec (.regionDrainComplete n) s = execRegionDrainComplete n s := rfl
@[simp] theorem exec_regionZeroFillComplete {n} {s : State} : exec (.regionZeroFillComplete n) s = execRegionZeroFillComplete n s := rfl
@[simp] theorem exec_wayReassign {slice way v} {s : State} : exec (.wayReassign slice way v) s = execWayReassign slice way v s := rfl
@[simp] theorem exec_wayReassignComplete {slice way} {s : State} : exec (.wayReassignComplete slice way) s = execWayReassignComplete slice way s := rfl
@[simp] theorem exec_hostRangeFlush {v} {s : State} : exec (.hostRangeFlush v) s = execHostRangeFlush v s := rfl
@[simp] theorem exec_hostRangeInvalidate {v} {s : State} : exec (.hostRangeInvalidate v) s = execHostRangeInvalidate v s := rfl
@[simp] theorem exec_hostRangeDraff {v} {s : State} : exec (.hostRangeDraff v) s = execHostRangeDraff v s := rfl
@[simp] theorem exec_pseudoChannelRetire {v} {s : State} : exec (.pseudoChannelRetire v) s = execPseudoChannelRetire v s := rfl
@[simp] theorem exec_routeDataWrite {v} {s : State} : exec (.routeDataWrite v) s = execRouteDataWrite v s := rfl
@[simp] theorem exec_translationInvalidate {v} {s : State} : exec (.translationInvalidate v) s = execTranslationInvalidate v s := rfl
@[simp] theorem exec_firmwareCommit {v} {s : State} : exec (.firmwareCommit v) s = execFirmwareCommit v s := rfl
@[simp] theorem exec_epochAdvance {v} {s : State} : exec (.epochAdvance v) s = execEpochAdvance v s := rfl
@[simp] theorem exec_recordStart {v} {s : State} : exec (.recordStart v) s = execRecordStart v s := rfl
@[simp] theorem exec_recordData {v} {s : State} : exec (.recordData v) s = execRecordData v s := rfl
@[simp] theorem exec_recordDone {v} {s : State} : exec (.recordDone v) s = execRecordDone v s := rfl
@[simp] theorem exec_coreSpareBringIn {v} {s : State} : exec (.coreSpareBringIn v) s = execCoreSpareBringIn v s := rfl
@[simp] theorem exec_waySpareBringIn {v} {s : State} : exec (.waySpareBringIn v) s = execWaySpareBringIn v s := rfl
@[simp] theorem exec_inFieldTest {v} {s : State} : exec (.inFieldTest v) s = execInFieldTest v s := rfl
@[simp] theorem exec_coreUnfence {v} {s : State} : exec (.coreUnfence v) s = execCoreUnfence v s := rfl
@[simp] theorem exec_directorySample {v} {s : State} : exec (.directorySample v) s = execDirectorySample v s := rfl
@[simp] theorem exec_gets {core slot line r} {s : State} : exec (.gets core slot line r) s = execGets core slot line r s := rfl
@[simp] theorem exec_getm {core slot line} {s : State} : exec (.getm core slot line) s = execGetm core slot line s := rfl
@[simp] theorem exec_putf {core line} {s : State} : exec (.putf core line) s = execPutf core line s := rfl
@[simp] theorem exec_pute {core line} {s : State} : exec (.pute core line) s = execPute core line s := rfl
@[simp] theorem exec_putm {core line} {s : State} : exec (.putm core line) s = execPutm core line s := rfl
@[simp] theorem exec_l1Grant {core line} {s : State} : exec (.l1Grant core line) s = execL1Grant core line s := rfl
@[simp] theorem exec_l1Inv {core line} {s : State} : exec (.l1Inv core line) s = execL1Inv core line s := rfl
@[simp] theorem exec_l1Fwds {core line} {s : State} : exec (.l1Fwds core line) s = execL1Fwds core line s := rfl
@[simp] theorem exec_l1Fwdm {core line} {s : State} : exec (.l1Fwdm core line) s = execL1Fwdm core line s := rfl
@[simp] theorem exec_l1Snoop {core line} {s : State} : exec (.l1Snoop core line) s = execL1Snoop core line s := rfl
@[simp] theorem exec_l1Recall {core line} {s : State} : exec (.l1Recall core line) s = execL1Recall core line s := rfl
@[simp] theorem exec_l1FlushRequest {core line} {s : State} : exec (.l1FlushRequest core line) s = execL1FlushRequest core line s := rfl
@[simp] theorem exec_l1Response {core line} {s : State} : exec (.l1Response core line) s = execL1Response core line s := rfl
@[simp] theorem exec_nonAllocatingRead {line who} {s : State} : exec (.nonAllocatingRead line who) s = execNonAllocatingRead line who s := rfl
@[simp] theorem exec_nonAllocatingWrite {line who mask data} {s : State} : exec (.nonAllocatingWrite line who mask data) s = execNonAllocatingWrite line who mask data s := rfl
@[simp] theorem exec_farOperation {slice} {s : State} : exec (.farOperation slice) s = execFarOperation slice s := rfl
@[simp] theorem exec_farOpResume {slice} {s : State} : exec (.farOpResume slice) s = execFarOpResume slice s := rfl
@[simp] theorem exec_snoopTimeout {line} {s : State} : exec (.snoopTimeout line) s = execSnoopTimeout line s := rfl
@[simp] theorem exec_softPprComplete {pc} {s : State} : exec (.softPprComplete pc) s = execSoftPprComplete pc s := rfl
@[simp] theorem exec_caParityError {stack chan retryPassed} {s : State} : exec (.caParityError stack chan retryPassed) s = execCaParityError stack chan retryPassed s := rfl
@[simp] theorem exec_channelRetrainEnd {stack chan passed} {s : State} : exec (.channelRetrainEnd stack chan passed) s = execChannelRetrainEnd stack chan passed s := rfl
@[simp] theorem exec_beatMark {port m arrival} {s : State} : exec (.beatMark port m arrival) s = execBeatMark port m arrival s := rfl
@[simp] theorem exec_beatInFrame {frame arrival} {s : State} : exec (.beatInFrame frame arrival) s = execBeatInFrame frame arrival s := rfl
@[simp] theorem exec_dlyreq {port m t2 t3} {s : State} : exec (.dlyreq port m t2 t3) s = execDlyreq port m t2 t3 s := rfl
@[simp] theorem exec_dlyrsp {port m t4} {s : State} : exec (.dlyrsp port m t4) s = execDlyrsp port m t4 s := rfl
@[simp] theorem exec_barrive {port m} {s : State} : exec (.barrive port m) s = execBarrive port m s := rfl
@[simp] theorem exec_brelease {port m} {s : State} : exec (.brelease port m) s = execBrelease port m s := rfl
@[simp] theorem exec_digestMsg {port m} {s : State} : exec (.digestMsg port m) s = execDigestMsg port m s := rfl
@[simp] theorem exec_mgmtRegisterRead {port m} {s : State} : exec (.mgmtRegisterRead port m) s = execMgmtRegisterRead port m s := rfl
@[simp] theorem exec_mgmtRegisterWrite {port m} {s : State} : exec (.mgmtRegisterWrite port m) s = execMgmtRegisterWrite port m s := rfl
@[simp] theorem exec_mgmtSpdmFragment {port m} {s : State} : exec (.mgmtSpdmFragment port m) s = execMgmtSpdmFragment port m s := rfl
@[simp] theorem exec_mgmtrsp {port m} {s : State} : exec (.mgmtrsp port m) s = execMgmtrsp port m s := rfl
@[simp] theorem exec_rd {port m} {s : State} : exec (.rd port m) s = execRd port m s := rfl
@[simp] theorem exec_wr {port m} {s : State} : exec (.wr port m) s = execWr port m s := rfl
@[simp] theorem exec_atom {port m} {s : State} : exec (.atom port m) s = execAtom port m s := rfl
@[simp] theorem exec_trd {port m} {s : State} : exec (.trd port m) s = execTrd port m s := rfl
@[simp] theorem exec_twr {port m} {s : State} : exec (.twr port m) s = execTwr port m s := rfl
@[simp] theorem exec_tredContribution {port m} {s : State} : exec (.tredContribution port m) s = execTredContribution port m s := rfl
@[simp] theorem exec_rdrsp {port m} {s : State} : exec (.rdrsp port m) s = execRdrsp port m s := rfl
@[simp] theorem exec_wrack {port m} {s : State} : exec (.wrack port m) s = execWrack port m s := rfl
@[simp] theorem exec_atrsp {port m} {s : State} : exec (.atrsp port m) s = execAtrsp port m s := rfl
@[simp] theorem exec_twrack {port m} {s : State} : exec (.twrack port m) s = execTwrack port m s := rfl
@[simp] theorem exec_trdrsp {port m} {s : State} : exec (.trdrsp port m) s = execTrdrsp port m s := rfl
@[simp] theorem exec_errRsp {port m} {s : State} : exec (.errRsp port m) s = execErrRsp port m s := rfl
@[simp] theorem exec_spdmFragmentTimeout {snode msgno} {s : State} : exec (.spdmFragmentTimeout snode msgno) s = execSpdmFragmentTimeout snode msgno s := rfl
@[simp] theorem exec_respTimeout {tag} {s : State} : exec (.respTimeout tag) s = execRespTimeout tag s := rfl
@[simp] theorem exec_stallTimeout {port vc} {s : State} : exec (.stallTimeout port vc) s = execStallTimeout port vc s := rfl
@[simp] theorem exec_laneFailure {engine lane} {s : State} : exec (.laneFailure engine lane) s = execLaneFailure engine lane s := rfl
@[simp] theorem exec_flitCrcError {port lane} {s : State} : exec (.flitCrcError port lane) s = execFlitCrcError port lane s := rfl
@[simp] theorem exec_portEnable {port v} {s : State} : exec (.portEnable port v) s = execPortEnable port v s := rfl
@[simp] theorem exec_portRetrain {port v} {s : State} : exec (.portRetrain port v) s = execPortRetrain port v s := rfl
@[simp] theorem exec_vc0WaitClear {port v} {s : State} : exec (.vc0WaitClear port v) s = execVc0WaitClear port v s := rfl
@[simp] theorem exec_trainingComplete {port peer peerLanes delay} {s : State} : exec (.trainingComplete port peer peerLanes delay) s = execTrainingComplete port peer peerLanes delay s := rfl
@[simp] theorem exec_trainingRetry {port} {s : State} : exec (.trainingRetry port) s = execTrainingRetry port s := rfl
@[simp] theorem exec_fabricRetrainFailure {port withinSecond} {s : State} : exec (.fabricRetrainFailure port withinSecond) s = execFabricRetrainFailure port withinSecond s := rfl
@[simp] theorem exec_spanWindowWrite {n wordB v} {s : State} : exec (.spanWindowWrite n wordB v) s = execSpanWindowWrite n wordB v s := rfl
@[simp] theorem exec_bxfArrive {who b v} {s : State} : exec (.bxfArrive who b v) s = execBxfArrive who b v s := rfl
@[simp] theorem exec_bxfBarArrive {b v} {s : State} : exec (.bxfBarArrive b v) s = execBxfBarArrive b v s := rfl
@[simp] theorem exec_barrierUnitEnable {b v} {s : State} : exec (.barrierUnitEnable b v) s = execBarrierUnitEnable b v s := rfl
@[simp] theorem exec_ringTask {part ctx} {s : State} : exec (.ringTask part ctx) s = execRingTask part ctx s := rfl
@[simp] theorem exec_ringWaitmem {part ctx} {s : State} : exec (.ringWaitmem part ctx) s = execRingWaitmem part ctx s := rfl
@[simp] theorem exec_ringWrite {part ctx} {s : State} : exec (.ringWrite part ctx) s = execRingWrite part ctx s := rfl
@[simp] theorem exec_ringPhase {part ctx} {s : State} : exec (.ringPhase part ctx) s = execRingPhase part ctx s := rfl
@[simp] theorem exec_ringNop {part ctx} {s : State} : exec (.ringNop part ctx) s = execRingNop part ctx s := rfl
@[simp] theorem exec_ringStallTimeout {part ctx} {s : State} : exec (.ringStallTimeout part ctx) s = execRingStallTimeout part ctx s := rfl
@[simp] theorem exec_ringCopy {part ctx} {s : State} : exec (.ringCopy part ctx) s = execRingCopy part ctx s := rfl
@[simp] theorem exec_copyEngineComplete {e host hostAgain} {s : State} : exec (.copyEngineComplete e host hostAgain) s = execCopyEngineComplete e host hostAgain s := rfl
@[simp] theorem exec_sealedPackageLoad {part ctx host} {s : State} : exec (.sealedPackageLoad part ctx host) s = execSealedPackageLoad part ctx host s := rfl
@[simp] theorem exec_sealedLoadComplete {e} {s : State} : exec (.sealedLoadComplete e) s = execSealedLoadComplete e s := rfl
@[simp] theorem exec_commandFetchComplete {part ctx entries} {s : State} : exec (.commandFetchComplete part ctx entries) s = execCommandFetchComplete part ctx entries s := rfl
@[simp] theorem exec_taskComplete {part ctx n} {s : State} : exec (.taskComplete part ctx n) s = execTaskComplete part ctx n s := rfl
@[simp] theorem exec_windowRead {fn ofs len} {s : State} : exec (.windowRead fn ofs len) s = execWindowRead fn ofs len s := rfl
@[simp] theorem exec_windowWrite {fn ofs data} {s : State} : exec (.windowWrite fn ofs data) s = execWindowWrite fn ofs data s := rfl
@[simp] theorem exec_registerWrite {who a v} {s : State} : exec (.registerWrite who a v) s = execRegisterWrite who a v s := rfl
@[simp] theorem exec_vfFlr {n} {s : State} : exec (.vfFlr n) s = execVfFlr n s := rfl
@[simp] theorem exec_hostRequestFailure {part ctx} {s : State} : exec (.hostRequestFailure part ctx) s = execHostRequestFailure part ctx s := rfl
@[simp] theorem exec_pcieAtomicop {fn ofs} {s : State} : exec (.pcieAtomicop fn ofs) s = execPcieAtomicop fn ofs s := rfl
@[simp] theorem exec_doeAbort {fn} {s : State} : exec (.doeAbort fn) s = execDoeAbort fn s := rfl
@[simp] theorem exec_doeDiscovery {fn} {s : State} : exec (.doeDiscovery fn) s = execDoeDiscovery fn s := rfl
@[simp] theorem exec_pcieLinkUp {lanes rate} {s : State} : exec (.pcieLinkUp lanes rate) s = execPcieLinkUp lanes rate s := rfl
@[simp] theorem exec_getVersion {via body} {s : State} : exec (.getVersion via body) s = execGetVersion via body s := rfl
@[simp] theorem exec_getCapabilities {via body} {s : State} : exec (.getCapabilities via body) s = execGetCapabilities via body s := rfl
@[simp] theorem exec_negotiateAlgorithms {via body} {s : State} : exec (.negotiateAlgorithms via body) s = execNegotiateAlgorithms via body s := rfl
@[simp] theorem exec_getDigests {via body} {s : State} : exec (.getDigests via body) s = execGetDigests via body s := rfl
@[simp] theorem exec_spdmFinish {via body} {s : State} : exec (.spdmFinish via body) s = execSpdmFinish via body s := rfl
@[simp] theorem exec_spdmHeartbeat {via body} {s : State} : exec (.spdmHeartbeat via body) s = execSpdmHeartbeat via body s := rfl
@[simp] theorem exec_keyUpdate {via body} {s : State} : exec (.keyUpdate via body) s = execKeyUpdate via body s := rfl
@[simp] theorem exec_endSession {via body} {s : State} : exec (.endSession via body) s = execEndSession via body s := rfl
@[simp] theorem exec_chunkSend {via body} {s : State} : exec (.chunkSend via body) s = execChunkSend via body s := rfl
@[simp] theorem exec_chunkGet {via body} {s : State} : exec (.chunkGet via body) s = execChunkGet via body s := rfl
@[simp] theorem exec_getCertificate {via slot ofs len} {s : State} : exec (.getCertificate via slot ofs len) s = execGetCertificate via slot ofs len s := rfl
@[simp] theorem exec_spdmChallenge {via body} {s : State} : exec (.spdmChallenge via body) s = execSpdmChallenge via body s := rfl
@[simp] theorem exec_keyExchange {via body} {s : State} : exec (.keyExchange via body) s = execKeyExchange via body s := rfl
@[simp] theorem exec_getMeasurements {via index signed body} {s : State} : exec (.getMeasurements via index signed body) s = execGetMeasurements via index signed body s := rfl
@[simp] theorem exec_kegRead {n nonce} {s : State} : exec (.kegRead n nonce) s = execKegRead n nonce s := rfl
@[simp] theorem exec_kegAdvance {n v nonce} {s : State} : exec (.kegAdvance n v nonce) s = execKegAdvance n v nonce s := rfl
@[simp] theorem exec_kegReserve {nonce} {s : State} : exec (.kegReserve nonce) s = execKegReserve nonce s := rfl
@[simp] theorem exec_kegSeed {nonce} {s : State} : exec (.kegSeed nonce) s = execKegSeed nonce s := rfl
@[simp] theorem exec_kegResponse {r} {s : State} : exec (.kegResponse r) s = execKegResponse r s := rfl
@[simp] theorem exec_recordProgramComplete (s : State) : exec (.recordProgramComplete) s = execRecordProgramComplete s := rfl
@[simp] theorem exec_keyLoad {part v} {s : State} : exec (.keyLoad part v) s = execKeyLoad part v s := rfl
@[simp] theorem exec_keyDrop {part v} {s : State} : exec (.keyDrop part v) s = execKeyDrop part v s := rfl
@[simp] theorem exec_keyLoadComplete {part} {s : State} : exec (.keyLoadComplete part) s = execKeyLoadComplete part s := rfl
@[simp] theorem exec_domainSwitch {n v} {s : State} : exec (.domainSwitch n v) s = execDomainSwitch n v s := rfl
@[simp] theorem exec_pllLock {n locked} {s : State} : exec (.pllLock n locked) s = execPllLock n locked s := rfl
@[simp] theorem exec_domainStopPoint {n} {s : State} : exec (.domainStopPoint n) s = execDomainStopPoint n s := rfl
@[simp] theorem exec_domainRestart {n} {s : State} : exec (.domainRestart n) s = execDomainRestart n s := rfl
@[simp] theorem exec_referenceFailure {src} {s : State} : exec (.referenceFailure src) s = execReferenceFailure src s := rfl
@[simp] theorem exec_pllLossOfLock {n} {s : State} : exec (.pllLossOfLock n) s = execPllLossOfLock n s := rfl
@[simp] theorem exec_trimWindow {err} {s : State} : exec (.trimWindow err) s = execTrimWindow err s := rfl
@[simp] theorem exec_unitWake {gate bit} {s : State} : exec (.unitWake gate bit) s = execUnitWake gate bit s := rfl
@[simp] theorem exec_currentLimitEvent {die} {s : State} : exec (.currentLimitEvent die) s = execCurrentLimitEvent die s := rfl
@[simp] theorem exec_currentLimitRelease {die} {s : State} : exec (.currentLimitRelease die) s = execCurrentLimitRelease die s := rfl
@[simp] theorem exec_droopEvent {cluster} {s : State} : exec (.droopEvent cluster) s = execDroopEvent cluster s := rfl
@[simp] theorem exec_coreFence {cause phys} {s : State} : exec (.coreFence cause phys) s = execCoreFence cause phys s := rfl
@[simp] theorem exec_coreArrayError {core array word correctable} {s : State} : exec (.coreArrayError core array word correctable) s = execCoreArrayError core array word correctable s := rfl
@[simp] theorem exec_inFieldTestComplete {passed} {s : State} : exec (.inFieldTestComplete passed) s = execInFieldTestComplete passed s := rfl
@[simp] theorem exec_d2dLaneFailure {port lane} {s : State} : exec (.d2dLaneFailure port lane) s = execD2dLaneFailure port lane s := rfl
@[simp] theorem exec_d2dTrainingComplete {port capTun capDie} {s : State} : exec (.d2dTrainingComplete port capTun capDie) s = execD2dTrainingComplete port capTun capDie s := rfl
@[simp] theorem exec_d2dTrainingTimeout {port withinSecond} {s : State} : exec (.d2dTrainingTimeout port withinSecond) s = execD2dTrainingTimeout port withinSecond s := rfl
@[simp] theorem exec_d2dRetrain {port v} {s : State} : exec (.d2dRetrain port v) s = execD2dRetrain port v s := rfl
@[simp] theorem exec_d2dPartialReset {port v} {s : State} : exec (.d2dPartialReset port v) s = execD2dPartialReset port v s := rfl
@[simp] theorem exec_d2dFatalError {port dieSide} {s : State} : exec (.d2dFatalError port dieSide) s = execD2dFatalError port dieSide s := rfl
@[simp] theorem exec_vinAuxOn {millivolts} {s : State} : exec (.vinAuxOn millivolts) s = execVinAuxOn millivolts s := rfl
@[simp] theorem exec_vinMainOn {millivolts} {s : State} : exec (.vinMainOn millivolts) s = execVinMainOn millivolts s := rfl
@[simp] theorem exec_bootStepEnd {r} {s : State} : exec (.bootStepEnd r) s = execBootStepEnd r s := rfl
@[simp] theorem exec_thermalTrip {what} {s : State} : exec (.thermalTrip what) s = execThermalTrip what s := rfl
@[simp] theorem exec_thermalRecheck {tj} {s : State} : exec (.thermalRecheck tj) s = execThermalRecheck tj s := rfl
@[simp] theorem exec_ideKm {m} {s : State} : exec (.ideKm m) s = execIdeKm m s := rfl
@[simp] theorem exec_ideIntegrityFailure {stream} {s : State} : exec (.ideIntegrityFailure stream) s = execIdeIntegrityFailure stream s := rfl

end Sys2Proof.Machine
end

