-- ==== Sys2Proof/Laws/Sparse.lean ====
section
/-!
SUPPORT. Sparse maps and byte memory: an entry read back, the others left alone, and the canonical form
kept by every operation.
-/
namespace Sys2Proof.Machine

variable {α β : Type}

@[simp] theorem SMap.find_nil (i : Nat) : SMap.find ([] : SMap α) i = none := rfl

@[simp] theorem SMap.get_nil (d : α) (i : Nat) : SMap.get d [] i = d := rfl

@[simp] theorem SMap.find_put_self (m : SMap α) (i : Nat) (x : α) : SMap.find (SMap.put m i x) i = some x := by
  induction m with
  | nil => simp [SMap.put, SMap.find]
  | cons e m ih =>
    obtain ⟨k, v⟩ := e
    simp only [SMap.put]
    split
    · simp [SMap.find]
    · split
      · simp [SMap.find]
      · next h => simpa [SMap.find, h] using ih

theorem SMap.find_put_ne (m : SMap α) {i j : Nat} (x : α) (h : j ≠ i) :
    SMap.find (SMap.put m i x) j = SMap.find m j := by
  induction m with
  | nil => simp [SMap.put, SMap.find, h]
  | cons e m ih =>
    obtain ⟨k, v⟩ := e
    simp only [SMap.put]
    split
    · simp [SMap.find, h]
    · split
      · next hk => subst hk; simp [SMap.find, h]
      · simp [SMap.find, ih]

@[simp] theorem SMap.find_drop_self (m : SMap α) (i : Nat) : SMap.find (SMap.drop m i) i = none := by
  induction m with
  | nil => rfl
  | cons e m ih =>
    obtain ⟨k, v⟩ := e
    simp only [SMap.drop]
    split
    · exact ih
    · next h => simpa [SMap.find, h] using ih

theorem SMap.find_drop_ne (m : SMap α) {i j : Nat} (h : j ≠ i) :
    SMap.find (SMap.drop m i) j = SMap.find m j := by
  induction m with
  | nil => rfl
  | cons e m ih =>
    obtain ⟨k, v⟩ := e
    simp only [SMap.drop]
    split
    · next hk => subst hk; simpa [SMap.find, h] using ih
    · simp [SMap.find, ih]

@[simp] theorem SMap.get_put_self (d : α) (m : SMap α) (i : Nat) (x : α) : SMap.get d (SMap.put m i x) i = x := by
  simp [SMap.get]

theorem SMap.get_put_ne (d : α) (m : SMap α) {i j : Nat} (x : α) (h : j ≠ i) :
    SMap.get d (SMap.put m i x) j = SMap.get d m j := by
  simp [SMap.get, SMap.find_put_ne m x h]

@[simp] theorem SMap.get_set_self [DecidableEq α] (d : α) (m : SMap α) (i : Nat) (x : α) :
    SMap.get d (SMap.set d m i x) i = x := by
  unfold SMap.set
  split
  · next h => simp [SMap.get, h]
  · simp [SMap.get]

theorem SMap.get_set_ne [DecidableEq α] (d : α) (m : SMap α) {i j : Nat} (x : α) (h : j ≠ i) :
    SMap.get d (SMap.set d m i x) j = SMap.get d m j := by
  unfold SMap.set
  split
  · simp [SMap.get, SMap.find_drop_ne m h]
  · simp [SMap.get, SMap.find_put_ne m x h]

/-- A key written with one default and read with another: another key is unchanged. -/
theorem SMap.get_set_other [DecidableEq α] (d d' : α) (m : SMap α) {i j : Nat} (x : α) (h : j ≠ i) :
    SMap.get d' (SMap.set d m i x) j = SMap.get d' m j := by
  unfold SMap.set
  split
  · simp [SMap.get, SMap.find_drop_ne m h]
  · simp [SMap.get, SMap.find_put_ne m x h]

/-! ### The canonical form -/

theorem SMap.mem_put {m : SMap α} {i : Nat} {x : α} {e : Nat × α} (h : e ∈ SMap.put m i x) :
    e = (i, x) ∨ e ∈ m := by
  induction m with
  | nil => exact .inl (List.mem_singleton.1 h)
  | cons c m ih =>
    obtain ⟨k, v⟩ := c
    simp only [SMap.put] at h
    split at h
    · simpa using h
    · split at h
      · simp only [List.mem_cons] at h ⊢
        tauto
      · simp only [List.mem_cons] at h ⊢
        rcases h with h | h
        · exact .inr (.inl h)
        · rcases ih h with h | h
          · exact .inl h
          · exact .inr (.inr h)

theorem SMap.mem_drop {m : SMap α} {i : Nat} {e : Nat × α} (h : e ∈ SMap.drop m i) : e ∈ m := by
  induction m with
  | nil => exact h
  | cons c m ih =>
    obtain ⟨k, v⟩ := c
    simp only [SMap.drop] at h
    split at h
    · exact List.mem_cons_of_mem _ (ih h)
    · simp only [List.mem_cons] at h ⊢
      exact h.imp id ih

theorem SMap.put_rising {m : SMap α} (h : SMap.Rising m) (i : Nat) (x : α) : SMap.Rising (SMap.put m i x) := by
  induction m with
  | nil => simp [SMap.put]
  | cons c m ih =>
    obtain ⟨k, v⟩ := c
    have hm := (List.pairwise_cons.1 h)
    simp only [SMap.put]
    split
    · next hk =>
      refine List.pairwise_cons.2 ⟨?_, h⟩
      intro e he
      rcases List.mem_cons.1 he with rfl | he
      · exact hk
      · exact lt_trans hk (hm.1 e he)
    · split
      · next hk => subst hk; exact List.pairwise_cons.2 ⟨hm.1, hm.2⟩
      · next h1 h2 =>
        refine List.pairwise_cons.2 ⟨?_, ih hm.2⟩
        intro e he
        rcases SMap.mem_put he with rfl | he
        · simp only; omega
        · exact hm.1 e he

theorem SMap.drop_rising {m : SMap α} (h : SMap.Rising m) (i : Nat) : SMap.Rising (SMap.drop m i) := by
  induction m with
  | nil => exact h
  | cons c m ih =>
    obtain ⟨k, v⟩ := c
    have hm := (List.pairwise_cons.1 h)
    simp only [SMap.drop]
    split
    · exact ih hm.2
    · exact List.pairwise_cons.2 ⟨fun e he => hm.1 e (SMap.mem_drop he), ih hm.2⟩

theorem SMap.set_rising [DecidableEq α] {m : SMap α} (h : SMap.Rising m) (d : α) (i : Nat) (x : α) :
    SMap.Rising (SMap.set d m i x) := by
  unfold SMap.set
  split
  · exact SMap.drop_rising h i
  · exact SMap.put_rising h i x

theorem SMap.keep_rising {m : SMap α} (h : SMap.Rising m) (p : Nat → α → Bool) : SMap.Rising (SMap.keep p m) :=
  List.Pairwise.filter _ h

/-! ### Byte memory -/

@[simp] theorem Memory.read_nil (a : Nat) : Memory.read [] a = 0 := rfl

@[simp] theorem Memory.read_write_self (m : Memory) (a : Nat) (b : Byte) : (Memory.write m a b).read a = b := by
  simp [Memory.read, Memory.write]

theorem Memory.read_write_ne (m : Memory) {a a' : Nat} (b : Byte) (h : a' ≠ a) :
    (Memory.write m a b).read a' = Memory.read m a' := by
  exact SMap.get_set_ne _ m b h

theorem Memory.read_writeN_outside (bs : List Byte) (m : Memory) {a a' : Nat} (h : a' < a ∨ a + bs.length ≤ a') :
    (Memory.writeN m a bs).read a' = Memory.read m a' := by
  induction bs generalizing m a with
  | nil => rfl
  | cons b bs ih =>
    simp only [List.length_cons] at h
    rw [Memory.writeN, ih _ (by omega), Memory.read_write_ne _ _ (by omega)]

theorem Memory.read_writeN (bs : List Byte) (m : Memory) (a k : Nat) (h : k < bs.length) :
    (Memory.writeN m a bs).read (a + k) = bs[k] := by
  induction bs generalizing m a k with
  | nil => simp at h
  | cons b bs ih =>
    cases k with
    | zero => rw [Memory.writeN, Memory.read_writeN_outside _ _ (by omega)]; simp
    | succ k =>
      have := ih (m.write a b) (a + 1) k (by simpa using h)
      rw [Memory.writeN, show a + (k + 1) = a + 1 + k by omega, this]; rfl

theorem Memory.readN_writeN (bs : List Byte) (m : Memory) (a : Nat) :
    (Memory.writeN m a bs).readN a bs.length = bs := by
  induction bs generalizing m a with
  | nil => rfl
  | cons b bs ih =>
    rw [List.length_cons, Memory.readN, Memory.writeN, ih, Memory.read_writeN_outside _ _ (by omega)]
    simp

theorem Memory.wf_nil : Memory.wf [] := by simp [Memory.wf]

theorem Memory.write_wf {m : Memory} (h : m.wf) (a : Nat) (b : Byte) : (Memory.write m a b).wf := by
  refine ⟨SMap.set_rising h.1 0 a b, fun c hc => ?_⟩
  unfold Memory.write SMap.set at hc
  split at hc
  · exact h.2 c (SMap.mem_drop hc)
  · next hb =>
    rcases SMap.mem_put hc with rfl | hc
    · exact hb
    · exact h.2 c hc

theorem Memory.writeN_wf {m : Memory} (h : m.wf) (a : Nat) (bs : List Byte) : (Memory.writeN m a bs).wf := by
  induction bs generalizing m a with
  | nil => exact h
  | cons b bs ih => exact ih (Memory.write_wf h a b) (a + 1)

theorem Memory.clear_wf {m : Memory} (h : m.wf) (lo n : Nat) : (Memory.clear m lo n).wf :=
  ⟨SMap.keep_rising h.1 _, fun c hc => h.2 c (List.mem_of_mem_filter hc)⟩

end Sys2Proof.Machine
end

