-- ==== Sys2Proof/Laws/Regs.lean ====
section
/-!
SUPPORT. Registers: a word or a field read back after a write, and every other word and field left alone.
-/
namespace Sys2Proof.Machine

theorem Reg.num_inj {r q : Reg} (h : r.num = q.num) : r = q := by
  rw [← Reg.ofNat_ctorIdx r, ← Reg.ofNat_ctorIdx q]
  unfold Reg.num at h
  rw [h]

/-- Two registers, or two words of one array, have different keys (indices below 2^24). -/
theorem Reg.key_ne {r q : Reg} {i j : Nat} (hi : i < 2 ^ 24) (hj : j < 2 ^ 24) (h : r ≠ q ∨ i ≠ j) :
    r.key i ≠ q.key j := by
  intro hk
  unfold Reg.key at hk
  rcases h with h | h
  · exact h (Reg.num_inj (by omega))
  · omega

theorem State.rget_of_regs {s t : State} (h : t.regs = s.regs) (r : Reg) (i : Nat) : t.rget r i = s.rget r i := by
  simp [State.rget, h]

theorem State.f_of_regs {s t : State} (h : t.regs = s.regs) (x : Fld) (i : Nat) : t.f x i = s.f x i := by
  simp [State.f, State.rget_of_regs h]

theorem State.b_of_regs {s t : State} (h : t.regs = s.regs) (x : Fld) (i : Nat) : t.b x i = s.b x i := by
  simp [State.b, State.f_of_regs h]

@[simp] theorem State.rget_rset_self (s : State) (r : Reg) (i : Nat) (v : W32) : (s.rset r i v).rget r i = v := by
  simp [State.rget, State.rset]

theorem State.rget_rset_key (s : State) {r q : Reg} {i j : Nat} (v : W32) (h : q.key j ≠ r.key i) :
    (s.rset r i v).rget q j = s.rget q j :=
  SMap.get_set_other _ _ _ v h

theorem State.rget_rset_ne (s : State) {r q : Reg} {i j : Nat} (v : W32) (hi : i < 2 ^ 24) (hj : j < 2 ^ 24)
    (h : q ≠ r ∨ j ≠ i) : (s.rset r i v).rget q j = s.rget q j :=
  State.rget_rset_key s v (Reg.key_ne hj hi h)

/-! ### Fields -/

theorem bitsOf_lt (w : W32) (lo n : Nat) : bitsOf w lo n < 2 ^ n := Nat.mod_lt _ (by positivity)

theorem withBits_toNat (w : W32) {lo n : Nat} (v : Nat) (h : lo + n ≤ 32) :
    (withBits w lo n v).toNat =
      w.toNat / 2 ^ (lo + n) * 2 ^ (lo + n) + v % 2 ^ n * 2 ^ lo + w.toNat % 2 ^ lo := by
  have hw : w.toNat / 2 ^ (lo + n) < 2 ^ (32 - (lo + n)) := by
    rw [Nat.div_lt_iff_lt_mul (by positivity), ← Nat.pow_add]
    simpa [Nat.sub_add_cancel h] using w.isLt
  have hv : v % 2 ^ n < 2 ^ n := Nat.mod_lt _ (by positivity)
  have hl : w.toNat % 2 ^ lo < 2 ^ lo := Nat.mod_lt _ (by positivity)
  have hm : v % 2 ^ n * 2 ^ lo + 2 ^ lo ≤ 2 ^ (lo + n) := by
    calc v % 2 ^ n * 2 ^ lo + 2 ^ lo = (v % 2 ^ n + 1) * 2 ^ lo := by ring
      _ ≤ 2 ^ n * 2 ^ lo := Nat.mul_le_mul_right _ hv
      _ = 2 ^ (lo + n) := by rw [← Nat.pow_add, Nat.add_comm]
  have ha : w.toNat / 2 ^ (lo + n) * 2 ^ (lo + n) + 2 ^ (lo + n) ≤ 2 ^ 32 := by
    calc _ = (w.toNat / 2 ^ (lo + n) + 1) * 2 ^ (lo + n) := by ring
      _ ≤ 2 ^ (32 - (lo + n)) * 2 ^ (lo + n) := Nat.mul_le_mul_right _ hw
      _ = 2 ^ 32 := by rw [← Nat.pow_add, Nat.sub_add_cancel h]
  rw [withBits, BitVec.toNat_ofNat, Nat.mod_eq_of_lt (by omega)]

theorem withBits_testBit (w : W32) {lo n : Nat} (v : Nat) (h : lo + n ≤ 32) (i : Nat) :
    (withBits w lo n v).toNat.testBit i =
      if i < lo then w.toNat.testBit i else if i < lo + n then v.testBit (i - lo) else w.toNat.testBit i := by
  have hl : w.toNat % 2 ^ lo < 2 ^ lo := Nat.mod_lt _ (by positivity)
  have e : w.toNat / 2 ^ (lo + n) * 2 ^ (lo + n) + v % 2 ^ n * 2 ^ lo + w.toNat % 2 ^ lo =
      2 ^ lo * (2 ^ n * (w.toNat / 2 ^ (lo + n)) + v % 2 ^ n) + w.toNat % 2 ^ lo := by
    rw [Nat.pow_add]; ring
  have hv : v % 2 ^ n < 2 ^ n := Nat.mod_lt _ (by positivity)
  rw [withBits_toNat w v h, e, Nat.testBit_two_pow_mul_add _ hl]
  split
  · next hi => simp [Nat.testBit_mod_two_pow, hi]
  · next hi =>
    rw [Nat.testBit_two_pow_mul_add _ hv]
    by_cases hn : i < lo + n
    · rw [if_pos (by omega), if_pos hn, Nat.testBit_mod_two_pow]
      simp [show i - lo < n by omega]
    · rw [if_neg (by omega), if_neg hn, Nat.testBit_div_two_pow]
      congr 1; omega

/-- A field reads back what was written to it. -/
theorem bitsOf_withBits_self (w : W32) {lo n : Nat} (v : Nat) (h : lo + n ≤ 32) :
    bitsOf (withBits w lo n v) lo n = v % 2 ^ n := by
  refine Nat.eq_of_testBit_eq fun i => ?_
  rw [bitsOf, Nat.testBit_mod_two_pow, Nat.testBit_mod_two_pow, Nat.testBit_div_two_pow,
    withBits_testBit w v h]
  by_cases hi : i < n
  · rw [if_neg (by omega), if_pos (by omega), Nat.add_sub_cancel]
  · simp [hi]

/-- A field that does not meet the one written keeps its value. -/
theorem bitsOf_withBits_other (w : W32) {lo n lo' n' : Nat} (v : Nat) (h : lo + n ≤ 32)
    (hd : lo' + n' ≤ lo ∨ lo + n ≤ lo') : bitsOf (withBits w lo n v) lo' n' = bitsOf w lo' n' := by
  refine Nat.eq_of_testBit_eq fun i => ?_
  rw [bitsOf, bitsOf, Nat.testBit_mod_two_pow, Nat.testBit_mod_two_pow, Nat.testBit_div_two_pow,
    Nat.testBit_div_two_pow, withBits_testBit w v h]
  by_cases hi : i < n'
  · rcases hd with hd | hd
    · rw [if_pos (by omega)]
    · rw [if_neg (by omega), if_neg (by omega)]
  · simp [hi]

theorem State.f_setF_self (s : State) (x : Fld) (i v : Nat) (h : x.lo + x.n ≤ 32) :
    (s.setF x i v).f x i = v % 2 ^ x.n := by
  simp [State.f, State.setF, bitsOf_withBits_self _ _ h]

/-- Another field of the same word. -/
theorem State.f_setF_field (s : State) {x y : Fld} (i v : Nat) (h : x.lo + x.n ≤ 32) (hr : y.reg = x.reg)
    (hd : y.lo + y.n ≤ x.lo ∨ x.lo + x.n ≤ y.lo) : (s.setF x i v).f y i = s.f y i := by
  simp [State.f, State.setF, hr, bitsOf_withBits_other _ _ h hd]

/-- A field of another word. -/
theorem State.f_setF_ne (s : State) {x y : Fld} {i j : Nat} (v : Nat) (hi : i < 2 ^ 24) (hj : j < 2 ^ 24)
    (h : y.reg ≠ x.reg ∨ j ≠ i) : (s.setF x i v).f y j = s.f y j := by
  simp [State.f, State.setF, State.rget_rset_ne s _ hi hj h]

/-! ### Event counters -/

theorem State.eventCount_of_regs {s t : State} (h : t.regs = s.regs) (lo hi : Reg) (i : Nat) :
    t.eventCount lo hi i = s.eventCount lo hi i := by
  simp [State.eventCount, State.rget_of_regs h]

/-- An event counter advances modulo 2^48. -/
theorem State.eventCount_bump (s : State) {lo hi : Reg} {i : Nat} (k : Nat) (h : lo ≠ hi) (hi' : i < 2 ^ 24) :
    (s.bump lo hi i k).eventCount lo hi i = (s.eventCount lo hi i + k) % 2 ^ 48 := by
  have e (c : Nat) : c % 2 ^ 32 + c / 2 ^ 32 % 2 ^ 16 * 2 ^ 32 = c % 2 ^ 48 := by omega
  rw [← e]
  unfold State.bump State.eventCount carryHi
  simp only [State.rget_rset_self]
  rw [State.rget_rset_ne _ _ hi' hi' (.inl h), State.rget_rset_self, BitVec.toNat_ofNat]
  congr 2
  split
  · rw [bitsOf_withBits_other _ _ (by decide) (by decide), bitsOf_withBits_self _ _ (by decide)]
  · rw [bitsOf_withBits_self _ _ (by decide)]

/-- A counter leaves the words of other registers alone. -/
theorem State.rget_bump_ne (s : State) {lo hi r : Reg} {i j : Nat} (k : Nat) (hi' : i < 2 ^ 24) (hj : j < 2 ^ 24)
    (h : j ≠ i ∨ (r ≠ lo ∧ r ≠ hi)) : (s.bump lo hi i k).rget r j = s.rget r j := by
  unfold State.bump
  rw [State.rget_rset_ne _ _ hi' hj (by tauto), State.rget_rset_ne _ _ hi' hj (by tauto)]

end Sys2Proof.Machine
end

