-- ==== Sys2Proof/Laws/State.lean ====
section
/-!
SUPPORT. One lemma for each field of the state and each basic update that leaves it alone, so that no proof unfolds
a record update.
-/
namespace Sys2Proof.Machine

@[simp] theorem State.rset_lows (s : State) (r : Reg) (i : Nat) (v : W32) : (s.rset r i v).lows = s.lows := rfl
@[simp] theorem State.rset_aon (s : State) (r : Reg) (i : Nat) (v : W32) : (s.rset r i v).aon = s.aon := rfl
@[simp] theorem State.rset_aonCopy (s : State) (r : Reg) (i : Nat) (v : W32) : (s.rset r i v).aonCopy = s.aonCopy := rfl
@[simp] theorem State.rset_co (s : State) (r : Reg) (i : Nat) (v : W32) : (s.rset r i v).co = s.co := rfl
@[simp] theorem State.rset_mem (s : State) (r : Reg) (i : Nat) (v : W32) : (s.rset r i v).mem = s.mem := rfl
@[simp] theorem State.rset_hbm (s : State) (r : Reg) (i : Nat) (v : W32) : (s.rset r i v).hbm = s.hbm := rfl
@[simp] theorem State.rset_fab (s : State) (r : Reg) (i : Nat) (v : W32) : (s.rset r i v).fab = s.fab := rfl
@[simp] theorem State.rset_tun (s : State) (r : Reg) (i : Nat) (v : W32) : (s.rset r i v).tun = s.tun := rfl
@[simp] theorem State.rset_views (s : State) (r : Reg) (i : Nat) (v : W32) : (s.rset r i v).views = s.views := rfl
@[simp] theorem State.rset_host (s : State) (r : Reg) (i : Nat) (v : W32) : (s.rset r i v).host = s.host := rfl
@[simp] theorem State.rset_sec (s : State) (r : Reg) (i : Nat) (v : W32) : (s.rset r i v).sec = s.sec := rfl
@[simp] theorem State.rset_clk (s : State) (r : Reg) (i : Nat) (v : W32) : (s.rset r i v).clk = s.clk := rfl
@[simp] theorem State.rset_ras (s : State) (r : Reg) (i : Nat) (v : W32) : (s.rset r i v).ras = s.ras := rfl
@[simp] theorem State.rset_boot (s : State) (r : Reg) (i : Nat) (v : W32) : (s.rset r i v).boot = s.boot := rfl
@[simp] theorem State.rset_out (s : State) (r : Reg) (i : Nat) (v : W32) : (s.rset r i v).out = s.out := rfl
@[simp] theorem State.rset_free (s : State) (r : Reg) (i : Nat) (v : W32) : (s.rset r i v).free = s.free := rfl
@[simp] theorem State.rset_pending (s : State) (r : Reg) (i : Nat) (v : W32) : (s.rset r i v).pending = s.pending := rfl

@[simp] theorem State.setF_lows (s : State) (x : Fld) (i v : Nat) : (s.setF x i v).lows = s.lows := rfl
@[simp] theorem State.setF_aon (s : State) (x : Fld) (i v : Nat) : (s.setF x i v).aon = s.aon := rfl
@[simp] theorem State.setF_aonCopy (s : State) (x : Fld) (i v : Nat) : (s.setF x i v).aonCopy = s.aonCopy := rfl
@[simp] theorem State.setF_co (s : State) (x : Fld) (i v : Nat) : (s.setF x i v).co = s.co := rfl
@[simp] theorem State.setF_mem (s : State) (x : Fld) (i v : Nat) : (s.setF x i v).mem = s.mem := rfl
@[simp] theorem State.setF_hbm (s : State) (x : Fld) (i v : Nat) : (s.setF x i v).hbm = s.hbm := rfl
@[simp] theorem State.setF_fab (s : State) (x : Fld) (i v : Nat) : (s.setF x i v).fab = s.fab := rfl
@[simp] theorem State.setF_tun (s : State) (x : Fld) (i v : Nat) : (s.setF x i v).tun = s.tun := rfl
@[simp] theorem State.setF_views (s : State) (x : Fld) (i v : Nat) : (s.setF x i v).views = s.views := rfl
@[simp] theorem State.setF_host (s : State) (x : Fld) (i v : Nat) : (s.setF x i v).host = s.host := rfl
@[simp] theorem State.setF_sec (s : State) (x : Fld) (i v : Nat) : (s.setF x i v).sec = s.sec := rfl
@[simp] theorem State.setF_clk (s : State) (x : Fld) (i v : Nat) : (s.setF x i v).clk = s.clk := rfl
@[simp] theorem State.setF_ras (s : State) (x : Fld) (i v : Nat) : (s.setF x i v).ras = s.ras := rfl
@[simp] theorem State.setF_boot (s : State) (x : Fld) (i v : Nat) : (s.setF x i v).boot = s.boot := rfl
@[simp] theorem State.setF_out (s : State) (x : Fld) (i v : Nat) : (s.setF x i v).out = s.out := rfl
@[simp] theorem State.setF_free (s : State) (x : Fld) (i v : Nat) : (s.setF x i v).free = s.free := rfl
@[simp] theorem State.setF_pending (s : State) (x : Fld) (i v : Nat) : (s.setF x i v).pending = s.pending := rfl

@[simp] theorem State.setPair_lows (s : State) (lo hi : Reg) (i : Nat) (v : W64) : (s.setPair lo hi i v).lows = s.lows := rfl
@[simp] theorem State.setPair_aon (s : State) (lo hi : Reg) (i : Nat) (v : W64) : (s.setPair lo hi i v).aon = s.aon := rfl
@[simp] theorem State.setPair_aonCopy (s : State) (lo hi : Reg) (i : Nat) (v : W64) : (s.setPair lo hi i v).aonCopy = s.aonCopy := rfl
@[simp] theorem State.setPair_co (s : State) (lo hi : Reg) (i : Nat) (v : W64) : (s.setPair lo hi i v).co = s.co := rfl
@[simp] theorem State.setPair_mem (s : State) (lo hi : Reg) (i : Nat) (v : W64) : (s.setPair lo hi i v).mem = s.mem := rfl
@[simp] theorem State.setPair_hbm (s : State) (lo hi : Reg) (i : Nat) (v : W64) : (s.setPair lo hi i v).hbm = s.hbm := rfl
@[simp] theorem State.setPair_fab (s : State) (lo hi : Reg) (i : Nat) (v : W64) : (s.setPair lo hi i v).fab = s.fab := rfl
@[simp] theorem State.setPair_tun (s : State) (lo hi : Reg) (i : Nat) (v : W64) : (s.setPair lo hi i v).tun = s.tun := rfl
@[simp] theorem State.setPair_views (s : State) (lo hi : Reg) (i : Nat) (v : W64) : (s.setPair lo hi i v).views = s.views := rfl
@[simp] theorem State.setPair_host (s : State) (lo hi : Reg) (i : Nat) (v : W64) : (s.setPair lo hi i v).host = s.host := rfl
@[simp] theorem State.setPair_sec (s : State) (lo hi : Reg) (i : Nat) (v : W64) : (s.setPair lo hi i v).sec = s.sec := rfl
@[simp] theorem State.setPair_clk (s : State) (lo hi : Reg) (i : Nat) (v : W64) : (s.setPair lo hi i v).clk = s.clk := rfl
@[simp] theorem State.setPair_ras (s : State) (lo hi : Reg) (i : Nat) (v : W64) : (s.setPair lo hi i v).ras = s.ras := rfl
@[simp] theorem State.setPair_boot (s : State) (lo hi : Reg) (i : Nat) (v : W64) : (s.setPair lo hi i v).boot = s.boot := rfl
@[simp] theorem State.setPair_out (s : State) (lo hi : Reg) (i : Nat) (v : W64) : (s.setPair lo hi i v).out = s.out := rfl
@[simp] theorem State.setPair_free (s : State) (lo hi : Reg) (i : Nat) (v : W64) : (s.setPair lo hi i v).free = s.free := rfl
@[simp] theorem State.setPair_pending (s : State) (lo hi : Reg) (i : Nat) (v : W64) : (s.setPair lo hi i v).pending = s.pending := rfl

@[simp] theorem State.bump_lows (s : State) (lo hi : Reg) (i k : Nat) : (s.bump lo hi i k).lows = s.lows := (State.rset_lows _ _ _ _).trans (State.rset_lows _ _ _ _)
@[simp] theorem State.bump_aon (s : State) (lo hi : Reg) (i k : Nat) : (s.bump lo hi i k).aon = s.aon := (State.rset_aon _ _ _ _).trans (State.rset_aon _ _ _ _)
@[simp] theorem State.bump_aonCopy (s : State) (lo hi : Reg) (i k : Nat) : (s.bump lo hi i k).aonCopy = s.aonCopy := (State.rset_aonCopy _ _ _ _).trans (State.rset_aonCopy _ _ _ _)
@[simp] theorem State.bump_co (s : State) (lo hi : Reg) (i k : Nat) : (s.bump lo hi i k).co = s.co := (State.rset_co _ _ _ _).trans (State.rset_co _ _ _ _)
@[simp] theorem State.bump_mem (s : State) (lo hi : Reg) (i k : Nat) : (s.bump lo hi i k).mem = s.mem := (State.rset_mem _ _ _ _).trans (State.rset_mem _ _ _ _)
@[simp] theorem State.bump_hbm (s : State) (lo hi : Reg) (i k : Nat) : (s.bump lo hi i k).hbm = s.hbm := (State.rset_hbm _ _ _ _).trans (State.rset_hbm _ _ _ _)
@[simp] theorem State.bump_fab (s : State) (lo hi : Reg) (i k : Nat) : (s.bump lo hi i k).fab = s.fab := (State.rset_fab _ _ _ _).trans (State.rset_fab _ _ _ _)
@[simp] theorem State.bump_tun (s : State) (lo hi : Reg) (i k : Nat) : (s.bump lo hi i k).tun = s.tun := (State.rset_tun _ _ _ _).trans (State.rset_tun _ _ _ _)
@[simp] theorem State.bump_views (s : State) (lo hi : Reg) (i k : Nat) : (s.bump lo hi i k).views = s.views := (State.rset_views _ _ _ _).trans (State.rset_views _ _ _ _)
@[simp] theorem State.bump_host (s : State) (lo hi : Reg) (i k : Nat) : (s.bump lo hi i k).host = s.host := (State.rset_host _ _ _ _).trans (State.rset_host _ _ _ _)
@[simp] theorem State.bump_sec (s : State) (lo hi : Reg) (i k : Nat) : (s.bump lo hi i k).sec = s.sec := (State.rset_sec _ _ _ _).trans (State.rset_sec _ _ _ _)
@[simp] theorem State.bump_clk (s : State) (lo hi : Reg) (i k : Nat) : (s.bump lo hi i k).clk = s.clk := (State.rset_clk _ _ _ _).trans (State.rset_clk _ _ _ _)
@[simp] theorem State.bump_ras (s : State) (lo hi : Reg) (i k : Nat) : (s.bump lo hi i k).ras = s.ras := (State.rset_ras _ _ _ _).trans (State.rset_ras _ _ _ _)
@[simp] theorem State.bump_boot (s : State) (lo hi : Reg) (i k : Nat) : (s.bump lo hi i k).boot = s.boot := (State.rset_boot _ _ _ _).trans (State.rset_boot _ _ _ _)
@[simp] theorem State.bump_out (s : State) (lo hi : Reg) (i k : Nat) : (s.bump lo hi i k).out = s.out := (State.rset_out _ _ _ _).trans (State.rset_out _ _ _ _)
@[simp] theorem State.bump_free (s : State) (lo hi : Reg) (i k : Nat) : (s.bump lo hi i k).free = s.free := (State.rset_free _ _ _ _).trans (State.rset_free _ _ _ _)
@[simp] theorem State.bump_pending (s : State) (lo hi : Reg) (i k : Nat) : (s.bump lo hi i k).pending = s.pending := (State.rset_pending _ _ _ _).trans (State.rset_pending _ _ _ _)

@[simp] theorem State.setCtxState_lows (s : State) (key st : Nat) : (s.setCtxState key st).lows = s.lows := rfl
@[simp] theorem State.setCtxState_aon (s : State) (key st : Nat) : (s.setCtxState key st).aon = s.aon := rfl
@[simp] theorem State.setCtxState_aonCopy (s : State) (key st : Nat) : (s.setCtxState key st).aonCopy = s.aonCopy := rfl
@[simp] theorem State.setCtxState_co (s : State) (key st : Nat) : (s.setCtxState key st).co = s.co := rfl
@[simp] theorem State.setCtxState_mem (s : State) (key st : Nat) : (s.setCtxState key st).mem = s.mem := rfl
@[simp] theorem State.setCtxState_hbm (s : State) (key st : Nat) : (s.setCtxState key st).hbm = s.hbm := rfl
@[simp] theorem State.setCtxState_fab (s : State) (key st : Nat) : (s.setCtxState key st).fab = s.fab := rfl
@[simp] theorem State.setCtxState_tun (s : State) (key st : Nat) : (s.setCtxState key st).tun = s.tun := rfl
@[simp] theorem State.setCtxState_views (s : State) (key st : Nat) : (s.setCtxState key st).views = s.views := rfl
@[simp] theorem State.setCtxState_host (s : State) (key st : Nat) : (s.setCtxState key st).host = s.host := rfl
@[simp] theorem State.setCtxState_sec (s : State) (key st : Nat) : (s.setCtxState key st).sec = s.sec := rfl
@[simp] theorem State.setCtxState_clk (s : State) (key st : Nat) : (s.setCtxState key st).clk = s.clk := rfl
@[simp] theorem State.setCtxState_ras (s : State) (key st : Nat) : (s.setCtxState key st).ras = s.ras := rfl
@[simp] theorem State.setCtxState_boot (s : State) (key st : Nat) : (s.setCtxState key st).boot = s.boot := rfl
@[simp] theorem State.setCtxState_out (s : State) (key st : Nat) : (s.setCtxState key st).out = s.out := rfl
@[simp] theorem State.setCtxState_free (s : State) (key st : Nat) : (s.setCtxState key st).free = s.free := rfl
@[simp] theorem State.setCtxState_pending (s : State) (key st : Nat) : (s.setCtxState key st).pending = s.pending := rfl

@[simp] theorem State.setGroup_regs (s : State) (i : Issuer) (g : Group) : (s.setGroup i g).regs = s.regs := rfl
@[simp] theorem State.setGroup_lows (s : State) (i : Issuer) (g : Group) : (s.setGroup i g).lows = s.lows := rfl
@[simp] theorem State.setGroup_aon (s : State) (i : Issuer) (g : Group) : (s.setGroup i g).aon = s.aon := rfl
@[simp] theorem State.setGroup_aonCopy (s : State) (i : Issuer) (g : Group) : (s.setGroup i g).aonCopy = s.aonCopy := rfl
@[simp] theorem State.setGroup_mem (s : State) (i : Issuer) (g : Group) : (s.setGroup i g).mem = s.mem := rfl
@[simp] theorem State.setGroup_hbm (s : State) (i : Issuer) (g : Group) : (s.setGroup i g).hbm = s.hbm := rfl
@[simp] theorem State.setGroup_fab (s : State) (i : Issuer) (g : Group) : (s.setGroup i g).fab = s.fab := rfl
@[simp] theorem State.setGroup_tun (s : State) (i : Issuer) (g : Group) : (s.setGroup i g).tun = s.tun := rfl
@[simp] theorem State.setGroup_views (s : State) (i : Issuer) (g : Group) : (s.setGroup i g).views = s.views := rfl
@[simp] theorem State.setGroup_host (s : State) (i : Issuer) (g : Group) : (s.setGroup i g).host = s.host := rfl
@[simp] theorem State.setGroup_sec (s : State) (i : Issuer) (g : Group) : (s.setGroup i g).sec = s.sec := rfl
@[simp] theorem State.setGroup_clk (s : State) (i : Issuer) (g : Group) : (s.setGroup i g).clk = s.clk := rfl
@[simp] theorem State.setGroup_ras (s : State) (i : Issuer) (g : Group) : (s.setGroup i g).ras = s.ras := rfl
@[simp] theorem State.setGroup_boot (s : State) (i : Issuer) (g : Group) : (s.setGroup i g).boot = s.boot := rfl
@[simp] theorem State.setGroup_out (s : State) (i : Issuer) (g : Group) : (s.setGroup i g).out = s.out := rfl
@[simp] theorem State.setGroup_free (s : State) (i : Issuer) (g : Group) : (s.setGroup i g).free = s.free := rfl
@[simp] theorem State.setGroup_pending (s : State) (i : Issuer) (g : Group) : (s.setGroup i g).pending = s.pending := rfl

@[simp] theorem State.setCore_regs (s : State) (c : Nat) (x : CoreSt) : (s.setCore c x).regs = s.regs := rfl
@[simp] theorem State.setCore_lows (s : State) (c : Nat) (x : CoreSt) : (s.setCore c x).lows = s.lows := rfl
@[simp] theorem State.setCore_aon (s : State) (c : Nat) (x : CoreSt) : (s.setCore c x).aon = s.aon := rfl
@[simp] theorem State.setCore_aonCopy (s : State) (c : Nat) (x : CoreSt) : (s.setCore c x).aonCopy = s.aonCopy := rfl
@[simp] theorem State.setCore_mem (s : State) (c : Nat) (x : CoreSt) : (s.setCore c x).mem = s.mem := rfl
@[simp] theorem State.setCore_hbm (s : State) (c : Nat) (x : CoreSt) : (s.setCore c x).hbm = s.hbm := rfl
@[simp] theorem State.setCore_fab (s : State) (c : Nat) (x : CoreSt) : (s.setCore c x).fab = s.fab := rfl
@[simp] theorem State.setCore_tun (s : State) (c : Nat) (x : CoreSt) : (s.setCore c x).tun = s.tun := rfl
@[simp] theorem State.setCore_views (s : State) (c : Nat) (x : CoreSt) : (s.setCore c x).views = s.views := rfl
@[simp] theorem State.setCore_host (s : State) (c : Nat) (x : CoreSt) : (s.setCore c x).host = s.host := rfl
@[simp] theorem State.setCore_sec (s : State) (c : Nat) (x : CoreSt) : (s.setCore c x).sec = s.sec := rfl
@[simp] theorem State.setCore_clk (s : State) (c : Nat) (x : CoreSt) : (s.setCore c x).clk = s.clk := rfl
@[simp] theorem State.setCore_ras (s : State) (c : Nat) (x : CoreSt) : (s.setCore c x).ras = s.ras := rfl
@[simp] theorem State.setCore_boot (s : State) (c : Nat) (x : CoreSt) : (s.setCore c x).boot = s.boot := rfl
@[simp] theorem State.setCore_out (s : State) (c : Nat) (x : CoreSt) : (s.setCore c x).out = s.out := rfl
@[simp] theorem State.setCore_free (s : State) (c : Nat) (x : CoreSt) : (s.setCore c x).free = s.free := rfl
@[simp] theorem State.setCore_pending (s : State) (c : Nat) (x : CoreSt) : (s.setCore c x).pending = s.pending := rfl

@[simp] theorem State.setFn_regs (s : State) (n : Nat) (x : FnSt) : (s.setFn n x).regs = s.regs := rfl
@[simp] theorem State.setFn_lows (s : State) (n : Nat) (x : FnSt) : (s.setFn n x).lows = s.lows := rfl
@[simp] theorem State.setFn_aon (s : State) (n : Nat) (x : FnSt) : (s.setFn n x).aon = s.aon := rfl
@[simp] theorem State.setFn_aonCopy (s : State) (n : Nat) (x : FnSt) : (s.setFn n x).aonCopy = s.aonCopy := rfl
@[simp] theorem State.setFn_co (s : State) (n : Nat) (x : FnSt) : (s.setFn n x).co = s.co := rfl
@[simp] theorem State.setFn_mem (s : State) (n : Nat) (x : FnSt) : (s.setFn n x).mem = s.mem := rfl
@[simp] theorem State.setFn_hbm (s : State) (n : Nat) (x : FnSt) : (s.setFn n x).hbm = s.hbm := rfl
@[simp] theorem State.setFn_fab (s : State) (n : Nat) (x : FnSt) : (s.setFn n x).fab = s.fab := rfl
@[simp] theorem State.setFn_tun (s : State) (n : Nat) (x : FnSt) : (s.setFn n x).tun = s.tun := rfl
@[simp] theorem State.setFn_views (s : State) (n : Nat) (x : FnSt) : (s.setFn n x).views = s.views := rfl
@[simp] theorem State.setFn_sec (s : State) (n : Nat) (x : FnSt) : (s.setFn n x).sec = s.sec := rfl
@[simp] theorem State.setFn_clk (s : State) (n : Nat) (x : FnSt) : (s.setFn n x).clk = s.clk := rfl
@[simp] theorem State.setFn_ras (s : State) (n : Nat) (x : FnSt) : (s.setFn n x).ras = s.ras := rfl
@[simp] theorem State.setFn_boot (s : State) (n : Nat) (x : FnSt) : (s.setFn n x).boot = s.boot := rfl
@[simp] theorem State.setFn_out (s : State) (n : Nat) (x : FnSt) : (s.setFn n x).out = s.out := rfl
@[simp] theorem State.setFn_free (s : State) (n : Nat) (x : FnSt) : (s.setFn n x).free = s.free := rfl
@[simp] theorem State.setFn_pending (s : State) (n : Nat) (x : FnSt) : (s.setFn n x).pending = s.pending := rfl

@[simp] theorem State.setPort_regs (s : State) (p : Nat) (x : PortSt) : (s.setPort p x).regs = s.regs := rfl
@[simp] theorem State.setPort_lows (s : State) (p : Nat) (x : PortSt) : (s.setPort p x).lows = s.lows := rfl
@[simp] theorem State.setPort_aon (s : State) (p : Nat) (x : PortSt) : (s.setPort p x).aon = s.aon := rfl
@[simp] theorem State.setPort_aonCopy (s : State) (p : Nat) (x : PortSt) : (s.setPort p x).aonCopy = s.aonCopy := rfl
@[simp] theorem State.setPort_co (s : State) (p : Nat) (x : PortSt) : (s.setPort p x).co = s.co := rfl
@[simp] theorem State.setPort_mem (s : State) (p : Nat) (x : PortSt) : (s.setPort p x).mem = s.mem := rfl
@[simp] theorem State.setPort_hbm (s : State) (p : Nat) (x : PortSt) : (s.setPort p x).hbm = s.hbm := rfl
@[simp] theorem State.setPort_tun (s : State) (p : Nat) (x : PortSt) : (s.setPort p x).tun = s.tun := rfl
@[simp] theorem State.setPort_views (s : State) (p : Nat) (x : PortSt) : (s.setPort p x).views = s.views := rfl
@[simp] theorem State.setPort_host (s : State) (p : Nat) (x : PortSt) : (s.setPort p x).host = s.host := rfl
@[simp] theorem State.setPort_sec (s : State) (p : Nat) (x : PortSt) : (s.setPort p x).sec = s.sec := rfl
@[simp] theorem State.setPort_clk (s : State) (p : Nat) (x : PortSt) : (s.setPort p x).clk = s.clk := rfl
@[simp] theorem State.setPort_ras (s : State) (p : Nat) (x : PortSt) : (s.setPort p x).ras = s.ras := rfl
@[simp] theorem State.setPort_boot (s : State) (p : Nat) (x : PortSt) : (s.setPort p x).boot = s.boot := rfl
@[simp] theorem State.setPort_out (s : State) (p : Nat) (x : PortSt) : (s.setPort p x).out = s.out := rfl
@[simp] theorem State.setPort_free (s : State) (p : Nat) (x : PortSt) : (s.setPort p x).free = s.free := rfl
@[simp] theorem State.setPort_pending (s : State) (p : Nat) (x : PortSt) : (s.setPort p x).pending = s.pending := rfl

@[simp] theorem State.setCtx_regs (s : State) (key : Nat) (x : CtxSt) : (s.setCtx key x).regs = s.regs := rfl
@[simp] theorem State.setCtx_lows (s : State) (key : Nat) (x : CtxSt) : (s.setCtx key x).lows = s.lows := rfl
@[simp] theorem State.setCtx_aon (s : State) (key : Nat) (x : CtxSt) : (s.setCtx key x).aon = s.aon := rfl
@[simp] theorem State.setCtx_aonCopy (s : State) (key : Nat) (x : CtxSt) : (s.setCtx key x).aonCopy = s.aonCopy := rfl
@[simp] theorem State.setCtx_co (s : State) (key : Nat) (x : CtxSt) : (s.setCtx key x).co = s.co := rfl
@[simp] theorem State.setCtx_mem (s : State) (key : Nat) (x : CtxSt) : (s.setCtx key x).mem = s.mem := rfl
@[simp] theorem State.setCtx_hbm (s : State) (key : Nat) (x : CtxSt) : (s.setCtx key x).hbm = s.hbm := rfl
@[simp] theorem State.setCtx_fab (s : State) (key : Nat) (x : CtxSt) : (s.setCtx key x).fab = s.fab := rfl
@[simp] theorem State.setCtx_host (s : State) (key : Nat) (x : CtxSt) : (s.setCtx key x).host = s.host := rfl
@[simp] theorem State.setCtx_sec (s : State) (key : Nat) (x : CtxSt) : (s.setCtx key x).sec = s.sec := rfl
@[simp] theorem State.setCtx_clk (s : State) (key : Nat) (x : CtxSt) : (s.setCtx key x).clk = s.clk := rfl
@[simp] theorem State.setCtx_ras (s : State) (key : Nat) (x : CtxSt) : (s.setCtx key x).ras = s.ras := rfl
@[simp] theorem State.setCtx_boot (s : State) (key : Nat) (x : CtxSt) : (s.setCtx key x).boot = s.boot := rfl
@[simp] theorem State.setCtx_out (s : State) (key : Nat) (x : CtxSt) : (s.setCtx key x).out = s.out := rfl
@[simp] theorem State.setCtx_free (s : State) (key : Nat) (x : CtxSt) : (s.setCtx key x).free = s.free := rfl
@[simp] theorem State.setCtx_pending (s : State) (key : Nat) (x : CtxSt) : (s.setCtx key x).pending = s.pending := rfl

@[simp] theorem State.setRing_regs (s : State) (key : Nat) (x : RingSt) : (s.setRing key x).regs = s.regs := rfl
@[simp] theorem State.setRing_lows (s : State) (key : Nat) (x : RingSt) : (s.setRing key x).lows = s.lows := rfl
@[simp] theorem State.setRing_aon (s : State) (key : Nat) (x : RingSt) : (s.setRing key x).aon = s.aon := rfl
@[simp] theorem State.setRing_aonCopy (s : State) (key : Nat) (x : RingSt) : (s.setRing key x).aonCopy = s.aonCopy := rfl
@[simp] theorem State.setRing_co (s : State) (key : Nat) (x : RingSt) : (s.setRing key x).co = s.co := rfl
@[simp] theorem State.setRing_mem (s : State) (key : Nat) (x : RingSt) : (s.setRing key x).mem = s.mem := rfl
@[simp] theorem State.setRing_hbm (s : State) (key : Nat) (x : RingSt) : (s.setRing key x).hbm = s.hbm := rfl
@[simp] theorem State.setRing_fab (s : State) (key : Nat) (x : RingSt) : (s.setRing key x).fab = s.fab := rfl
@[simp] theorem State.setRing_host (s : State) (key : Nat) (x : RingSt) : (s.setRing key x).host = s.host := rfl
@[simp] theorem State.setRing_sec (s : State) (key : Nat) (x : RingSt) : (s.setRing key x).sec = s.sec := rfl
@[simp] theorem State.setRing_clk (s : State) (key : Nat) (x : RingSt) : (s.setRing key x).clk = s.clk := rfl
@[simp] theorem State.setRing_ras (s : State) (key : Nat) (x : RingSt) : (s.setRing key x).ras = s.ras := rfl
@[simp] theorem State.setRing_boot (s : State) (key : Nat) (x : RingSt) : (s.setRing key x).boot = s.boot := rfl
@[simp] theorem State.setRing_out (s : State) (key : Nat) (x : RingSt) : (s.setRing key x).out = s.out := rfl
@[simp] theorem State.setRing_free (s : State) (key : Nat) (x : RingSt) : (s.setRing key x).free = s.free := rfl
@[simp] theorem State.setRing_pending (s : State) (key : Nat) (x : RingSt) : (s.setRing key x).pending = s.pending := rfl

@[simp] theorem State.emit_regs (s : State) (o : Out) : (s.emit o).regs = s.regs := rfl
@[simp] theorem State.emit_lows (s : State) (o : Out) : (s.emit o).lows = s.lows := rfl
@[simp] theorem State.emit_aon (s : State) (o : Out) : (s.emit o).aon = s.aon := rfl
@[simp] theorem State.emit_aonCopy (s : State) (o : Out) : (s.emit o).aonCopy = s.aonCopy := rfl
@[simp] theorem State.emit_co (s : State) (o : Out) : (s.emit o).co = s.co := rfl
@[simp] theorem State.emit_mem (s : State) (o : Out) : (s.emit o).mem = s.mem := rfl
@[simp] theorem State.emit_hbm (s : State) (o : Out) : (s.emit o).hbm = s.hbm := rfl
@[simp] theorem State.emit_fab (s : State) (o : Out) : (s.emit o).fab = s.fab := rfl
@[simp] theorem State.emit_tun (s : State) (o : Out) : (s.emit o).tun = s.tun := rfl
@[simp] theorem State.emit_views (s : State) (o : Out) : (s.emit o).views = s.views := rfl
@[simp] theorem State.emit_host (s : State) (o : Out) : (s.emit o).host = s.host := rfl
@[simp] theorem State.emit_sec (s : State) (o : Out) : (s.emit o).sec = s.sec := rfl
@[simp] theorem State.emit_clk (s : State) (o : Out) : (s.emit o).clk = s.clk := rfl
@[simp] theorem State.emit_ras (s : State) (o : Out) : (s.emit o).ras = s.ras := rfl
@[simp] theorem State.emit_boot (s : State) (o : Out) : (s.emit o).boot = s.boot := rfl
@[simp] theorem State.emit_free (s : State) (o : Out) : (s.emit o).free = s.free := rfl
@[simp] theorem State.emit_pending (s : State) (o : Out) : (s.emit o).pending = s.pending := rfl

/-! A partition's count. -/

@[simp] theorem State.credit_regs (s : State) (p k n : Nat) : (s.credit p k n).regs = s.regs := rfl
@[simp] theorem State.credit_lows (s : State) (p k n : Nat) : (s.credit p k n).lows = s.lows := rfl
@[simp] theorem State.credit_aon (s : State) (p k n : Nat) : (s.credit p k n).aon = s.aon := rfl
@[simp] theorem State.credit_aonCopy (s : State) (p k n : Nat) : (s.credit p k n).aonCopy = s.aonCopy := rfl
@[simp] theorem State.credit_co (s : State) (p k n : Nat) : (s.credit p k n).co = s.co := rfl
@[simp] theorem State.credit_mem (s : State) (p k n : Nat) : (s.credit p k n).mem = s.mem := rfl
@[simp] theorem State.credit_hbm (s : State) (p k n : Nat) : (s.credit p k n).hbm = s.hbm := rfl
@[simp] theorem State.credit_fab (s : State) (p k n : Nat) : (s.credit p k n).fab = s.fab := rfl
@[simp] theorem State.credit_tun (s : State) (p k n : Nat) : (s.credit p k n).tun = s.tun := rfl
@[simp] theorem State.credit_host (s : State) (p k n : Nat) : (s.credit p k n).host = s.host := rfl
@[simp] theorem State.credit_sec (s : State) (p k n : Nat) : (s.credit p k n).sec = s.sec := rfl
@[simp] theorem State.credit_clk (s : State) (p k n : Nat) : (s.credit p k n).clk = s.clk := rfl
@[simp] theorem State.credit_ras (s : State) (p k n : Nat) : (s.credit p k n).ras = s.ras := rfl
@[simp] theorem State.credit_boot (s : State) (p k n : Nat) : (s.credit p k n).boot = s.boot := rfl
@[simp] theorem State.credit_out (s : State) (p k n : Nat) : (s.credit p k n).out = s.out := rfl
@[simp] theorem State.credit_free (s : State) (p k n : Nat) : (s.credit p k n).free = s.free := rfl
@[simp] theorem State.credit_pending (s : State) (p k n : Nat) : (s.credit p k n).pending = s.pending := rfl

@[simp] theorem State.pins_regs (s : State) : (s.pins).regs = s.regs := rfl
@[simp] theorem State.pins_lows (s : State) : (s.pins).lows = s.lows := rfl
@[simp] theorem State.pins_aon (s : State) : (s.pins).aon = s.aon := rfl
@[simp] theorem State.pins_aonCopy (s : State) : (s.pins).aonCopy = s.aonCopy := rfl
@[simp] theorem State.pins_co (s : State) : (s.pins).co = s.co := rfl
@[simp] theorem State.pins_mem (s : State) : (s.pins).mem = s.mem := rfl
@[simp] theorem State.pins_hbm (s : State) : (s.pins).hbm = s.hbm := rfl
@[simp] theorem State.pins_fab (s : State) : (s.pins).fab = s.fab := rfl
@[simp] theorem State.pins_tun (s : State) : (s.pins).tun = s.tun := rfl
@[simp] theorem State.pins_views (s : State) : (s.pins).views = s.views := rfl
@[simp] theorem State.pins_host (s : State) : (s.pins).host = s.host := rfl
@[simp] theorem State.pins_sec (s : State) : (s.pins).sec = s.sec := rfl
@[simp] theorem State.pins_clk (s : State) : (s.pins).clk = s.clk := rfl
@[simp] theorem State.pins_ras (s : State) : (s.pins).ras = s.ras := rfl
@[simp] theorem State.pins_out (s : State) : (s.pins).out = s.out := rfl
@[simp] theorem State.pins_free (s : State) : (s.pins).free = s.free := rfl
@[simp] theorem State.pins_pending (s : State) : (s.pins).pending = s.pending := rfl

@[simp] theorem State.draw_regs (s : State) : s.draw.2.regs = s.regs := rfl
@[simp] theorem State.draw_lows (s : State) : s.draw.2.lows = s.lows := rfl
@[simp] theorem State.draw_aon (s : State) : s.draw.2.aon = s.aon := rfl
@[simp] theorem State.draw_aonCopy (s : State) : s.draw.2.aonCopy = s.aonCopy := rfl
@[simp] theorem State.draw_co (s : State) : s.draw.2.co = s.co := rfl
@[simp] theorem State.draw_mem (s : State) : s.draw.2.mem = s.mem := rfl
@[simp] theorem State.draw_hbm (s : State) : s.draw.2.hbm = s.hbm := rfl
@[simp] theorem State.draw_fab (s : State) : s.draw.2.fab = s.fab := rfl
@[simp] theorem State.draw_tun (s : State) : s.draw.2.tun = s.tun := rfl
@[simp] theorem State.draw_views (s : State) : s.draw.2.views = s.views := rfl
@[simp] theorem State.draw_host (s : State) : s.draw.2.host = s.host := rfl
@[simp] theorem State.draw_sec (s : State) : s.draw.2.sec = s.sec := rfl
@[simp] theorem State.draw_clk (s : State) : s.draw.2.clk = s.clk := rfl
@[simp] theorem State.draw_ras (s : State) : s.draw.2.ras = s.ras := rfl
@[simp] theorem State.draw_boot (s : State) : s.draw.2.boot = s.boot := rfl
@[simp] theorem State.draw_out (s : State) : s.draw.2.out = s.out := rfl
@[simp] theorem State.draw_pending (s : State) : s.draw.2.pending = s.pending := rfl

@[simp] theorem State.setGroup_co_cores (s : State) (i : Issuer) (g : Group) : (s.setGroup i g).co.cores = s.co.cores := rfl
@[simp] theorem State.setGroup_co_accesses (s : State) (i : Issuer) (g : Group) : (s.setGroup i g).co.accesses = s.co.accesses := rfl
@[simp] theorem State.setGroup_co_nextAccess (s : State) (i : Issuer) (g : Group) : (s.setGroup i g).co.nextAccess = s.co.nextAccess := rfl
@[simp] theorem State.setGroup_co_nextCmd (s : State) (i : Issuer) (g : Group) : (s.setGroup i g).co.nextCmd = s.co.nextCmd := rfl
@[simp] theorem State.setGroup_co_gtag (s : State) (i : Issuer) (g : Group) : (s.setGroup i g).co.gtag = s.co.gtag := rfl
@[simp] theorem State.setCore_co_groups (s : State) (c : Nat) (x : CoreSt) : (s.setCore c x).co.groups = s.co.groups := rfl
@[simp] theorem State.setCore_co_accesses (s : State) (c : Nat) (x : CoreSt) : (s.setCore c x).co.accesses = s.co.accesses := rfl
@[simp] theorem State.setCore_co_nextAccess (s : State) (c : Nat) (x : CoreSt) : (s.setCore c x).co.nextAccess = s.co.nextAccess := rfl
@[simp] theorem State.setCore_co_nextCmd (s : State) (c : Nat) (x : CoreSt) : (s.setCore c x).co.nextCmd = s.co.nextCmd := rfl
@[simp] theorem State.setCore_co_gtag (s : State) (c : Nat) (x : CoreSt) : (s.setCore c x).co.gtag = s.co.gtag := rfl
@[simp] theorem State.pins_boot_aux (s : State) : s.pins.boot.aux = s.boot.aux := rfl
@[simp] theorem State.pins_boot_main (s : State) : s.pins.boot.main = s.boot.main := rfl
@[simp] theorem State.pins_boot_regulators (s : State) : s.pins.boot.regulators = s.boot.regulators := rfl
@[simp] theorem State.pins_boot_perst (s : State) : s.pins.boot.perst = s.boot.perst := rfl
@[simp] theorem State.pins_boot_pwrgoodLow (s : State) : s.pins.boot.pwrgoodLow = s.boot.pwrgoodLow := rfl
@[simp] theorem State.pins_boot_thermtripN (s : State) : s.pins.boot.thermtripN = s.boot.thermtripN := rfl
@[simp] theorem State.pins_boot_thermal (s : State) : s.pins.boot.thermal = s.boot.thermal := rfl
@[simp] theorem State.pins_boot_step (s : State) : s.pins.boot.step = s.boot.step := rfl
@[simp] theorem State.pins_boot_result (s : State) : s.pins.boot.result = s.boot.result := rfl
@[simp] theorem State.pins_boot_haltCode (s : State) : s.pins.boot.haltCode = s.boot.haltCode := rfl
@[simp] theorem State.pins_boot_halted (s : State) : s.pins.boot.halted = s.boot.halted := rfl
@[simp] theorem State.pins_boot_recovery (s : State) : s.pins.boot.recovery = s.boot.recovery := rfl
@[simp] theorem State.pins_boot_tapReset (s : State) : s.pins.boot.tapReset = s.boot.tapReset := rfl
@[simp] theorem State.pins_boot_lost (s : State) : s.pins.boot.lost = s.boot.lost := rfl
@[simp] theorem State.pins_boot_passed (s : State) : s.pins.boot.passed = s.boot.passed := rfl
@[simp] theorem State.pins_boot_maxTemp (s : State) : s.pins.boot.maxTemp = s.boot.maxTemp := rfl

end Sys2Proof.Machine
end

