-- ==== Sys2Proof/Laws/Ops.lean ====
section
/-!
SUPPORT. What the shared operations do: the answer to a command, the pins, the group of an issuer, issue.
-/
namespace Sys2Proof.Machine

/-! ### The answer to a command -/

/-- What the answer to a command is: its effect where it can take place, nothing but the pins elsewhere. -/
theorem reply_next {wf pre : Bool} {s t u : State} :
    reply wf pre s t = .next u ↔ (wf = true ∧ pre = true ∧ u = t.pins) ∨ ((wf && pre) = false ∧ u = s.pins) := by
  cases wf <;> cases pre <;> simp [reply, eq_comm]

theorem command_next {c : Instr} {pre : Bool} {s t u : State} :
    command c pre s t = .next u ↔ (c.wf = true ∧ pre = true ∧ u = t.pins) ∨ ((c.wf && pre) = false ∧ u = s.pins) :=
  reply_next

theorem reply_eq {wf pre : Bool} {s t : State} (hw : wf = true) (hp : pre = true) :
    reply wf pre s t = .next t.pins := by
  rw [reply, hw, hp]; rfl

theorem command_eq {c : Instr} {pre : Bool} {s t : State} (hw : c.wf = true) (hp : pre = true) :
    command c pre s t = .next t.pins := reply_eq hw hp

/-- A command that cannot take place changes nothing but the pins. -/
theorem reply_skip {wf pre : Bool} {s t : State} (h : (wf && pre) = false) : reply wf pre s t = .next s.pins := by
  rw [reply, h]; rfl

theorem command_skip {c : Instr} {pre : Bool} {s t : State} (h : (c.wf && pre) = false) :
    command c pre s t = .next s.pins := reply_skip h

theorem command_ill {c : Instr} {pre : Bool} {s t : State} (h : c.wf = false) : command c pre s t = .next s.pins :=
  command_skip (by rw [h]; rfl)

theorem command_not {c : Instr} {pre : Bool} {s t : State} (h : pre = false) : command c pre s t = .next s.pins :=
  command_skip (by rw [h, Bool.and_false])

/-- A reply never faults. -/
theorem reply_ne_fault {wf pre : Bool} {s t : State} {r : Fault} : reply wf pre s t ≠ .fault r := nofun

theorem fromPort_eq {c : Instr} {s : State} {port : Nat} {m : Msg} {type : BitVec 6} {act : State → Option State}
    (hw : c.wf = true) (hp : s.comesIn port m type = true) :
    fromPort c s port m type act = .next (s.arrive port m act).pins := command_eq hw hp

/-- What a command's answer shows on the pins. -/
theorem State.pins_agree (s : State) : s.pins.PinsAgree := ⟨rfl, rfl⟩

@[simp] theorem State.pins_f (s : State) (x : Fld) (i : Nat) : s.pins.f x i = s.f x i := rfl

@[simp] theorem State.pins_b (s : State) (x : Fld) (i : Nat) : s.pins.b x i = s.b x i := rfl

@[simp] theorem State.pins_rget (s : State) (r : Reg) (i : Nat) : s.pins.rget r i = s.rget r i := rfl

@[simp] theorem State.pins_group? (s : State) (i : Issuer) : s.pins.group? i = s.group? i := by
  cases i <;> rfl

/-! ### Service -/

/-- A rise of the service request changes only the pending bits of the physical function or what was sent. -/
theorem State.service_cases (a b : State) :
    State.service a b = b ∨ (∃ x, State.service a b = b.setFn 0 x) ∨ State.service a b = b.emit (.msix 0 0) := by
  unfold State.service
  split
  · unfold State.msix
    split
    · exact .inl rfl
    · split
      · exact .inr (.inl ⟨_, rfl⟩)
      · exact .inr (.inr rfl)
  · exact .inl rfl

/-- A part of the state that neither a function's MSI-X bits nor what was sent belong to. -/
theorem State.service_keeps {α : Sort _} (p : State → α) (a b : State) (h1 : ∀ x, p (b.setFn 0 x) = p b)
    (h2 : ∀ o, p (b.emit o) = p b) : p (State.service a b) = p b := by
  rcases State.service_cases a b with h | ⟨x, h⟩ | h <;> rw [h]
  · exact h1 x
  · exact h2 _

@[simp] theorem State.service_regs (a b : State) : (State.service a b).regs = b.regs :=
  State.service_keeps State.regs a b (fun _ => rfl) (fun _ => rfl)

@[simp] theorem State.service_lows (a b : State) : (State.service a b).lows = b.lows :=
  State.service_keeps State.lows a b (fun _ => rfl) (fun _ => rfl)

@[simp] theorem State.service_aon (a b : State) : (State.service a b).aon = b.aon :=
  State.service_keeps State.aon a b (fun _ => rfl) (fun _ => rfl)

@[simp] theorem State.service_aonCopy (a b : State) : (State.service a b).aonCopy = b.aonCopy :=
  State.service_keeps State.aonCopy a b (fun _ => rfl) (fun _ => rfl)

@[simp] theorem State.service_co (a b : State) : (State.service a b).co = b.co :=
  State.service_keeps State.co a b (fun _ => rfl) (fun _ => rfl)

@[simp] theorem State.service_mem (a b : State) : (State.service a b).mem = b.mem :=
  State.service_keeps State.mem a b (fun _ => rfl) (fun _ => rfl)

@[simp] theorem State.service_hbm (a b : State) : (State.service a b).hbm = b.hbm :=
  State.service_keeps State.hbm a b (fun _ => rfl) (fun _ => rfl)

@[simp] theorem State.service_fab (a b : State) : (State.service a b).fab = b.fab :=
  State.service_keeps State.fab a b (fun _ => rfl) (fun _ => rfl)

@[simp] theorem State.service_tun (a b : State) : (State.service a b).tun = b.tun :=
  State.service_keeps State.tun a b (fun _ => rfl) (fun _ => rfl)

@[simp] theorem State.service_sec (a b : State) : (State.service a b).sec = b.sec :=
  State.service_keeps State.sec a b (fun _ => rfl) (fun _ => rfl)

@[simp] theorem State.service_clk (a b : State) : (State.service a b).clk = b.clk :=
  State.service_keeps State.clk a b (fun _ => rfl) (fun _ => rfl)

@[simp] theorem State.service_ras (a b : State) : (State.service a b).ras = b.ras :=
  State.service_keeps State.ras a b (fun _ => rfl) (fun _ => rfl)

@[simp] theorem State.service_boot (a b : State) : (State.service a b).boot = b.boot :=
  State.service_keeps State.boot a b (fun _ => rfl) (fun _ => rfl)

@[simp] theorem State.service_free (a b : State) : (State.service a b).free = b.free :=
  State.service_keeps State.free a b (fun _ => rfl) (fun _ => rfl)

@[simp] theorem State.service_pending (a b : State) : (State.service a b).pending = b.pending :=
  State.service_keeps State.pending a b (fun _ => rfl) (fun _ => rfl)

@[simp] theorem State.service_f (a b : State) (x : Fld) (i : Nat) : (State.service a b).f x i = b.f x i :=
  State.f_of_regs (State.service_regs a b) x i

@[simp] theorem State.service_b (a b : State) (x : Fld) (i : Nat) : (State.service a b).b x i = b.b x i :=
  State.b_of_regs (State.service_regs a b) x i

@[simp] theorem State.service_rget (a b : State) (r : Reg) (i : Nat) : (State.service a b).rget r i = b.rget r i :=
  State.rget_of_regs (State.service_regs a b) r i

/-! ### The group of an issuer -/

theorem State.group?_of_groups {s t : State} (h : t.co.groups = s.co.groups) (i : Issuer) : t.group? i = s.group? i := by
  cases i <;> simp [State.group?, h]

/-- A group put back is the one found, its partition and context those a command processor acts for. -/
theorem State.group?_setGroup (s : State) (i : Issuer) (g : Group) :
    (s.setGroup i g).group? i =
      some (match i with
        | .group _ _ => g
        | .cp _ part ctx => { g with part := part, ctx := ctx }) := by
  cases i <;> simp [State.group?, State.setGroup, SMap.get]

theorem Issuer.group_key_inj {c c' k k' : Nat} (hk : k < 64) (hk' : k' < 64)
    (h : (Issuer.group c k).key = (Issuer.group c' k').key) : c = c' ∧ k = k' := by
  simp only [Issuer.key] at h
  omega

/-- Another group keeps its state. -/
theorem State.group?_setGroup_ne (s : State) {i j : Issuer} (g : Group) (h : j.key ≠ i.key) :
    (s.setGroup i g).group? j = s.group? j := by
  cases j <;> simp [State.group?, State.setGroup, SMap.get, SMap.find_put_ne _ _ h]

/-! ### Issue -/

/-- A counted event changes one counter of its core, and its partition's count. -/
theorem State.countCore_cases (s : State) (i : Issuer) (j n : Nat) :
    s.countCore i j n = s ∨ ∃ core slot g, i = .group core slot ∧ s.group? i = some g ∧
      s.countCore i j n = (s.bump .coreEvtLo .coreEvtHi (core * 8 + j) n).credit g.part (core * 8 + j) n := by
  unfold State.countCore
  split
  · rename_i core slot g h
    exact .inr ⟨core, slot, g, rfl, h, rfl⟩
  · exact .inl rfl

@[simp] theorem State.countCore_lows (s : State) (i : Issuer) (j n : Nat) : (s.countCore i j n).lows = s.lows := by
  rcases State.countCore_cases s i j n with h | ⟨_, _, _, _, _, h⟩ <;> rw [h]
  exact (State.credit_lows _ _ _ _).trans (State.bump_lows _ _ _ _ _)

@[simp] theorem State.countCore_aon (s : State) (i : Issuer) (j n : Nat) : (s.countCore i j n).aon = s.aon := by
  rcases State.countCore_cases s i j n with h | ⟨_, _, _, _, _, h⟩ <;> rw [h]
  exact (State.credit_aon _ _ _ _).trans (State.bump_aon _ _ _ _ _)

@[simp] theorem State.countCore_aonCopy (s : State) (i : Issuer) (j n : Nat) : (s.countCore i j n).aonCopy = s.aonCopy := by
  rcases State.countCore_cases s i j n with h | ⟨_, _, _, _, _, h⟩ <;> rw [h]
  exact (State.credit_aonCopy _ _ _ _).trans (State.bump_aonCopy _ _ _ _ _)

@[simp] theorem State.countCore_co (s : State) (i : Issuer) (j n : Nat) : (s.countCore i j n).co = s.co := by
  rcases State.countCore_cases s i j n with h | ⟨_, _, _, _, _, h⟩ <;> rw [h]
  exact (State.credit_co _ _ _ _).trans (State.bump_co _ _ _ _ _)

@[simp] theorem State.countCore_mem (s : State) (i : Issuer) (j n : Nat) : (s.countCore i j n).mem = s.mem := by
  rcases State.countCore_cases s i j n with h | ⟨_, _, _, _, _, h⟩ <;> rw [h]
  exact (State.credit_mem _ _ _ _).trans (State.bump_mem _ _ _ _ _)

@[simp] theorem State.countCore_hbm (s : State) (i : Issuer) (j n : Nat) : (s.countCore i j n).hbm = s.hbm := by
  rcases State.countCore_cases s i j n with h | ⟨_, _, _, _, _, h⟩ <;> rw [h]
  exact (State.credit_hbm _ _ _ _).trans (State.bump_hbm _ _ _ _ _)

@[simp] theorem State.countCore_fab (s : State) (i : Issuer) (j n : Nat) : (s.countCore i j n).fab = s.fab := by
  rcases State.countCore_cases s i j n with h | ⟨_, _, _, _, _, h⟩ <;> rw [h]
  exact (State.credit_fab _ _ _ _).trans (State.bump_fab _ _ _ _ _)

@[simp] theorem State.countCore_tun (s : State) (i : Issuer) (j n : Nat) : (s.countCore i j n).tun = s.tun := by
  rcases State.countCore_cases s i j n with h | ⟨_, _, _, _, _, h⟩ <;> rw [h]
  exact (State.credit_tun _ _ _ _).trans (State.bump_tun _ _ _ _ _)

@[simp] theorem State.countCore_sec (s : State) (i : Issuer) (j n : Nat) : (s.countCore i j n).sec = s.sec := by
  rcases State.countCore_cases s i j n with h | ⟨_, _, _, _, _, h⟩ <;> rw [h]
  exact (State.credit_sec _ _ _ _).trans (State.bump_sec _ _ _ _ _)

@[simp] theorem State.countCore_clk (s : State) (i : Issuer) (j n : Nat) : (s.countCore i j n).clk = s.clk := by
  rcases State.countCore_cases s i j n with h | ⟨_, _, _, _, _, h⟩ <;> rw [h]
  exact (State.credit_clk _ _ _ _).trans (State.bump_clk _ _ _ _ _)

@[simp] theorem State.countCore_ras (s : State) (i : Issuer) (j n : Nat) : (s.countCore i j n).ras = s.ras := by
  rcases State.countCore_cases s i j n with h | ⟨_, _, _, _, _, h⟩ <;> rw [h]
  exact (State.credit_ras _ _ _ _).trans (State.bump_ras _ _ _ _ _)

@[simp] theorem State.countCore_boot (s : State) (i : Issuer) (j n : Nat) : (s.countCore i j n).boot = s.boot := by
  rcases State.countCore_cases s i j n with h | ⟨_, _, _, _, _, h⟩ <;> rw [h]
  exact (State.credit_boot _ _ _ _).trans (State.bump_boot _ _ _ _ _)

@[simp] theorem State.countCore_free (s : State) (i : Issuer) (j n : Nat) : (s.countCore i j n).free = s.free := by
  rcases State.countCore_cases s i j n with h | ⟨_, _, _, _, _, h⟩ <;> rw [h]
  exact (State.credit_free _ _ _ _).trans (State.bump_free _ _ _ _ _)

@[simp] theorem State.countCore_pending (s : State) (i : Issuer) (j n : Nat) : (s.countCore i j n).pending = s.pending := by
  rcases State.countCore_cases s i j n with h | ⟨_, _, _, _, _, h⟩ <;> rw [h]
  exact (State.credit_pending _ _ _ _).trans (State.bump_pending _ _ _ _ _)

@[simp] theorem State.countCore_host (s : State) (i : Issuer) (j n : Nat) : (s.countCore i j n).host = s.host := by
  rcases State.countCore_cases s i j n with h | ⟨_, _, _, _, _, h⟩ <;> rw [h]
  exact (State.credit_host _ _ _ _).trans (State.bump_host _ _ _ _ _)

@[simp] theorem State.countCore_out (s : State) (i : Issuer) (j n : Nat) : (s.countCore i j n).out = s.out := by
  rcases State.countCore_cases s i j n with h | ⟨_, _, _, _, _, h⟩ <;> rw [h]
  exact (State.credit_out _ _ _ _).trans (State.bump_out _ _ _ _ _)

@[simp] theorem State.countIssue_lows (s : State) (i : Issuer) : (s.countIssue i).lows = s.lows :=
  State.countCore_lows s i 0 1

@[simp] theorem State.countIssue_aon (s : State) (i : Issuer) : (s.countIssue i).aon = s.aon :=
  State.countCore_aon s i 0 1

@[simp] theorem State.countIssue_aonCopy (s : State) (i : Issuer) : (s.countIssue i).aonCopy = s.aonCopy :=
  State.countCore_aonCopy s i 0 1

@[simp] theorem State.countIssue_co (s : State) (i : Issuer) : (s.countIssue i).co = s.co :=
  State.countCore_co s i 0 1

@[simp] theorem State.countIssue_mem (s : State) (i : Issuer) : (s.countIssue i).mem = s.mem :=
  State.countCore_mem s i 0 1

@[simp] theorem State.countIssue_hbm (s : State) (i : Issuer) : (s.countIssue i).hbm = s.hbm :=
  State.countCore_hbm s i 0 1

@[simp] theorem State.countIssue_fab (s : State) (i : Issuer) : (s.countIssue i).fab = s.fab :=
  State.countCore_fab s i 0 1

@[simp] theorem State.countIssue_tun (s : State) (i : Issuer) : (s.countIssue i).tun = s.tun :=
  State.countCore_tun s i 0 1

@[simp] theorem State.countIssue_sec (s : State) (i : Issuer) : (s.countIssue i).sec = s.sec :=
  State.countCore_sec s i 0 1

@[simp] theorem State.countIssue_clk (s : State) (i : Issuer) : (s.countIssue i).clk = s.clk :=
  State.countCore_clk s i 0 1

@[simp] theorem State.countIssue_ras (s : State) (i : Issuer) : (s.countIssue i).ras = s.ras :=
  State.countCore_ras s i 0 1

@[simp] theorem State.countIssue_boot (s : State) (i : Issuer) : (s.countIssue i).boot = s.boot :=
  State.countCore_boot s i 0 1

@[simp] theorem State.countIssue_free (s : State) (i : Issuer) : (s.countIssue i).free = s.free :=
  State.countCore_free s i 0 1

@[simp] theorem State.countIssue_pending (s : State) (i : Issuer) : (s.countIssue i).pending = s.pending :=
  State.countCore_pending s i 0 1

@[simp] theorem State.countIssue_host (s : State) (i : Issuer) : (s.countIssue i).host = s.host :=
  State.countCore_host s i 0 1

@[simp] theorem State.countIssue_out (s : State) (i : Issuer) : (s.countIssue i).out = s.out :=
  State.countCore_out s i 0 1

@[simp] theorem State.retire_lows (s : State) (i : Issuer) (g : Group) : (s.retire i g).lows = s.lows := by
  simp [State.retire]

@[simp] theorem State.retire_aon (s : State) (i : Issuer) (g : Group) : (s.retire i g).aon = s.aon := by
  simp [State.retire]

@[simp] theorem State.retire_aonCopy (s : State) (i : Issuer) (g : Group) : (s.retire i g).aonCopy = s.aonCopy := by
  simp [State.retire]

@[simp] theorem State.retire_mem (s : State) (i : Issuer) (g : Group) : (s.retire i g).mem = s.mem := by
  simp [State.retire]

@[simp] theorem State.retire_hbm (s : State) (i : Issuer) (g : Group) : (s.retire i g).hbm = s.hbm := by
  simp [State.retire]

@[simp] theorem State.retire_fab (s : State) (i : Issuer) (g : Group) : (s.retire i g).fab = s.fab := by
  simp [State.retire]

@[simp] theorem State.retire_tun (s : State) (i : Issuer) (g : Group) : (s.retire i g).tun = s.tun := by
  simp [State.retire]

@[simp] theorem State.retire_sec (s : State) (i : Issuer) (g : Group) : (s.retire i g).sec = s.sec := by
  simp [State.retire]

@[simp] theorem State.retire_clk (s : State) (i : Issuer) (g : Group) : (s.retire i g).clk = s.clk := by
  simp [State.retire]

@[simp] theorem State.retire_ras (s : State) (i : Issuer) (g : Group) : (s.retire i g).ras = s.ras := by
  simp [State.retire]

@[simp] theorem State.retire_boot (s : State) (i : Issuer) (g : Group) : (s.retire i g).boot = s.boot := by
  simp [State.retire]

@[simp] theorem State.retire_free (s : State) (i : Issuer) (g : Group) : (s.retire i g).free = s.free := by
  simp [State.retire]

@[simp] theorem State.retire_pending (s : State) (i : Issuer) (g : Group) : (s.retire i g).pending = s.pending := by
  simp [State.retire]

@[simp] theorem State.retire_host (s : State) (i : Issuer) (g : Group) : (s.retire i g).host = s.host := by
  simp [State.retire]

@[simp] theorem State.retire_out (s : State) (i : Issuer) (g : Group) : (s.retire i g).out = s.out := by
  simp [State.retire]

/-- A group command that retires: the group is the new one, past the instruction. -/
theorem State.group?_retire (s : State) {core slot : Nat} (g : Group) :
    (s.retire (.group core slot) g).group? (.group core slot) = some g.advance := by
  simp [State.retire, State.group?_setGroup]

/-- The effect of a one-word instruction that issues. -/
theorem State.issue_eq {s : State} {i : Issuer} {w : W64} {g : Group} (act : Group → State) (h : s.Issues i w g) :
    s.issue i w act = act g.ready := by
  obtain ⟨-, hg, hl, hr, hb⟩ := h
  have h1 : (!legalOne w || (i.isCp && !cpSubset w)) = false := by
    revert hl; cases legalOne w <;> cases i.isCp <;> cases cpSubset w <;> simp
  unfold State.issue
  rw [hg]
  simp only [Group.ready] at hr hb
  simp [h1, hr, hb, Group.ready]

/-- A word that no issuer accepts raises 0x0401, and nothing else happens. -/
theorem State.issue_illegal {s : State} {i : Issuer} {w : W64} {g : Group} (act : Group → State)
    (hg : s.group? i = some g) (h : legalOne w = false) :
    s.issue i w act = ((s.countIssue i).setGroup i g.ready).raise i 0x0401 0xFF (w.truncate 32) := by
  unfold State.issue
  rw [hg]
  simp [h, Group.ready]

theorem State.issueLocal_eq {s : State} {i : Issuer} {w : W64} {g : Group} (f : Group → Group) (h : s.Issues i w g) :
    s.issueLocal i w f = s.retire i (f g.ready) :=
  State.issue_eq _ h

/-- The effect of a two-word instruction that issues. -/
theorem State.issue2_eq {s : State} {i : Issuer} {w0 w1 : W64} {g : Group} (ops : Group → List VOperand)
    (act : Group → State) (h : s.Issues2 i w0 w1 (ops g.ready) g) : s.issue2 i w0 w1 ops act = act g.ready := by
  obtain ⟨-, hg, hl, ho, hm, hc, hb⟩ := h
  have h1 : (!legalTwo w0 w1 || i.isCp) = false := by
    revert hl; cases legalTwo w0 w1 <;> cases i.isCp <;> simp
  have h2 : (collective w0 && !g.ready.fullMask) = false := by
    have e : g.ready.fullMask = g.fullMask := rfl
    rw [e]; revert hc; cases collective w0 <;> cases g.fullMask <;> simp
  unfold State.issue2
  rw [hg]
  have ho' : beyondRpt g.ready.rpt (ops g.ready) = none := ho
  simp only [Group.ready] at h2 hb ho' hm
  simp only [h1, Bool.false_eq_true, if_false, ho', hm, h2, hb, Group.ready]

theorem State.issue2Plain_eq {s : State} {i : Issuer} {w0 w1 : W64} {g : Group} (act : Group → State)
    (h : s.Issues2 i w0 w1 [] g) : s.issue2Plain i w0 w1 act = act g.ready :=
  State.issue2_eq (fun _ => []) act h

end Sys2Proof.Machine
end

