-- ==== Sys2Proof/Laws/Exec.lean ====
section
/-!
SUPPORT. What executing a command can do: every row but the two of the supplies answers as `reply` does, under the
command's own well-formedness, and the two stop with a fault beyond their limit and else answer so too.
-/
namespace Sys2Proof.Machine

/-- An answer that `reply` gives for a command. -/
def Instr.Replies (c : Instr) (s : State) : Prop :=
  ∃ pre t, exec c s = reply c.wf pre s t

theorem replies_of_command {c : Instr} {s : State} {pre : Bool} {t : State}
    (h : exec c s = command c pre s t) : Instr.Replies c s := ⟨pre, t, h⟩

theorem exec_vinAuxOn_cases (mv : Nat) (s : State) :
    (3900 < mv ∧ exec (.vinAuxOn mv) s = .fault (.absoluteMaximum mv)) ∨ Instr.Replies (.vinAuxOn mv) s := by
  rw [Instr.Replies, exec_vinAuxOn, execVinAuxOn]
  split
  · next h => exact .inl ⟨h, rfl⟩
  · exact .inr ⟨_, _, rfl⟩

theorem exec_vinMainOn_cases (mv : Nat) (s : State) :
    (14000 < mv ∧ exec (.vinMainOn mv) s = .fault (.absoluteMaximum mv)) ∨ Instr.Replies (.vinMainOn mv) s := by
  rw [Instr.Replies, exec_vinMainOn, execVinMainOn]
  split
  · next h => exact .inl ⟨h, rfl⟩
  · exact .inr ⟨_, _, rfl⟩

/-- What every command answers. -/
theorem exec_cases (c : Instr) (s : State) :
    Instr.Replies c s ∨
      (∃ mv, 3900 < mv ∧ c = .vinAuxOn mv ∧ exec c s = .fault (.absoluteMaximum mv)) ∨
      ∃ mv, 14000 < mv ∧ c = .vinMainOn mv ∧ exec c s = .fault (.absoluteMaximum mv) := by
  cases c
  case vinAuxOn mv =>
    rcases exec_vinAuxOn_cases mv s with h | h
    · exact .inr (.inl ⟨mv, h.1, rfl, h.2⟩)
    · exact .inl h
  case vinMainOn mv =>
    rcases exec_vinMainOn_cases mv s with h | h
    · exact .inr (.inr ⟨mv, h.1, rfl, h.2⟩)
    · exact .inl h
  all_goals
    refine .inl ?_
    unfold Instr.Replies
    simp only [exec_nop, exec_fence, exec_barg, exec_barc, exec_fsr, exec_fsc, exec_seed, exec_sread, exec_yield,
    exec_bra, exec_brr, exec_join, exec_brk, exec_bri, exec_call, exec_exit, exec_scalarInteger,
    exec_vectorInteger, exec_compareToPredicate, exec_predicateLogic, exec_shfl, exec_shflx, exec_shfl64,
    exec_shflx64, exec_ballot, exec_rdlane, exec_laneid, exec_fp32Arithmetic, exec_fp64Arithmetic,
    exec_pairArithmetic, exec_conversion, exec_ld, exec_st, exec_atomic, exec_lacq, exec_lrel, exec_thset,
    exec_thadv, exec_thget, exec_thdr, exec_topen, exec_tseal, exec_fld, exec_fst, exec_mma, exec_accw,
    exec_tcvt, exec_copy, exec_tred, exec_tatom, exec_rangePrefetch, exec_rangeFlush, exec_rangeInvalidate,
    exec_rangeDraff, exec_waitge, exec_phase, exec_farAtomicResponse, exec_lockRetry, exec_waitgeReached,
    exec_groupWatchdogExpiry, exec_matrixEngineStart, exec_engineAttemptAbandon,
    exec_engineInstructionComplete, exec_tileOperationTimeout, exec_transferStart, exec_transferComplete,
    exec_tileWriteBegin, exec_tileWriterTimeout, exec_tileReadComplete, exec_tornTileWindowExpiry,
    exec_copyTimeout, exec_caskWaitTimeout, exec_beatBoundary, exec_digestComputed, exec_hostRangeDone,
    exec_retirementMoveComplete, exec_invalidationDone, exec_aonWriteApply, exec_pfFlr, exec_vfEnableSet,
    exec_vfEnableClear, exec_pcieLinkDown, exec_debugAccess, exec_sourceRecovery, exec_safeStateExit,
    exec_kuoriSourceFailure, exec_vinAuxLoss, exec_vinMainLoss, exec_regulatorsInRegulation, exec_linkReset,
    exec_perstDeassert, exec_tapReset, exec_bootStep, exec_bootResult, exec_haltCode, exec_mgmtStatusRead,
    exec_mgmtTemperatureRead, exec_mgmtPowerRead, exec_alertResponse, exec_spareBringInComplete,
    exec_scrubRead, exec_memoryReadComplete, exec_switchDrainEnd, exec_switchDrainTimeout,
    exec_switchSaveComplete, exec_switchRestoreComplete, exec_teardownDrainEnd, exec_partitionCreate,
    exec_partitionDestroy, exec_partFreeze, exec_partThaw, exec_partRestore, exec_partitionDestroyEnd,
    exec_partFreezeComplete, exec_partRestoreComplete, exec_contextEnable, exec_contextDisable,
    exec_ringEnable, exec_ringDisable, exec_regionOwnerWrite, exec_regionDisable, exec_regionEnable,
    exec_pkeyWrite, exec_regionDrainComplete, exec_regionZeroFillComplete, exec_wayReassign,
    exec_wayReassignComplete, exec_hostRangeFlush, exec_hostRangeInvalidate, exec_hostRangeDraff,
    exec_pseudoChannelRetire, exec_routeDataWrite, exec_translationInvalidate, exec_firmwareCommit,
    exec_epochAdvance, exec_recordStart, exec_recordData, exec_recordDone, exec_coreSpareBringIn,
    exec_waySpareBringIn, exec_inFieldTest, exec_coreUnfence, exec_directorySample, exec_gets, exec_getm,
    exec_putf, exec_pute, exec_putm, exec_l1Grant, exec_l1Inv, exec_l1Fwds, exec_l1Fwdm, exec_l1Snoop,
    exec_l1Recall, exec_l1FlushRequest, exec_l1Response, exec_nonAllocatingRead, exec_nonAllocatingWrite,
    exec_farOperation, exec_farOpResume, exec_snoopTimeout, exec_softPprComplete, exec_caParityError,
    exec_channelRetrainEnd, exec_beatMark, exec_beatInFrame, exec_dlyreq, exec_dlyrsp, exec_barrive,
    exec_brelease, exec_digestMsg, exec_mgmtRegisterRead, exec_mgmtRegisterWrite, exec_mgmtSpdmFragment,
    exec_mgmtrsp, exec_rd, exec_wr, exec_atom, exec_trd, exec_twr, exec_tredContribution, exec_rdrsp,
    exec_wrack, exec_atrsp, exec_twrack, exec_trdrsp, exec_errRsp, exec_spdmFragmentTimeout, exec_respTimeout,
    exec_stallTimeout, exec_laneFailure, exec_flitCrcError, exec_portEnable, exec_portRetrain,
    exec_vc0WaitClear, exec_trainingComplete, exec_trainingRetry, exec_fabricRetrainFailure,
    exec_spanWindowWrite, exec_bxfArrive, exec_bxfBarArrive, exec_barrierUnitEnable, exec_ringTask,
    exec_ringWaitmem, exec_ringWrite, exec_ringPhase, exec_ringNop, exec_ringStallTimeout, exec_ringCopy,
    exec_copyEngineComplete, exec_sealedPackageLoad, exec_sealedLoadComplete, exec_commandFetchComplete,
    exec_taskComplete, exec_windowRead, exec_windowWrite, exec_registerWrite, exec_vfFlr,
    exec_hostRequestFailure, exec_pcieAtomicop, exec_doeAbort, exec_doeDiscovery, exec_pcieLinkUp,
    exec_getVersion, exec_getCapabilities, exec_negotiateAlgorithms, exec_getDigests, exec_spdmFinish,
    exec_spdmHeartbeat, exec_keyUpdate, exec_endSession, exec_chunkSend, exec_chunkGet, exec_getCertificate,
    exec_spdmChallenge, exec_keyExchange, exec_getMeasurements, exec_kegRead, exec_kegAdvance,
    exec_kegReserve, exec_kegSeed, exec_kegResponse, exec_recordProgramComplete, exec_keyLoad, exec_keyDrop,
    exec_keyLoadComplete, exec_domainSwitch, exec_pllLock, exec_domainStopPoint, exec_domainRestart,
    exec_referenceFailure, exec_pllLossOfLock, exec_trimWindow, exec_unitWake, exec_currentLimitEvent,
    exec_currentLimitRelease, exec_droopEvent, exec_coreFence, exec_coreArrayError, exec_inFieldTestComplete,
    exec_d2dLaneFailure, exec_d2dTrainingComplete, exec_d2dTrainingTimeout, exec_d2dRetrain,
    exec_d2dPartialReset, exec_d2dFatalError, exec_bootStepEnd, exec_thermalTrip, exec_thermalRecheck,
    exec_ideKm, exec_ideIntegrityFailure, execNop, execFence, execBarg, execBarc, execFsr, execFsc, execSeed,
    execSread, execYield, execBra, execBrr, execJoin, execBrk, execBri, execCall, execExit, execScalarInteger,
    execVectorInteger, execCompareToPredicate, execPredicateLogic, execShfl, execShflx, execShfl64,
    execShflx64, execBallot, execRdlane, execLaneid, execFp32Arithmetic, execFp64Arithmetic,
    execPairArithmetic, execConversion, execLd, execSt, execAtomic, execLacq, execLrel, execThset, execThadv,
    execThget, execThdr, execTopen, execTseal, execFld, execFst, execMma, execAccw, execTcvt, execCopy,
    execTred, execTatom, execRangePrefetch, execRangeFlush, execRangeInvalidate, execRangeDraff, execWaitge,
    execPhase, execFarAtomicResponse, execLockRetry, execWaitgeReached, execGroupWatchdogExpiry,
    execMatrixEngineStart, execEngineAttemptAbandon, execEngineInstructionComplete, execTileOperationTimeout,
    execTransferStart, execTransferComplete, execTileWriteBegin, execTileWriterTimeout, execTileReadComplete,
    execTornTileWindowExpiry, execCopyTimeout, execCaskWaitTimeout, execBeatBoundary, execDigestComputed,
    execHostRangeDone, execRetirementMoveComplete, execInvalidationDone, execAonWriteApply, execPfFlr,
    execVfEnableSet, execVfEnableClear, execPcieLinkDown, execDebugAccess, execSourceRecovery,
    execSafeStateExit, execKuoriSourceFailure, execVinAuxLoss, execVinMainLoss, execRegulatorsInRegulation,
    execLinkReset, execPerstDeassert, execTapReset, execBootStep, execBootResult, execHaltCode,
    execMgmtStatusRead, execMgmtTemperatureRead, execMgmtPowerRead, execAlertResponse,
    execSpareBringInComplete, execScrubRead, execMemoryReadComplete, execSwitchDrainEnd,
    execSwitchDrainTimeout, execSwitchSaveComplete, execSwitchRestoreComplete, execTeardownDrainEnd,
    execPartitionCreate, execPartitionDestroy, execPartFreeze, execPartThaw, execPartRestore,
    execPartitionDestroyEnd, execPartFreezeComplete, execPartRestoreComplete, execContextEnable,
    execContextDisable, execRingEnable, execRingDisable, execRegionOwnerWrite, execRegionDisable,
    execRegionEnable, execPkeyWrite, execRegionDrainComplete, execRegionZeroFillComplete, execWayReassign,
    execWayReassignComplete, execHostRangeFlush, execHostRangeInvalidate, execHostRangeDraff,
    execPseudoChannelRetire, execRouteDataWrite, execTranslationInvalidate, execFirmwareCommit,
    execEpochAdvance, execRecordStart, execRecordData, execRecordDone, execCoreSpareBringIn,
    execWaySpareBringIn, execInFieldTest, execCoreUnfence, execDirectorySample, execGets, execGetm, execPutf,
    execPute, execPutm, execL1Grant, execL1Inv, execL1Fwds, execL1Fwdm, execL1Snoop, execL1Recall,
    execL1FlushRequest, execL1Response, execNonAllocatingRead, execNonAllocatingWrite, execFarOperation,
    execFarOpResume, execSnoopTimeout, execSoftPprComplete, execCaParityError, execChannelRetrainEnd,
    execBeatMark, execBeatInFrame, execDlyreq, execDlyrsp, execBarrive, execBrelease, execDigestMsg,
    execMgmtRegisterRead, execMgmtRegisterWrite, execMgmtSpdmFragment, execMgmtrsp, execRd, execWr, execAtom,
    execTrd, execTwr, execTredContribution, execRdrsp, execWrack, execAtrsp, execTwrack, execTrdrsp,
    execErrRsp, execSpdmFragmentTimeout, execRespTimeout, execStallTimeout, execLaneFailure, execFlitCrcError,
    execPortEnable, execPortRetrain, execVc0WaitClear, execTrainingComplete, execTrainingRetry,
    execFabricRetrainFailure, execSpanWindowWrite, execBxfArrive, execBxfBarArrive, execBarrierUnitEnable,
    execRingTask, execRingWaitmem, execRingWrite, execRingPhase, execRingNop, execRingStallTimeout,
    execRingCopy, execCopyEngineComplete, execSealedPackageLoad, execSealedLoadComplete,
    execCommandFetchComplete, execTaskComplete, execWindowRead, execWindowWrite, execRegisterWrite, execVfFlr,
    execHostRequestFailure, execPcieAtomicop, execDoeAbort, execDoeDiscovery, execPcieLinkUp, execGetVersion,
    execGetCapabilities, execNegotiateAlgorithms, execGetDigests, execSpdmFinish, execSpdmHeartbeat,
    execKeyUpdate, execEndSession, execChunkSend, execChunkGet, execGetCertificate, execSpdmChallenge,
    execKeyExchange, execGetMeasurements, execKegRead, execKegAdvance, execKegReserve, execKegSeed,
    execKegResponse, execRecordProgramComplete, execKeyLoad, execKeyDrop, execKeyLoadComplete,
    execDomainSwitch, execPllLock, execDomainStopPoint, execDomainRestart, execReferenceFailure,
    execPllLossOfLock, execTrimWindow, execUnitWake, execCurrentLimitEvent, execCurrentLimitRelease,
    execDroopEvent, execCoreFence, execCoreArrayError, execInFieldTestComplete, execD2dLaneFailure,
    execD2dTrainingComplete, execD2dTrainingTimeout, execD2dRetrain, execD2dPartialReset, execD2dFatalError,
    execBootStepEnd, execThermalTrip, execThermalRecheck, execIdeKm, execIdeIntegrityFailure, fromPort,
    mgmtRead, command]
    exact ⟨_, _, rfl⟩

end Sys2Proof.Machine
end

