-- ==== Sys2Proof/Tests/Slice0.lean ====
section
/-!
SUPPORT. Tests: what well-formedness refuses, results of a few commands by the spec's own tables, and for each
statement with hypotheses a state and operands that meet them.
-/
section Slice0Tests
open Sys2Proof Sys2Proof.Machine

/-! ### Small states -/

/-- An instruction word from OPC, FN and the sum of its other fields. -/
def word (opc fn fields : Nat) : W64 := BitVec.ofNat 64 (opc + 256 * fn + fields)

/-- A group of partition 1, context 0, with all 32 threads and 128 registers. -/
def g0 : Group :=
  { Group.idle 1 0 with gtag := 5, rpt := 128, launch := BitVec.allOnes 32, active := BitVec.allOnes 32 }

def i0 : Issuer := .group 0 0

/-- Register words that differ from their reset values, by register, index and value. -/
def words (l : List (Reg × Nat × Nat)) : SMap W32 :=
  l.foldl (fun m x => SMap.put m (x.1.key x.2.1) (BitVec.ofNat 32 x.2.2)) []

/-- Beats and core 0 run, partition 1 is enabled and ACTIVE, its context 0 runs. -/
def up : State :=
  { State.reset with
    regs := words [(.beatCtrl, 0, 1), (.coreCtrl, 0, 1), (.partCfg, 1, 1), (.partCmd, 1, 8), (.tunCtx, 16, 17)]
    co := { State.reset.co with cores := [(0, { CoreSt.reset with phys := some 0 })] } }

/-- The group `g` in slot 0 of core 0. -/
def running (g : Group) : State := { up with co := { up.co with groups := [(0, g)] } }

/-- What a command leaves, where it completes. -/
def after (c : Instr) (s : State) : State :=
  match exec c s with
  | .next t => t
  | _ => s

/-- An access that is allowed, and what follows holds. -/
def okThen {ε α : Type} (e : Except ε α) (p : α → Bool) : Bool :=
  match e with
  | .ok x => p x
  | .error _ => false
set_option Elab.async false

/-! ### What well-formedness refuses: one ill-formed command for each check -/

def msg0 : Msg :=
  { vc := 1, type := 0, dnode := 0, snode := 0, tag := 0, hops := 0, skey := 0, status := 0, rc := false,
    param := 7, head := [], body := [] }

def burst0 : BurstReport :=
  { odCorrected := false, odUncorrected := false, singleBit := none, doubleBit := false, metaBits := 0 }

theorem test_issuer_must_exist :
    [Instr.nop (.group 256 0) (word 1 0 0), .nop (.group 0 64) (word 1 0 0), .nop (.cp 8 0 0) (word 1 0 0),
      .nop (.cp 0 64 0) (word 1 0 0), .nop (.cp 0 0 16) (word 1 0 0), .lockRetry (.group 256 0)].all
      (fun c => !c.wf) = true := by decide +kernel

theorem test_word_must_be_the_rows :
    [Instr.nop i0 (word 1 1 0), .fence i0 (word 1 0 0), .scalarInteger i0 (word 0x20 0 0), .shfl i0 (word 0x24 1 0),
      .mma i0 (word 1 0 0) 0, .waitge i0 (word 1 0 0) 0].all (fun c => !c.wf) = true := by decide +kernel

theorem test_agent_and_requester_must_exist :
    [Instr.tileWriteBegin (.xfer 256 0 0), .tileReadComplete (.copyEngine 16), .copyTimeout (.group 0 64),
      .caskWaitTimeout (.engine 0 4), .tileWriterTimeout (.landing 8 0 0), .tornTileWindowExpiry (.landing 0 65536 0),
      .tileWriteBegin (.landing 0 0 1048576), .registerWrite (.fn 64) ⟨.core, 0, 0, .base⟩ 0,
      .registerWrite (.mgmt 65536) ⟨.core, 0, 0, .base⟩ 0, .registerWrite (.group 0 64) ⟨.core, 0, 0, .base⟩ 0,
      .registerWrite .firmware ⟨.core, 512, 0, .base⟩ 0, .registerWrite .firmware ⟨.core, 0, 65536, .base⟩ 0,
      .registerWrite .firmware ⟨.core, 0, 2, .base⟩ 0].all (fun c => !c.wf) = true := by decide +kernel

theorem test_core_and_memory_indices :
    [Instr.matrixEngineStart 0 4, .matrixEngineStart 256 0, .transferStart 256, .transferComplete 256 0 0,
      .coreArrayError 0 3 0 true, .coreArrayError 256 0 0 true, .scrubRead 512 burst0,
      .memoryReadComplete 512 0 .unattributed burst0, .softPprComplete 512, .caParityError 16 0 true,
      .caParityError 0 16 true, .channelRetrainEnd 16 0 true, .farOperation 512, .farOpResume 512, .gets 256 0 0 .good,
      .getm 0 64 0, .putf 256 0, .l1Grant 256 0, .nonAllocatingWrite 0 .unattributed 0 [], .wayReassign 512 0 0,
      .wayReassignComplete 0 16, .regionOwnerWrite 1024 0, .regionDrainComplete 1024].all
      (fun c => !c.wf) = true := by decide +kernel

theorem test_context_and_function_indices :
    [Instr.switchDrainEnd 64 0 0, .switchDrainEnd 0 16 0, .switchDrainEnd 0 0 256, .teardownDrainEnd 64 0,
      .partitionCreate 64 0, .contextEnable 0 16 0, .ringTask 64 0, .ringTask 0 16, .ringEnable 0 16 0,
      .copyEngineComplete 16 [] [], .windowRead 64 0 4, .vfFlr 64, .doeAbort 64, .keyLoad 64 0, .pkeyWrite 64 0,
      .kegRead 8 0, .kegAdvance 8 0 0, .getCertificate (.doe 0) 256 0 0].all (fun c => !c.wf) = true := by decide +kernel

theorem test_fabric_and_clock_indices :
    [Instr.beatMark 8 msg0 0, .dlyreq 8 msg0 0 0, .rd 8 msg0, .mgmtRegisterRead 0 msg0, .mgmtRegisterWrite 0 msg0,
      .mgmtSpdmFragment 0 msg0, .stallTimeout 8 0, .stallTimeout 0 4, .laneFailure 4 0, .laneFailure 0 34,
      .flitCrcError 8 0, .flitCrcError 0 34, .spanWindowWrite 16 false 0, .bxfArrive i0 64 0, .barrierUnitEnable 64 0,
      .domainSwitch 62 0, .pllLock 62 true, .unitWake 3 0, .unitWake 0 32, .currentLimitEvent 8, .droopEvent 32,
      .d2dLaneFailure 24 0, .d2dRetrain 24 0].all (fun c => !c.wf) = true := by decide +kernel

/-- The table gives bits to no row, so no word spells a command and the queue stays as it is. -/
theorem test_no_word_spells_a_command :
    decodeTableWord 64 0xFFFFFFFFFFFFFFFF = none ∧ decodeTableWord 8 0 = none ∧
    (State.reset.withFetchWord 64 1).pending = [] := by decide +kernel
/-! ### Results, against values the spec writes out -/

/-- 02 R59, the worked example of one generator step and its first four draws. -/
theorem test_generator_step :
    genStep 1 = 0x40822041 ∧
    (let d1 := (Gen.start 1).draw
     let d2 := d1.2.draw
     let d3 := d2.2.draw
     (d1.1, d2.1, d3.1, d3.2.draw.1) = (0x2041, 0x4082, 0, 0)) := by decide +kernel

/-- 02, the worked example of one MXFP4 block: scale 0x81, codes 6, 12, 0, 2, and X; U too, since 0.225 is tiny and
inexact (R60; log entry 12). -/
theorem test_mx_block :
    (let b := quantiseBlock .e2m1 .rne true
        ([Fmt.f32.decode 0x41A00000, Fmt.f32.decode 0xC0E9999A, Fmt.f32.decode 0x3F666666, Fmt.f32.decode 0x40400000].map
          some ++ List.replicate 28 (some (.fin false 0 0))) (Gen.start 1)
     (b.1, b.2.codes.take 4, b.2.flags)) = (0x81, [6, 12, 0, 2], flX ||| flU) := by decide +kernel

/-- 05, the worked example of a word: FP64 FMA guarded by p2, v40 ← v8 × v10 + v40. -/
theorem test_worked_word :
    [opcOf 0x0280A082800A0331, fnOf 0x0280A082800A0331, fld 0x0280A082800A0331 16 3, fld 0x0280A082800A0331 19 1,
      fld 0x0280A082800A0331 28 8, fld 0x0280A082800A0331 36 8, fld 0x0280A082800A0331 44 8,
      fld 0x0280A082800A0331 52 8] = [0x31, 3, 2, 1, 0x28, 8, 0x0A, 0x28] ∧
    legalOne 0x0280A082800A0331 = true ∧ classOf 0x0280A082800A0331 = some .fp64 := by decide +kernel

/-- 05, the worked example of a two-product: (0x3F800001)² is the pair 0x3F800002, 0x28800000, and X is set. -/
theorem test_two_product :
    (let w := word 0x32 4 (4 * 2 ^ 28 + 2 * 2 ^ 36 + 3 * 2 ^ 44 + 5 * 2 ^ 52)
     let g := { g0 with vregs := [(64, 0x3F800001), (96, 0x3F800001)].foldl (fun m x => SMap.put m (x.1 : Nat) (x.2 : W32)) [] }
     (((after (.pairArithmetic i0 w) (running g)).group? i0).map fun h => (h.v 4 0, h.v 5 0, h.fp))) =
      some (0x3F800002, 0x28800000, 1) := by decide +kernel

/-- 04, the worked example of nested divergence, steps 1, 3 and 5. -/
def evenOdd : Group :=
  { g0 with pc := 0x1000, preds := [(1, 0x55555555), (2, 0x11111111)] }

theorem test_divergence_push :
    ((after (.brr i0 (word 2 1 (2 ^ 16 + 2 ^ 19 + 8 * 2 ^ 29 + 18 * 2 ^ 47))) (running evenOdd)).group? i0).map
      (fun h => (h.pc, h.active, h.stack)) =
    some (0x1040, 0x55555555, [⟨0x1090, 0xFFFFFFFF, 0xAAAAAAAA, 0x1008⟩]) := by decide +kernel

def nested (pend active : W32) : Group :=
  { g0 with
    pc := 0x1070, active := active,
    stack := [⟨0x1070, 0x55555555, pend, 0x1050⟩, ⟨0x1090, 0xFFFFFFFF, 0xAAAAAAAA, 0x1008⟩] }

theorem test_join_runs_pending_then_pops :
    ((after (.join i0 (word 2 2 0)) (running (nested 0x44444444 0x11111111))).group? i0).map
      (fun h => (h.pc, h.active, h.stack.head?)) = some (0x1050, 0x44444444, some ⟨0x1070, 0x55555555, 0, 0x1050⟩) ∧
    ((after (.join i0 (word 2 2 0)) (running (nested 0 0x44444444))).group? i0).map
      (fun h => (h.pc, h.active, h.stack.length)) = some (0x1078, 0x55555555, 1) := by decide +kernel

/-- 08, the worked example of one tile and its header: region 9, QUAD, PLACE 0, with HASH 1 and with HASH 0. -/
theorem test_home_slices :
    (let s (hash : Nat) := { up with regs := words [(.llmRgnDesc, 9, 1 + 2 * 2 + 8 * hash)] }
     (((s 1).spot 9 0x01234800).1, ((s 1).spot 9 0x3FC12340).1, ((s 1).spot 9 0x01235800).1, ((s 0).spot 9 0x01234800).1)) =
      (38, 237, 39, 52) := by decide +kernel

/-- 01 R31, the core at die 5, cluster 2, position 7. -/
theorem test_physical_index : physIndexOf 0x167 = 205 ∧ coreId 0x167 = true ∧ coreId 0x169 = false := by decide +kernel

/-- 00, the worked example of a Global address. -/
theorem test_global_address :
    (let a : W64 := 0x0004200123456000
     (a.toNat / 2 ^ 44 % 2 ^ 16, regionOf (a.toNat % 2 ^ 44))) = (0x42, 4) := by decide +kernel

/-- 13, the worked example of reservations: slot A holds the older 0x12800, slot B 0x12C00. -/
theorem test_keg_reservation :
    (let s := { up with boot := { up.boot with aux := true, regulators := true },
                        sec := { up.sec with keg := [(2, ⟨0x12800, true, 0x12C00, true⟩)] } }
     let t := after (.kegReserve 0) s
     (t.keg 2, s.kegRun .reserve |>.1)) = (⟨0x13000, true, 0x12C00, true⟩, .value 0x12C00) := by decide +kernel

/-- 16, the worked example of holding issue: the set alias sets ISSUE_HOLD, the base address would clear ENABLE. -/
theorem test_set_alias :
    ((after (.registerWrite .firmware ⟨.core, 0, 0, .set⟩ 2) { up with regs := words [(.coreCtrl, 0, 1), (.clkGate, 0, 1)] }).rget .coreCtrl 0,
      (after (.registerWrite .firmware ⟨.core, 0, 0, .base⟩ 2) { up with regs := words [(.coreCtrl, 0, 1), (.clkGate, 0, 1)] }).rget .coreCtrl 0,
      (after (.registerWrite .firmware ⟨.core, 0, 0, .clear⟩ 2) { up with regs := words [(.coreCtrl, 0, 3), (.clkGate, 0, 1)] }).rget .coreCtrl 0) =
      ((3 : W32), (2 : W32), (1 : W32)) := by decide +kernel

/-! ### Witnesses: each statement with hypotheses has a state and operands that meet them -/

theorem witness_SystemWords :
    (∀ x ∈ [(Instr.nop, word 1 0 0), (.fence, word 1 1 (2 * 2 ^ 16)), (.yield, word 1 8 0),
      (.sread, word 1 7 (3 * 2 ^ 20 + 5 * 2 ^ 32)), (.barg, word 1 2 0), (.fsr, word 1 4 (3 * 2 ^ 20)),
      (.fsc, word 1 5 (3 * 2 ^ 20 + 31 * 2 ^ 32)), (.barc, word 1 3 (2 * 2 ^ 16)), (.seed, word 1 6 (7 * 2 ^ 16))],
      (running g0).Issues i0 x.2 g0 ∧ (x.1 i0 x.2).wf = true) ∧
    g0.active = g0.launch ∧ (running g0).flagsPending i0 g0.ready = false ∧
    (running g0).fenceOpen i0 g0.ready (barcFence (word 1 3 (2 * 2 ^ 16))) = false ∧
    (seedEngines (fld (word 1 6 (7 * 2 ^ 16)) 16 4)).all ((running g0).core 0).room = true := by
  decide +kernel

theorem witness_IntegerAndLaneWords :
    ∀ x ∈ [(Instr.scalarInteger, word 0x10 0 (1 * 2 ^ 17 + 2 * 2 ^ 23 + 3 * 2 ^ 29)),
      (.vectorInteger, word 0x20 0 (1 * 2 ^ 28 + 2 * 2 ^ 36 + 3 * 2 ^ 44)),
      (.compareToPredicate, word 0x22 0 (1 * 2 ^ 28 + 2 * 2 ^ 36 + 3 * 2 ^ 44)),
      (.predicateLogic, word 0x23 0 (1 * 2 ^ 28 + 2 * 2 ^ 36 + 3 * 2 ^ 44)),
      (.shfl, word 0x24 0 (1 * 2 ^ 28 + 2 * 2 ^ 36 + 3 * 2 ^ 44)), (.shflx, word 0x24 1 (1 * 2 ^ 28 + 2 * 2 ^ 36)),
      (.shfl64, word 0x24 2 (4 * 2 ^ 28 + 2 * 2 ^ 36 + 3 * 2 ^ 44)), (.shflx64, word 0x24 3 (4 * 2 ^ 28 + 2 * 2 ^ 36)),
      (.ballot, word 0x24 4 (1 * 2 ^ 28)), (.rdlane, word 0x24 5 (1 * 2 ^ 28 + 2 * 2 ^ 36)),
      (.laneid, word 0x24 6 (1 * 2 ^ 28))],
      (running g0).Issues i0 x.2 g0 ∧ (x.1 i0 x.2).wf = true := by
  decide +kernel

theorem witness_ScalarIntegerValues :
    (∀ fn ∈ [0x00, 0x01, 0x02, 0x03, 0x04, 0x05, 0x06, 0x07, 0x08, 0x09, 0x0A, 0x0B, 0x0C, 0x0D, 0x0E, 0x10, 0x11, 0x12,
        0x14, 0x15, 0x16, 0x17], ∀ im ∈ [0, 1],
      (running g0).Issues i0 (word 0x10 fn (im * 2 ^ 16 + 1 * 2 ^ 17 + 2 * 2 ^ 23 + 3 * 2 ^ 29)) g0 ∧
        (Instr.scalarInteger i0 (word 0x10 fn (im * 2 ^ 16 + 1 * 2 ^ 17 + 2 * 2 ^ 23 + 3 * 2 ^ 29))).wf = true) ∧
    (∀ fn ∈ [0x18, 0x19], (running g0).Issues i0 (word 0x10 fn (2 ^ 16 + 1 * 2 ^ 17 + 3 * 2 ^ 29)) g0) ∧
    (∀ fn ∈ [0x1C, 0x1D, 0x1E], (running g0).Issues i0 (word 0x10 fn (1 * 2 ^ 17 + 2 * 2 ^ 23)) g0) ∧
    [word 0x10 0x0F 0, word 0x10 0x1F 0, word 0x10 0x18 0, word 0x10 0x19 (2 ^ 16 + 2 ^ 61), word 0x10 0x1C (2 ^ 16)].all
      (fun w => opcOf w == 0x10 && !legalOne w) = true := by
  decide +kernel

theorem witness_FloatingWords :
    ∀ x ∈ [(Instr.fp32Arithmetic, word 0x30 0 (1 * 2 ^ 28 + 2 * 2 ^ 36 + 3 * 2 ^ 44)),
      (.fp64Arithmetic, word 0x31 0 (2 * 2 ^ 28 + 4 * 2 ^ 36 + 6 * 2 ^ 44)),
      (.pairArithmetic, word 0x32 8 (2 * 2 ^ 28 + 4 * 2 ^ 36 + 6 * 2 ^ 44)),
      (.conversion, word 0x33 0x12 (1 * 2 ^ 28 + 2 * 2 ^ 36)),
      (.conversion, word 0x33 0x02 (1 * 2 ^ 28 + 2 * 2 ^ 36 + 4 * 2 ^ 21))],
      (running g0).Issues i0 x.2 g0 ∧ (x.1 i0 x.2).wf = true := by
  decide +kernel
theorem witness_BranchWords :
    (∀ x ∈ [(Instr.bra, word 2 0 (2 ^ 29)), (.bra, word 2 0 (2 ^ 19 + 2 ^ 20 + 2 ^ 29)), (.bra, word 2 0 (2 ^ 19 + 2 ^ 29)),
      (.brr, word 2 1 (2 ^ 29 + 2 ^ 48)), (.bri, word 2 4 (2 * 2 ^ 23)), (.call, word 2 5 (3 * 2 ^ 23 + 2 ^ 29))],
      (running g0).Issues i0 x.2 g0 ∧ (x.1 i0 x.2).wf = true) ∧
    (guardOf (word 2 0 (2 ^ 29))).pe = false ∧
    g0.active &&& g0.guardMask (guardOf (word 2 0 (2 ^ 19 + 2 ^ 20 + 2 ^ 29))) = g0.active ∧
    (guardOf (word 2 0 (2 ^ 19 + 2 ^ 29))).pe = true ∧ g0.active &&& g0.guardMask (guardOf (word 2 0 (2 ^ 19 + 2 ^ 29))) = 0 ∧
    g0.active ≠ 0 ∧ g0.stack.length < 32 ∧ g0.active &&& g0.guardMask (guardOf (word 2 1 (2 ^ 29 + 2 ^ 48))) ≠ 0 ∧
    (g0.s (fld (word 2 4 (2 * 2 ^ 23)) 23 6)).toNat % 8 = 0 ∧
    (running (g0.setS 2 4)).Issues i0 (word 2 4 (2 * 2 ^ 23)) (g0.setS 2 4) ∧
    ((g0.setS 2 4).s (fld (word 2 4 (2 * 2 ^ 23)) 23 6)).toNat % 8 ≠ 0 := by
  decide +kernel

/-- A group that has diverged: threads 0 to 15 run, the others wait at address 8. -/
def split : Group :=
  { g0 with active := 0xFFFF, stack := [⟨0, BitVec.allOnes 32, 0xFFFF0000, 8⟩] }

theorem witness_MaskStackWords :
    (∀ g ∈ [split, { split with stack := [⟨0, BitVec.allOnes 32, 0, 8⟩] }],
      (running g).Issues i0 (word 2 2 0) g ∧ (g.stack.head?.map MaskEntry.rpc = some g.pc)) ∧
    (Instr.join i0 (word 2 2 0)).wf = true ∧
    (running split).Issues i0 (word 2 3 (2 ^ 19)) split ∧ (Instr.brk i0 (word 2 3 (2 ^ 19))).wf = true ∧
    fld (word 2 3 (2 ^ 19)) 23 5 + 1 ≤ split.stack.length ∧
    split.active &&& ~~~(split.parts (guardOf (word 2 3 (2 ^ 19)))) ≠ 0 ∧
    (running split).Issues i0 (word 2 6 (2 ^ 19)) split ∧ (Instr.exit i0 (word 2 6 (2 ^ 19))).wf = true ∧
    split.launch &&& ~~~(split.parts (guardOf (word 2 6 (2 ^ 19)))) ≠ 0 ∧
    split.active &&& ~~~(split.parts (guardOf (word 2 6 (2 ^ 19)))) ≠ 0 ∧
    (running g0).Issues i0 (word 2 6 0) g0 ∧ g0.launch &&& ~~~(g0.parts (guardOf (word 2 6 0))) = 0 := by
  decide +kernel

theorem witness_IllegalWordFaults :
    (running g0).canIssue i0 = true ∧ (running g0).group? i0 = some g0 ∧ classOf (word 3 0 0) = none ∧ g0.part ≠ 0 ∧
    (running g0).b F.coreFaultStatus_VALID 0 = false ∧ ((running g0).ring (16 * g0.part + g0.ctx)).cmds = [] := by
  decide +kernel

/-- Local space of core 0 holds 7 at address 0, and its first granule is the partition's. -/
def ldW : W64 := word 0x40 0 (2 * 2 ^ 23 + 2 ^ 28 + 3 * 2 ^ 29 + 4 * 2 ^ 37)
def stW : W64 := word 0x40 1 (2 * 2 ^ 23 + 2 ^ 28 + 3 * 2 ^ 29 + 4 * 2 ^ 37 + 8 * 2 ^ 45)

theorem witness_LoadStoreWords :
    (∀ x ∈ [(Instr.ld, ldW), (.st, stW)], (running g0).Issues i0 x.2 g0 ∧ (x.1 i0 x.2).wf = true) ∧
    okThen ((running g0).memAll i0 g0.ready (mForm ldW).sp (mForm ldW).bytes .load (memLanes g0.ready (mForm ldW)))
      (fun x => okThen (x.2.loadLanes i0 g0.ready (mForm ldW) (addrOf (memLanes g0.ready (mForm ldW))) x.1 g0.ready)
        fun _ => true) = true ∧
    okThen ((running g0).memAll i0 g0.ready (mForm stW).sp (mForm stW).bytes .store (memLanes g0.ready (mForm stW)))
      (fun x => okThen (x.2.storeLanes i0 g0.ready (mForm stW) (addrOf (memLanes g0.ready (mForm stW))) x.1)
        fun u => (u.group? i0).isSome) = true := by
  decide +kernel

theorem witness_LocalScalarAccess :
    (∀ x ∈ [(Instr.ld, ldW), (.st, stW)], (running g0).Issues i0 x.2 g0 ∧ (x.1 i0 x.2).wf = true ∧
      (mForm x.2).sc = true ∧ (mForm x.2).sp = 0 ∧
      (g0.s (mForm x.2).va + (mForm x.2).ofs).toNat % (mForm x.2).bytes = 0 ∧
      (g0.s (mForm x.2).va + (mForm x.2).ofs).toNat + (mForm x.2).bytes ≤ localSize) := by
  decide +kernel

def atW : W64 := word 0x41 0 (3 * 2 ^ 28 + 4 * 2 ^ 36 + 6 * 2 ^ 44)
def lacqW : W64 := word 0x42 0 (2 ^ 23 + 3 * 2 ^ 28 + 4 * 2 ^ 36)
def lrelW : W64 := word 0x42 1 (2 ^ 23 + 4 * 2 ^ 36)

/-- Thread 0 alone. -/
def one : Group := { g0 with launch := 1, active := 1 }

/-- Thread 0 alone, and it holds the lock at Local address 0. -/
def owner : State := after (.lacq i0 lacqW) (running one)

theorem witness_AtomicAndLockWords :
    (∀ x ∈ [(Instr.atomic, atW), (.lacq, lacqW)], (running one).Issues i0 x.2 one ∧ (x.1 i0 x.2).wf = true) ∧
    okThen ((running one).memAll i0 one.ready (aForm atW).sp 4 .atomic
        (laneAddrs one.ready (aForm atW).va (lanesOf (one.parts (aForm atW).g))))
      (fun x => x.1.all (fun p => match p.2 with
          | .regs _ _ => false
          | .away _ _ _ => false
          | _ => !x.2.isFar (aForm atW) p.2) &&
        okThen (x.2.nearAtomics 0 one.ready (fnOf atW) (aForm atW) x.1 one.ready false) fun _ => true) = true ∧
    okThen ((running one).memAll i0 one.ready (aForm lacqW).sp 8 .lock
        (laneAddrs one.ready (aForm lacqW).va (lanesOf (one.parts (aForm lacqW).g))))
      (fun x => okThen (x.2.firstTries 0 one.ready x.1) fun _ => true) = true ∧
    owner.Issues i0 lrelW { one with pc := 8 } ∧ (Instr.lrel i0 lrelW).wf = true ∧ owner.releaseWaits i0 one.ready = false ∧
    okThen (owner.memAll i0 one.ready (aForm lrelW).sp 8 .lock
        (laneAddrs one.ready (aForm lrelW).va (lanesOf (one.parts (aForm lrelW).g))))
      (fun x => (x.2.releases i0 one.ready x.1).2 == none) = true := by
  decide +kernel
/-- A handle of a tile of 2 × 2 valid elements. -/
def hnd (addr space format role : Nat) : BitVec 128 :=
  BitVec.ofNat 128 (addr + space * 2 ^ 86 + format * 2 ^ 88 + role * 2 ^ 92 + 2 ^ 94 + 2 ^ 99)

/-- h1, h2 and h3 name BF16 tiles of Local space. -/
def gh : Group := ((g0.setH 1 (hnd 0 0 2 0)).setH 2 (hnd 4096 0 2 0)).setH 3 (hnd 8192 0 2 0)

theorem witness_HandleWords :
    (∀ x ∈ [(Instr.thset, word 0xC0 0 (1 * 2 ^ 16), 2 + 3 * 2 ^ 6), (.thadv, word 0xC0 1 (1 * 2 ^ 16 + 2 * 2 ^ 20), 2 ^ 32),
        (.thget, word 0xC0 2 (1 * 2 ^ 20), 4 * 2 ^ 18), (.thdr, word 0xC0 3 (1 * 2 ^ 20), 4 * 2 ^ 18)],
      (running gh).Issues2 i0 x.2.1 (word x.2.2 0 0) [] gh ∧ (x.1 i0 x.2.1 (word x.2.2 0 0)).wf = true) ∧
    thsetOk (gh.s 3) = true ∧ hFormat (gh.h 1) ≠ 0 ∧ hFormat (gh.h 2) ≠ 0 ∧ (thadv (gh.h 2) 1).isSome = true ∧
    (hTile (gh.h 1) 0 0).placed = true ∧ (hTile (gh.h 1) 0 0).space ≠ 2 ∧
    okThen ((running gh).seeWord0 0 gh.part (hTile (gh.h 1) 0 0) .load) (fun _ => true) = true := by
  decide +kernel

def fstW : W64 := word 0xC8 1 (1 * 2 ^ 16)
def fldW : W64 := word 0xC8 0 (1 * 2 ^ 20)
def topenW : W64 := word 0xC0 4 (1 * 2 ^ 16)
def tsealW : W64 := word 0xC0 5 (1 * 2 ^ 16)

/-- The tile of h1 is open. -/
def opened : State := after (.topen i0 topenW 0) (running gh)

theorem witness_TileWords :
    (∀ x ∈ [(Instr.topen, topenW, ([] : List VOperand)), (.fld, fldW, fldOps (gh.h 1) 0), (.fst, fstW, fstOps (gh.h 1) 0)],
      (running gh).Issues2 i0 x.2.1 0 x.2.2 gh ∧ (x.1 i0 x.2.1 0).wf = true) ∧
    hFormat (gh.h 1) ≠ 0 ∧ (running gh).ownHandle (gh.h 1) = true ∧ (hTile (gh.h 1) 0 0).placed = true ∧
    okThen ((running gh).beginTile 0 gh.part (hTile (gh.h 1) 0 0) (hRole (gh.h 1)) (hVrows (gh.h 1)) (hVcols (gh.h 1)) 0 0
      .tileWrite) (fun x => x.1.isSome) = true ∧
    fragmentHandle (gh.h 1) = true ∧ hNv (gh.h 1) = false ∧
    okThen ((running gh).writeTile 0 gh.part (hTile (gh.h 1) 0 0) (hRole (gh.h 1)) (hVrows (gh.h 1)) (hVcols (gh.h 1)) 0 3
      (gh.ready.storeFragment (gh.h 1) 0) [] .tileWrite) Option.isSome = true := by
  decide +kernel

theorem witness_TileWords_seal :
    ((opened.group? i0).any fun g =>
      decide (opened.Issues2 i0 tsealW 0 [] g) && !opened.fenceOpen i0 g.ready 3 && hOpen (g.h 1) &&
      okThen (opened.seeTile 0 g.part (hTile (g.h 1) 0 0) .tileWrite) fun x =>
        hdrBusy x.1.word0 && hdrGen x.1.word0 == hOgen (g.h 1) &&
        okThen (x.2.sealTile 0 g.part (hTile (g.h 1) 0 0) x.1) fun _ => true) = true := by
  decide +kernel

/-- h1 asks for no verification. -/
def gnv : Group := gh.setH 1 (hnd (2 ^ 107) 0 2 0)

theorem witness_TileWords_load :
    (running gnv).Issues2 i0 fldW 0 (fldOps (gnv.h 1) 0) gnv ∧ (Instr.fld i0 fldW 0).wf = true ∧
    (match ((running gnv).readTile 0 gnv.part (hTile (gnv.h 1) 0 0) (hFormat (gnv.h 1)) (hRole (gnv.h 1)) (hNv (gnv.h 1))
        .tileRead).1 with
     | .good _ => true
     | _ => false) = true := by
  decide +kernel
def mmaW : W64 := word 0xD0 0 (1 * 2 ^ 20 + 2 * 2 ^ 24)
def accwW : W64 := word 0xD1 0 (4 * 2 ^ 16)
def tcvtW : W64 := word 0xD1 1 (4 * 2 ^ 16 + 1 * 2 ^ 20)

/-- h1 to h3 name BF16 tiles and h4 an FP32 tile, all of Local space. -/
def gm : Group := gh.setH 4 (hnd 12288 0 1 0)

theorem witness_MatrixWordsQueue :
    (running gm).Issues2 i0 mmaW 0 (mmaOps mmaW 0) gm ∧ (Instr.mma i0 mmaW 0).wf = true ∧
    mmaBadHandle gm.ready mmaW 0 = none ∧ 0 ≤ mmaLimit (fnOf mmaW) (hFormat (gm.hn 1)) (hFormat (gm.hn 2)) ∧
    misplaced [(gm.hn 1, 1), (gm.hn 2, 1)] = none ∧
    (running gm).Issues2 i0 accwW 0 (accwOps gm.ready accwW 0) gm ∧ (Instr.accw i0 accwW 0).wf = true ∧
    hFormat (gm.hn 4) = 1 ∧ hSpace (gm.hn 4) = 0 ∧ hRole (gm.hn 4) ≠ 1 ∧ 1 ≤ tileCols (hFormat (gm.hn 4)) / 32 ∧
    misplaced [(gm.hn 4, 1)] = none ∧
    (running gm).Issues2 i0 (tcvtW + BitVec.ofNat 64 (2 ^ 48 * (tcvtRatio 2 1 - 1))) 0 [] gm ∧
    tcvtHandle (gm.hn 1) = true ∧ tcvtHandle (gm.hn 4) = true ∧
    misplaced [(gm.hn 1, (tcvtRuns (gm.hn 1) (gm.hn 4)).1), (gm.hn 4, (tcvtRuns (gm.hn 1) (gm.hn 4)).2)] = none ∧
    (((running gm).core 0).me (((running gm).core 0).engineOf 0)).length < 4 := by
  decide +kernel

/-- One tile to copy, a word to wait for, a line to prefetch. -/
def gc : Group := ((gm.setS 2 1).setS 3 128).setS 4 0
def copyW : W64 := word 0xE0 0 (2 * 2 ^ 16 + 1 * 2 ^ 20)
def tredW : W64 := word 0xE1 0 (4 * 2 ^ 16 + 4 * 2 ^ 20)
def regsW : W64 := word 2 0 (4 * 2 ^ 6)

theorem witness_MoverWordsQueue :
    (∀ x ∈ [(Instr.copy, copyW), (.tred, tredW)], (running gc).Issues2 i0 x.2 regsW [] gc ∧ (x.1 i0 x.2 regsW).wf = true ∧
      badStride (gc.h (tForm x.2 regsW).ta) (gc.h (tForm x.2 regsW).td) (gc.s 4) 0 = none ∧
      (running gc).postFault gc.ready x.2 (tForm x.2 regsW) = none ∧
      badTile 1 (mkCmd 0 0 gc.ready x.2 regsW 0 1).src = none ∧ badTile 1 (mkCmd 0 0 gc.ready x.2 regsW 0 1).dst = none) ∧
    (running gc).copyBad gc.ready (tForm copyW regsW) = none ∧ (running gc).tredBad gc.ready (tForm tredW regsW) = none ∧
    (gc.s (tForm copyW regsW).sa).toNat = 1 ∧ gc.s (tForm copyW regsW).sc = 0 ∧ ((running gc).core 0).room 6 = true ∧
    (running gc).Issues2 i0 (word 0xE2 0 0) (word 4 0 0) [] gc ∧ (Instr.tatom i0 (word 0xE2 0 0) (word 4 0 0)).wf = true ∧
    (gc.s 4).toNat % 4 = 0 ∧ (running gc).wordFault (word 0xE2 0 0) false (gc.s 0) = none ∧
    (∀ x ∈ [(Instr.rangePrefetch, 0), (.rangeFlush, 1), (.rangeInvalidate, 2), (.rangeDraff, 3)],
      (running gc).Issues2 i0 (word 0xE3 x.2 0) (word 4 0 (3 * 2 ^ 6)) [] gc ∧
      (x.1 i0 (word 0xE3 x.2 0) (word 4 0 (3 * 2 ^ 6))).wf = true ∧
      (running gc).postFault gc.ready (word 0xE3 x.2 0) (tForm (word 0xE3 x.2 0) (word 4 0 (3 * 2 ^ 6))) = none) ∧
    (gc.s 4).toNat % 128 = 0 ∧ (gc.s 3).toNat % 128 = 0 ∧ (gc.s 3).toNat ≠ 0 := by
  decide +kernel

theorem witness_WaitAndPhaseWords :
    (running g0).Issues2 i0 (word 0xE8 0 0) (word 0 0 (3 * 2 ^ 18)) [] g0 ∧
    (Instr.waitge i0 (word 0xE8 0 0) (word 0 0 (3 * 2 ^ 18))).wf = true ∧
    (running g0).wordFault (word 0xE8 0 0) false (g0.s 0) = none ∧
    okThen ((running g0).waitWord i0 g0.ready 0 (g0.s 0)) (fun x => x.1 == 0) = true ∧
    (running g0).Issues2 i0 (word 0xF0 0 0) (word 0 0 (1025 * 2 ^ 32)) [] g0 ∧
    (Instr.phase i0 (word 0xF0 0 0) (word 0 0 (1025 * 2 ^ 32))).wf = true ∧
    (running { g0 with wait := .waitge 0 0 0 3 }).group? i0 = some { g0 with wait := .waitge 0 0 0 3 } ∧
    okThen ((running g0).waitWord i0 g0 0 0) (fun x => x.1 == 0) = true ∧ i0.wf = true := by
  decide +kernel

/-- A far atomic of one lane whose word has come back. -/
def acc0 : Access :=
  { who := i0, gtag := 5, part := 1, ctx := 0, pc := 0, isStore := false, fp := false, lanes := [0], scalar := false,
    vd := 3, regs := [3], size := 4, signed := false, fn := 0, places := [(0, 0)], got := [some [1, 2, 3, 4]] }

theorem witness_GroupEvents :
    (let s := { running g0 with co := { (running g0).co with accesses := [(9, acc0)] } }
     SMap.find s.co.accesses 9 = some acc0 ∧ acc0.who = i0 ∧ acc0.got.all Option.isSome = true ∧
       s.group? i0 = some g0 ∧ g0.gtag = acc0.gtag) ∧
    (let g := { one with wait := .lock 0 3 [⟨0, 0, none, none⟩] lacqW }
     (running g).group? i0 = some g ∧ g.wait = .lock 0 3 [⟨0, 0, none, none⟩] lacqW) ∧
    (let g := { g0 with wdog := 4096 }
     (running g).group? i0 = some g ∧ 4096 ≤ g.wdog ∧ 1 ≤ g.part ∧ (running g).f F.tunCtx_STATE 16 ≠ 5 ∧
       (running g).b F.clkStatus_SAFE 0 = false ∧ ((running g).ring 16).cmds = []) := by
  decide +kernel

/-- ACCW at the head of ME0. -/
def engine (m : MatCmd) (g : Group) : State :=
  { running g with co := { (running g).co with cores := [(0, { CoreSt.reset with phys := some 0, me0 := [m] })] } }

def accwCmd (started : Bool) : MatCmd :=
  { slot := 0, gtag := 5, pc := 0, w0 := accwW, w1 := 0, td := gm.hn 4, td2 := 0, ta := 0, ta2 := 0, tb := 0, tb2 := 0,
    seed := none, started := started, wait := TileWait.fresh, held := none }

theorem witness_EngineEvents :
    (engine (accwCmd false) gm).engineHead 0 0 = some (accwCmd false) ∧
    ((engine (accwCmd false) gm).matGroup (accwCmd false)).isSome = true ∧ (engine (accwCmd false) gm).issuing = true ∧
    (engine (accwCmd false) gm).coreClocked 0 = true ∧
    (let s := engine (accwCmd true) gm
     s.groupOf 5 = some i0 ∧ s.group? i0 = some gm ∧ (accwCmd true).started = true ∧
     (match s.attempt 0 1 (accwCmd true) with
      | .clean ts => ts.isEmpty
      | _ => false) = true ∧ (s.headAttempt 0 0).all (fun x => !x.2.2.dirty) = true) ∧
    (let s := after (.topen i0 topenW 0) (running (gh.setH 1 (hnd 12288 0 1 0)))
     let t := { s with co := { s.co with cores := [(0, { CoreSt.reset with phys := some 0, me0 := [accwCmd true] })] } }
     (match t.headAttempt 0 0 with
      | some (_, _, .busy) => true
      | _ => false) = true) := by
  decide +kernel
/-- A group that waits with its window open since beat 0, at beat 5. -/
def waiting (g : Group) (w : W64) : State :=
  let s := running { g with wait := .tile ⟨some 0, none⟩ w 0 }
  { s with tun := { s.tun with num := 5 } }

/-- The tile of h1 is busy. -/
def busyTag : State → State := fun s => { s with mem := { s.mem with tags := opened.mem.tags } }

/-- A copy of one tile whose transfer stands at `st`. -/
def moving (st : XferStage) (total : Nat) (xs : Bool) : State :=
  let c := mkCmd 7 0 gc.ready copyW regsW 0 total
  let c := { c with begun := true, xfers := if xs then [⟨0, st, TileWait.fresh, 0, 0, false⟩] else [], cursor := if xs then 1 else 0 }
  { running gc with co := { (running gc).co with cores := [(0, { CoreSt.reset with phys := some 0, tm := [c] })] } }

theorem witness_TileAgentEvents :
    (TileAgent.group 0 0).wf = true ∧ ((waiting gh topenW).tileWrite (.group 0 0)).isSome = true ∧
    ((waiting gnv fldW).tileRead (.group 0 0)).isSome = true ∧ (waiting gh topenW).b F.clkStatus_SAFE 0 = false ∧
    ((busyTag (waiting gh topenW)).writeExpiry (.group 0 0)).isSome = true ∧
    ((busyTag (waiting gh fldW)).readExpiry (.group 0 0)).isSome = true ∧
    (((busyTag (waiting gh fldW)).rasCount 3).readExpiry (.group 0 0)).isSome = true ∧
    ((moving .reading 1 true).copyExpires (.xfer 0 7 0)).isSome = true ∧
    ((moving (.cask 100000) 1 true).caskExpiry (.xfer 0 7 0)).isSome = true ∧
    ((waiting gh topenW).setF F.clkStatus_SAFE 0 1).b F.clkStatus_SAFE 0 = true ∧
    ((waiting gh topenW).group? i0).isSome = true ∧ gh.part = 1 ∧ gh.ctx = 0 ∧
    (waiting gh topenW).f F.tunCtx_STATE 16 ≠ 5 ∧ ((waiting gh topenW).ring 16).cmds = [] := by
  decide +kernel

theorem witness_TransferEvents :
    (moving .reading 0 false).canTransfer 0 = true ∧ ((moving .reading 0 false).nextTm 0).any (fun c => c.total == 0) = true ∧
    (moving .reading 1 false).canTransfer 0 = true ∧
    ((moving .reading 1 false).nextTm 0).any (fun c => c.total != 0 && c.tileDraws == 0 && c.begun) = true ∧
    ((moving .landed 1 true).xfer 0 7 0).any (fun x =>
      decide (x.2.stage = .landed) && classOf x.1.w0 != some .tatom && classOf x.1.w0 != some .invalidate) = true ∧
    (engine (accwCmd true) gm).engineHead 0 0 = some (accwCmd true) ∧ (accwCmd true).started = true ∧
    (engine (accwCmd true) gm).b F.clkStatus_SAFE 0 = false ∧ (engine (accwCmd true) gm).corePresent 0 = true := by
  decide +kernel

/-- The state with register words added. -/
def withWords (l : List (Reg × Nat × Nat)) (s : State) : State :=
  l.foldl (fun s x => s.rset x.1 x.2.1 (BitVec.ofNat 32 x.2.2)) s

theorem witness_RegionOwner :
    up.b F.llmRgnDesc_VALID 3 = false ∧ up.b F.llmRgnDesc_FILLING 3 = false ∧ bitsOf 1 0 6 ≠ up.f F.rgnown_OWNER 3 ∧
    up.b F.partCfg_ENABLE (bitsOf 1 0 6) = true ∧ bitsOf 2 0 6 ≠ 0 ∧ up.b F.partCfg_ENABLE (bitsOf 2 0 6) = false ∧
    (withWords [(.llmRgnDesc, 3, 1)] up).b F.llmRgnDesc_VALID 3 = true ∧
    bitsOf 0x80000000 0 6 = up.f F.rgnown_OWNER 3 ∧ bitsOf 0x80000000 6 1 = up.f F.rgnown_LEND 3 := by
  decide +kernel

/-- Region 3 valid on one pseudo-channel, and where it lay before. -/
def region : State :=
  let s := withWords [(.llmRgnDesc, 3, 1)] up
  { s with hbm := { s.hbm with allot := [(3, ⟨0, false, 0, [(0, 0)]⟩)] } }

theorem witness_RegionLife :
    bitsOf 0 0 1 = 0 ∧ region.b F.llmRgnDesc_VALID 3 = true ∧ region.b F.llmRgnDesc_FILLING 3 = false ∧
    bitsOf 1 0 1 = 1 ∧ region.oldAllotFits 3 = true ∧ up.oldAllotFits 3 = false ∧ (up.newAllot 3).isSome = true ∧
    (withWords [(.hbmCtlRetired, 0, 2 ^ 32 - 1)] up).oldAllotFits 3 = false ∧
    (withWords [(.hbmCtlRetired, 0, 2 ^ 32 - 1)] up).newAllot 3 = none ∧
    region.hbm.destroying = [] ∧
    (let s := { region with hbm := { region.hbm with drains := [3], fills := [4] } }
     s.hbm.drains.contains 3 = true ∧ s.hbm.move = none ∧ s.regionQuiet 3 = true ∧ s.hbm.fills.contains 4 = true ∧
       s.hbm.wiping.contains 4 = false) := by
  decide +kernel

theorem witness_WayWords :
    (withWords [(.sliceWay, 16, 2)] up).b F.sliceWay_BUSY 16 = false ∧ bitsOf 1 0 2 ≠ 3 ∧ bitsOf 1 2 6 = 0 ∧
    (withWords [(.sliceWay, 16, 2)] up).f F.sliceWay_MODE 16 ≠ 1 ∧ (withWords [(.sliceWay, 16, 1)] up).f F.sliceWay_MODE 16 = 1 ∧
    bitsOf ((withWords [(.sliceWay, 16, 1)] up).rget .sliceWay 16) 0 8 ≠ bitsOf 2 0 8 ∧
    (withWords [(.sliceWay, 16, 2 ^ 30)] up).b F.sliceWay_BUSY 16 = true ∧ bitsOf 3 0 2 = 3 ∧
    bitsOf 8 2 6 ≠ 0 ∧ up.b F.partCfg_ENABLE (bitsOf 8 2 6) = false ∧
    (let s := { up with mem := { up.mem with reassign := [(16, 2)] } }
     SMap.find s.mem.reassign 16 = some 2 ∧ s.wayFree 16 = true) := by
  decide +kernel

theorem witness_HostRange :
    (∀ k ∈ [1, 2, 3], bitsOf (BitVec.ofNat 32 (2 ^ 30 + k)) 30 1 = 1 ∧ bitsOf (BitVec.ofNat 32 (2 ^ 30 + k)) 0 2 = k ∧
      (up.code .llmCtlRangeOp 0 (BitVec.ofNat 32 (2 ^ 30 + k))).rangeRefusal
        (up.code .llmCtlRangeOp 0 (BitVec.ofNat 32 (2 ^ 30 + k))).rangeNamed = 0 ∧
      (up.code .llmCtlRangeOp 0 (BitVec.ofNat 32 (2 ^ 30 + 8 + k))).rangeRefusal
        (up.code .llmCtlRangeOp 0 (BitVec.ofNat 32 (2 ^ 30 + 8 + k))).rangeNamed ≠ 0) ∧
    up.hbm.rangeOp = none ∧
    ({ up with hbm := { up.hbm with rangeOp := some ⟨1, 0, 1, 0, 128⟩ } } : State).rangeDone = true ∧
    ({ up with hbm := { up.hbm with rangeOp := some ⟨1, 0, 1, 0, 128⟩ } } : State).hbm.rangeOp.isSome = true := by
  decide +kernel

theorem witness_Retirement :
    bitsOf (0x200 : W32) 9 1 = 1 ∧ up.f F.hbmCtlRetire_STATE 0 ≠ 1 ∧
    ((withWords [(.hbmCtlRetired, 0, 1)] up).code .hbmCtlRetire 0 0x200).retiredPc 0 = true ∧
    (up.code .hbmCtlRetire 0 0x200).retiredPc 0 = false ∧ (up.code .hbmCtlRetire 0 0x200).fillingOn 0 = false ∧
    up.ras.isolated.contains 0 = false ∧
    ((up.code .hbmCtlRetire 0 0x200).moveShares 0 0 ((up.code .hbmCtlRetire 0 0x200).pieces 1024)
      ((up.code .hbmCtlRetire 0 0x200).sharesOn 0)).isSome = true ∧
    (let s := { up with hbm := { up.hbm with move := some ⟨0, [], 0⟩ } }
     s.moveRuns = true ∧ s.mem.farOps = [] ∧ s.hbm.deferred = []) := by
  decide +kernel

/-- Every line of pseudo-channel 0 is taken by regions. -/
def full : State :=
  let s := withWords [(.llmRgnDesc, 4, 1), (.llmRgnDesc, 5, 1)] up
  { s with hbm := { s.hbm with allot := [(4, ⟨0, false, 0, [(0, 0)]⟩), (5, ⟨0, false, 0, [(0, 2 ^ 30)]⟩)] } }

theorem witness_Retirement_refused :
    (let u := (withWords [(.hbmCtlRetired, 0, 2 ^ 32 - 2)] full).code .hbmCtlRetire 0 0x200
     u.retiredPc 0 = false ∧ u.fillingOn 0 = false ∧ u.moveShares 0 0 (u.pieces 1024) (u.sharesOn 0) = none) := by
  decide +kernel

/-- Stack 0 is trained. -/
def trained : State := withWords [(.stackCtrl, 0, 1), (.stackStatus, 0, 1)] up

theorem witness_HbmEvents :
    trained.b F.stackStatus_TRAINED 0 = true ∧ trained.hbm.training.contains 0 = false ∧
    trained.f F.stackStatus_FAILED_CH 0 / 2 ^ 0 % 2 = 0 ∧
    ({ trained with hbm := { trained.hbm with training := [0] } } : State).hbm.training.contains 0 = true ∧
    ({ trained with hbm := { trained.hbm with pprStall := [(1, 9)] } } : State).hbm.pprStall.find? (fun x => x.1 == 1) =
      some (1, 9) ∧
    ({ trained with hbm := { trained.hbm with scrubDue := [(1, 9)] } } : State).hbm.scrubDue.any (fun x => x.1 == 1) = true ∧
    trained.chanStalled 1 = false ∧
    (Instr.memoryReadComplete 1 9 .unattributed ⟨false, false, none, false, 0⟩).wf = true := by
  decide +kernel
theorem witness_PartitionLife :
    bitsOf 0x301 0 1 = 1 ∧ up.b F.partCfg_ENABLE 2 = false ∧ up.partState 2 = 0 ∧
    ((up.code .partCfg 2 0x305).setF F.partCfg_ENABLE 2 0).createRefusal 2 = 0 ∧
    ((((withWords [(.partSeq, 2, 16711680 + 255)] up)).code .partCfg 2 0x305).setF F.partCfg_ENABLE 2 0).createRefusal 2 ≠ 0 ∧
    up.b F.partCfg_ENABLE 1 = true ∧ up.partState 1 ≠ 5 ∧ bitsOf 0 0 1 = 0 ∧
    (withWords [(.partCmd, 1, 40)] up).partState 1 = 5 ∧ (withWords [(.partCmd, 1, 40)] up).hbm.destroying = [] := by
  decide +kernel

theorem witness_PartitionOperations :
    goesOp 0 4 = true ∧ goesOp 1 5 = true ∧ goesOp 2 6 = true ∧
    (up.code .partCmd 1 4).opRefusal 1 0 = 0 ∧ (up.code .partCmd 1 5).opRefusal 1 1 ≠ 0 ∧
    ((withWords [(.partCmd, 1, 24)] up).code .partCmd 1 5).opRefusal 1 1 = 0 ∧
    (up.code .partCmd 1 6).opRefusal 1 2 ≠ 0 ∧
    (withWords [(.partCmd, 1, 16), (.tunCtx, 16, 1)] up).freezeReady 1 = true ∧
    (withWords [(.partCmd, 1, 32)] up).partState 1 = 4 := by
  decide +kernel

theorem witness_ContextWords :
    bitsOf 1 0 1 = 1 ∧ (withWords [(.tunCtx, 16, 41)] up).f F.tunCtx_STATE 16 = 5 ∧ up.f F.tunCtx_STATE 16 ≠ 5 ∧
    bitsOf 0 0 1 = 0 ∧ (withWords [(.tunCtx, 16, 1)] up).f F.tunCtx_STATE 16 = 0 ∧ up.f F.tunCtx_STATE 16 ≠ 0 := by
  decide +kernel

theorem witness_TeardownFaultsContext :
    up.f F.tunCtx_STATE 16 ≠ 5 ∧ (up.ring 16).cmds = [] ∧ (withWords [(.tunCtx, 16, 41)] up).f F.tunCtx_STATE 16 = 5 := by
  decide +kernel

/-- Context 0 of partition 1 has the stage `st` on core 0. -/
def switching (st : SwitchStage) : State :=
  { running g0 with tun := { up.tun with ctxs := [(16, { (up.ctx 16) with switching := [(0, st)], draining := true })] } }

theorem witness_SwitchEvents :
    (switching .draining).stageOf 16 0 = some .draining ∧ (switching .draining).coreQuiet 1 0 0 = true ∧
    (let s := { switching .draining with co := { (running g0).co with accesses := [(9, acc0)] } }
     s.stageOf 16 0 = some .draining ∧ s.coreQuiet 1 0 0 = false ∧ s.b F.clkStatus_SAFE 0 = false) ∧
    (switching .saving).stageOf 16 0 = some .saving ∧ (switching .saving).saveReady 1 0 0 = true ∧
    (switching .restoring).stageOf 16 0 = some .restoring ∧ (switching .restoring).saveReady 1 0 0 = true ∧
    ((switching .none).ctx 16).draining = true ∧ (switching .none).ctxDrained 1 0 = true := by
  decide +kernel

/-- The ring of context 0 of partition 1 is enabled and holds one command. -/
def ring (words : List Nat) (started : Bool) : State :=
  let s := withWords [(.ringCtrl, 16, 1 + 6 * 8), (.ringHeadLo, 16, 1), (.clkGate, 1, 2 ^ 20 - 1)] up
  let c : RingCmd := ⟨0, 0, words.map (BitVec.ofNat 64), started, none⟩
  { s with
    host := { s.host with linkUp := true }
    tun := { s.tun with rings := [(16, { s.ring 16 with fetched := 1, cmds := [c] })] } }

theorem witness_RingEnableWords :
    bitsOf (0x31 : W32) 0 1 = 1 ∧ up.b F.ringCtrl_ENABLE 16 = false ∧ up.ringBad 16 0x31 = false ∧
    (ring [15] false).b F.ringCtrl_ENABLE 16 = true ∧ bitsOf (0 : W32) 0 1 = 0 ∧ up.ringBad 16 0 = true := by
  decide +kernel

/-- Whether the command starts by the rule of its OP. -/
def starts (s : State) (c : RingCmd) : Bool :=
  match c.op with
  | 0x01 => (s.beginTask 16 c).isSome
  | 0x03 => (s.beginWaitmem 16 c).isSome && (s.ring 16).cmds.all (fun x => !x.started)
  | 0x04 => (s.beginWrite 16 c).isSome
  | 0x05 => true
  | 0x0F => true
  | 0x02 => c.w 3 != 0 && (s.freeEngine s.tun.copies 16 0).isSome
  | _ => !c.hsrc && (s.freeEngine s.tun.aes 4 16).isSome

theorem witness_RingCommands :
    [[1, 8, 0, 0, 0x20000], [3, 8, 5], [0x1004, 0x1000, 5], [5, 1025], [15], [2, 0, 8, 8, 1], [16, 0, 0, 0, 0]].all
      (fun x => ((ring x false).nextCmd 16).any (fun c => (ring x false).considered 16 c && c.ok && starts (ring x false) c)) =
      true := by
  decide +kernel

/-- Engine 2 holds a copy of 8 bytes, AES engine 0 a load of an empty chunk list, and task 0 has ended. -/
def engines : State :=
  let s := ring [1, 8, 0, 0, 0x20000] true
  let e : EngineCmd := ⟨1, 0, 0, [2, 0, 8, 8, 1], none, 0, .next, ⟨none, none⟩, false, [], none⟩
  { s with tun := { s.tun with
      copies := [(2, e)], aes := [(0, { e with words := [16, 0, 0, 0, 0] })]
      ctxs := [(16, { s.ctx 16 with tasks := [⟨0, 511, 8, 0, 1, 1, 16, [], true, [], []⟩] })] } }

theorem witness_RingEvents :
    (let s := ring [15] false
     let t := withWords [(.ringHeadLo, 16, 0)] s
     (Instr.commandFetchComplete 1 0 [[15, 0, 0, 0, 0, 0, 0, 0]]).wf = true ∧ t.fetching 16 = true ∧ t.polled 16 = true ∧
       t.hostReady = true ∧ 1 + t.head 16 = (t.ring 16).fetched ∧ t.hostOpen 16 = true) ∧
    (let s := ring [15] false
     let t := { s with tun := { s.tun with rings := [(16, { s.ring 16 with stalled := 10 ^ 9 })] } }
     (t.ring 16).cmds.length = 1 ∧ t.b F.clkStatus_SAFE 0 = false ∧ 2 ^ (t.f F.ringCtrl_STALL 16 + 8) ≤ (t.ring 16).stalled) ∧
    ((engines.ctx 16).tasks.all (fun x => x.n == 0 && engines.taskEnded 1 0 x)) = true ∧
    engines.engineGoes 2 [] [] = true ∧ (Instr.copyEngineComplete 2 [] []).wf = true ∧ (SMap.find engines.tun.aes 0).isSome = true := by
  decide +kernel
/-- Region 0 is valid and lies on a trained stack; slice 0 is enabled. -/
def lines : State :=
  let s := withWords [(.stackCtrl, 0, 1), (.stackStatus, 0, 1), (.llmRgnDesc, 0, 1), (.sliceCtrl, 0, 1)] (running g0)
  { s with hbm := { s.hbm with allot := [(0, ⟨0, false, 0, (List.range 512).map (fun k => (k, 0))⟩)] } }

/-- A request in progress at the home of line 0, `m` sent to core 0 and answered or not, and what core 0 holds. -/
def asked (m : HomeMsg) (st : Option L1State) (answering : List Nat) : State :=
  { lines with mem := { lines.mem with
      l1 := (st.map (fun x => [(l1Key 0 0, x)])).getD []
      dir := [(0, ⟨1, .ex, 0, true, 0, 0, 0⟩)]
      txns := [(0, ⟨.naRead .unattributed, [(0, m)], answering, false, [], false⟩)] } }

/-- Core 0 holds line 0 in the state given. -/
def holding (st : L1State) : State :=
  { lines with mem := { lines.mem with l1 := [(l1Key 0 0, st)], dir := [(0, ⟨1, .ex, 0, false, 0, 0, 0⟩)] } }

/-- Line 0 in way 0 of slice 0, clean or dirty. -/
def inWay (d : Option (List Byte)) : State :=
  let s := withWords [(.sliceWay, 0, 1)] lines
  { s with mem := { s.mem with cache := [(0, ⟨0, 0, true, 0, d⟩)] } }

/-- 15 R523: a clean line with an uncorrectable word is dropped without poison, a dirty one is poisoned; both
advise the way, and SVC_CAUSE shows WAY. -/
theorem test_slice_array :
    (let t := (inWay none).readArray 0 .uncorrectable
     t.rget .rasWayAdvise 0 = 1 ∧ t.mem.cache = [] ∧ t.mem.poison = [] ∧ t.svcCause / 4 % 2 = 1) ∧
    (let t := (inWay (some (zeros 128))).readArray 0 .uncorrectable
     t.rget .rasWayAdvise 0 = 1 ∧ t.mem.poison = [0]) ∧
    (let t := (inWay none).readArray 0 .corrected
     t.rget .rasWayAdvise 0 = 0 ∧ t.rget .rasEvtLo 8 = 1) := by
  decide +kernel

theorem witness_LineRequests :
    lines.mayAsk 0 0 0 = true ∧ lines.l1State 0 0 = none ∧ lines.lineLives 0 = true ∧
    (∀ c ∈ [Instr.gets 0 0 0 .good, .getm 0 0 0, .nonAllocatingRead 0 .unattributed, .nonAllocatingWrite 0 .unattributed 1 (zeros 128)],
      c.wf = true) ∧
    (asked .inv (some .e) []).mayAsk 0 0 0 = true ∧ ((asked .inv none []).txn 0).isSome = true ∧ lines.txn 0 = none ∧
    lines.dirEntry 0 = none ∧ lines.poisoned 0 = false ∧ lines.chanFailed 0 = false ∧
    lines.fenced 0 = false ∧ (∀ c ∈ [Instr.putf 0 0, .pute 0 0, .putm 0 0], c.wf = true) ∧
    (holding .f).l1State 0 0 = some .f ∧ (holding .e).l1State 0 0 = some .e ∧ (holding .m).l1State 0 0 = some .m ∧
    (inWay none).mayAsk 0 0 0 = true ∧ (inWay none).l1State 0 0 = none ∧ (inWay none).arrayRead 0 0 0 = true ∧
    (inWay none).arrayWay 0 = some 0 ∧ ((inWay none).homeOf 0).1 < 512 ∧
    (∀ r ∈ [ArrayReport.corrected, .uncorrectable], (Instr.gets 0 0 0 r).wf = true) := by
  decide +kernel

theorem witness_LineMessages :
    (∀ c ∈ [Instr.l1Inv 0 0, .l1Fwds 0 0, .l1Fwdm 0 0, .l1Snoop 0 0, .l1Recall 0 0, .l1FlushRequest 0 0, .l1Grant 0 0,
      .l1Response 0 0], c.wf = true) ∧
    (∀ m ∈ [HomeMsg.inv, .fwds, .fwdm, .snoop, .recall],
      ((asked m (some .m) []).txn 0).any (fun q => q.sent.contains (0, m)) = true ∧ (asked m (some .m) []).fenced 0 = false) ∧
    ((asked .inv none [0]).txn 0).any (fun q => q.answering.contains 0) = true ∧
    (let s := { holding .m with hbm := { lines.hbm with rangeOp := some ⟨1, 1, 1, BitVec.ofNat 64 (0xFFFF * 2 ^ 44), 128⟩ } }
     s.l1State 0 0 = some .m ∧ s.flushing 0 = true ∧ s.fenced 0 = false) ∧
    (let s := { lines with mem := { lines.mem with grants := [(l1Key 0 0, .e)] } }
     SMap.find s.mem.grants (l1Key 0 0) = some .e) := by
  decide +kernel

def farOp (stalled : Bool) : FarOp :=
  { id := 0, slice := 0, line := 0, part := 1, kind := .atomic 0 false false 0 1 0, owner := .access 9 0, stalled := stalled,
    wait := TileWait.fresh }

/-- A far atomic in the queue of slice 0. -/
def far (stalled : Bool) : State := { lines with mem := { lines.mem with farOps := [farOp stalled] } }

theorem witness_FarOperations :
    (Instr.farOperation 0).wf = true ∧ (far false).nextFar 0 false = some (farOp false) ∧ (Instr.farOpResume 0).wf = true ∧
    (far true).nextFar 0 true = some (farOp true) ∧ (far true).canResume (farOp true) = true ∧
    ((far false).recallAll 0 true).poisoned 0 = false ∧
    ((((far false).recallAll 0 true).farLine (farOp false) 0).isSome) = true ∧
    (Instr.snoopTimeout 0).wf = true ∧ (asked .inv (some .e) []).silentCore 0 = some 0 ∧
    (asked .inv (some .e) []).b F.clkStatus_SAFE 0 = false := by
  decide +kernel

/-- The device is node 1 where `valid` is 1, port 0 is up, node 2 may manage, partition 1 answers span key 7 and maps region 0. -/
def fabric (valid : Nat) : State :=
  let s := { lines with tun := { lines.tun with xlat := [⟨1, 0, 0x1D⟩] } }
  withWords [(.bxfCtlCtrl, 0, 1), (.bxfCtlCfg, 0, 1 + valid * 2 ^ 16 + 16 * 2 ^ 17), (.portStatus, 0, 2), (.portCtrl, 0, 1), (.beatCfg, 0, 8192),
    (.bxfCtlPkey, 1, 7 + 2 ^ 12), (.bxfCtlRouteData, 2, 2 ^ 13), (.xlatCfg, 1, 1), (.rgnown, 0, 1)] s

def msg (type vc dnode : Nat) : Msg :=
  { Msg.empty with vc := vc, type := BitVec.ofNat 6 type, dnode := BitVec.ofNat 16 dnode, snode := 2, head := zeros 48 }

/-- A request waits on VC 2 of port 0. -/
def waitsIn : State := (fabric 1).bufferMsg 0 (msg 0x20 2 1)

theorem witness_FabricMessages :
    (∀ x ∈ [(0x20, 2), (0x20, 0), (7, 0), (4, 0), (0x10, 1)], (fabric 1).comesIn 0 (msg x.1 x.2 1) (BitVec.ofNat 6 x.1) = true) ∧
    (fabric 1).comesIn 0 (msg 0x3F 2 1) 0x20 = true ∧ (fabric 0).comesIn 0 (msg 0x20 2 1) 0x20 = true ∧
    (waitsIn.comesIn 0 (msg 0x20 2 1) 0x20 = true ∧ waitsIn.channelWaits 0 (msg 0x20 2 1) = true) ∧ (msg 0x20 2 1).vcOf = some (msg 0x20 2 1).vc ∧ (msg 0x20 0 1).vcOf ≠ some (msg 0x20 0 1).vc ∧
    ((fabric 0).portCount 0 1 1).nodeId = none ∧ ((fabric 1).portCount 0 1 1).nodeId = some (msg 0x20 2 1).dnode.toNat ∧
    ((fabric 1).portCount 0 1 1).nodeId ≠ some (msg 0x20 2 3).dnode.toNat ∧
    (∀ c ∈ [Instr.rd 0 (msg 0x20 2 1), .mgmtRegisterRead 0 (msg 7 0 1), .mgmtRegisterWrite 0 { msg 7 0 1 with param := 1 },
      .mgmtSpdmFragment 0 { msg 7 0 1 with param := 2 }, .barrive 0 (msg 4 0 1)], c.wf = true) ∧
    ((fabric 1).serveRd (msg 0x20 2 1)).isSome = true ∧ ((fabric 1).serveTrd (msg 0x23 2 1)).isSome = true ∧
    ((fabric 1).mgmtRead (msg 7 0 1)).isSome = true ∧ (fabric 1).channelWaits 0 (msg 0x20 2 1) = false := by
  decide +kernel

def spanMsg (type : Nat) : Msg := { msg type 2 1 with skey := 7, head := zeros 160 }

theorem witness_RequestsServed :
    (fabric 1).keyPart (msg 0x20 2 1) = none ∧ (fabric 1).mgmtOk { msg 7 0 1 with snode := 3 } = false ∧
    (fabric 1).keyPart (spanMsg 0x20) = some 1 ∧ (msg 0x30 3 1).intact = false ∧
    (match (fabric 1).translate 1 (spanMsg 0x20).here .load with
     | .at (.own _ ofs) => okThen (((fabric 1).noteXlat 1 (spanMsg 0x20).here).naRead (gLine ofs)) fun _ => true
     | _ => false) = true ∧
    (match (fabric 1).translate 1 (spanMsg 0x21).here .store with
     | .at (.own _ ofs) => okThen (((fabric 1).noteXlat 1 (spanMsg 0x21).here).naMerge (gLine ofs)
         (BitVec.ofNat 128 (leNat (((spanMsg 0x21).head.drop 8).take 16))) (((spanMsg 0x21).head.drop 32).take 128)) fun _ => true
     | _ => false) = true ∧
    SMap.find (fabric 1).fab.reqs (msg 0x10 1 1).tag.toNat = none := by
  decide +kernel

/-- Port 0 with the state `st` and the ENABLE bit given. -/
def port (st enable : Nat) (x : PortSt) : State :=
  let s := withWords [(.portStatus, 0, st), (.portCtrl, 0, enable)] (fabric 1)
  { s with fab := { s.fab with ports := [(0, x)] } }

def port0 : PortSt := up.port 0

theorem witness_PortAndTableWords :
    bitsOf (1 : W32) 0 1 = 1 ∧ (port 0 0 port0).b F.portCtrl_ENABLE 0 = false ∧ bitsOf (3 : W32) 1 1 = 1 ∧ bitsOf (3 : W32) 0 1 = 1 ∧
    (port 2 1 port0).b F.portCtrl_ENABLE 0 = true ∧ (port 2 1 port0).portUp 0 = true ∧ bitsOf (0x80000000 : W32) 31 1 = 1 ∧
    (fabric 1).keyRefused 2 0x1007 = true ∧ (fabric 1).keyRefused 2 0x1008 = false ∧
    (withWords [(.bxfCtlSpanwinB, 3, 2 ^ 31)] up).b F.bxfCtlSpanwinB_VALID 3 = true ∧
    (Instr.spanWindowWrite 3 true 0x80000000).wf = true ∧ up.b F.bxfCtlSpanwinB_VALID 3 = false ∧
    up.spanOk 3 0x80000000 = false := by
  decide +kernel

theorem witness_PortEvents :
    (Instr.trainingComplete 0 none 16 0).wf = true ∧ (port 1 1 port0).f F.portStatus_STATE 0 = 1 ∧
    (port 1 1 port0).b F.clkStatus_SAFE 0 = false ∧ (port 1 1 port0).ownLanes 0 = 16 ∧
    (port 5 1 port0).b F.portCtrl_ENABLE 0 = true ∧ (port 5 1 port0).f F.portStatus_STATE 0 = 5 ∧
    ((port 2 1 { port0 with training := true, retrainFails := 2 }).port 0).training = true ∧
    2 ≤ ((port 2 1 { port0 with training := true, retrainFails := 2 }).port 0).retrainFails ∧
    (port 2 1 { port0 with replay := 7 }).linked 0 = true ∧ (port 2 1 { port0 with replay := 7 }).carries 0 5 = true ∧
    (Instr.flitCrcError 0 5).wf = true ∧ (SMap.get [] ((port 2 1 { port0 with replay := 7 }).port 0).laneReplays 5).length < 16 ∧
    (let s := port 2 1 { port0 with laneReplays := [(5, List.replicate 16 (2 ^ 64))] }
     s.linked 0 = true ∧ (s.port 0).training = false ∧ s.carries 0 5 = true ∧ s.laneAlive 0 5 = true ∧
       16 ≤ (SMap.get [] (s.port 0).laneReplays 5).length) ∧
    ((port 2 1 { port0 with replay := 7 }).port 0).training = false ∧
    7 ≤ ((port 2 1 { port0 with replay := 7 }).port 0).replay ∧ ((port 2 1 port0).port 0).replay < 7 ∧
    (Instr.stallTimeout 0 2).wf = true ∧
    (port 2 1 { port0 with queued := [⟨msg 0x20 2 3, 0⟩] }).stalls 0 2 = true ∧
    (Instr.laneFailure 0 3).wf = true ∧ (port 2 1 port0).laneAlive 0 3 = true ∧ (Instr.respTimeout 5).wf = true ∧
    (let s := { fabric 1 with fab := { (fabric 1).fab with
        reqs := [(5, ⟨.posted, 1, 0, 0, msg 0x20 2 3, 0, 0, true⟩)], frags := [⟨2, 4, 3, 0, []⟩] } }
     (s.sentReq 5).isSome = true ∧ s.fab.frags.any (fun f => f.snode == 2 && f.msgno == 4 && !f.whole) = true) := by
  decide +kernel

/-- Barrier unit 0 of partition 1 in service for two arrivals of this device. -/
def barrier : State := withWords [(.barCfg, 0, 2 * 2 ^ 21 + 2 ^ 31), (.barOwner, 0, 1)] (running g0)

theorem witness_BarrierUnits :
    bitsOf (0x80200000 : W32) 31 1 = 1 ∧ up.b F.barCfg_ENABLE 0 = false ∧ bitsOf (0x80200000 : W32) 16 1 = 0 ∧
    0 < bitsOf (0x80200000 : W32) 21 10 ∧ barrier.b F.barCfg_ENABLE 0 = true ∧ (Instr.bxfArrive i0 0 0).wf = true ∧
    barrier.group? i0 = some g0 ∧ barrier.f F.barOwner_PARTITION 0 = g0.part ∧ up.f F.barOwner_PARTITION 0 ≠ g0.part ∧
    barrier.f F.barStatus_LCOUNT 0 + 1 < barrier.f F.barCfg_LOCAL 0 := by
  decide +kernel

/-- What a beat without power reports. -/
def quiet : Measure := ⟨0, 0, 0, [], [], [], []⟩

/-- The frame of a mark of 20 zero bytes. -/
def goodFrame : List Byte := [0x55, 0x55, 0x55, 0x55, 0xD5] ++ zeros 20 ++ leBytes 8 (crc64 (zeros 20)).toNat

theorem witness_MarksAndBoundary :
    (Instr.beatMark 0 (msg 1 0 1) 100).wf = true ∧
    (∀ x ∈ [(1, 0), (1, 2), (2, 0), (3, 0)], (fabric 1).comesIn 0 (msg x.1 x.2 1) (BitVec.ofNat 6 x.1) = true) ∧
    (msg 1 0 1).vcOf = some (msg 1 0 1).vc ∧ (msg 1 2 1).vcOf ≠ some (msg 1 2 1).vc ∧
    (port 2 1 { port0 with t1 := some 0 }).comesIn 0 (msg 3 0 1) 3 = true ∧
    (fabric 1).keepsBudget quiet = true ∧
    (withWords [(.portCfg, 0, 2 ^ 18)] (fabric 1)).b F.portCfg_MARKS 0 = true ∧
    (withWords [(.portCfg, 0, 0)] (fabric 1)).b F.portCfg_MARKS 0 = false ∧ frameMark [] = none ∧
    (frameMark goodFrame).isSome = true ∧ (msg 2 0 1).vc = 0 ∧ (msg 2 0 1).type = 0x02 ∧ (msg 3 0 1).type = 0x03 ∧
    ((port 2 1 { port0 with t1 := some 0 }).port 0).t1 = some ((msg 3 0 1).word 0) ∧
    ({ up with fab := { up.fab with digest := some ([], 0) } } : State).fab.digest.isSome = true ∧
    (fabric 1).beats = true ∧ (fabric 1).b F.clkStatus_SAFE 0 = false ∧
    ((fabric 1).setF F.clkStatus_SAFE 0 1).beats = true ∧ ((fabric 1).setF F.clkStatus_SAFE 0 1).b F.clkStatus_SAFE 0 = true := by
  decide +kernel
/-- The state with register fields set. -/
def withFields (l : List (Fld × Nat × Nat)) (s : State) : State := l.foldl (fun s x => s.setF x.1 x.2.1 x.2.2) s

/-- The link is up with its virtual functions; rails are up and boot is done. -/
def linked : State :=
  let s := fabric 1
  { s with
    host := { s.host with linkUp := true, vfEnable := true }
    ras := { s.ras with tables := [0] }
    boot := { s.boot with aux := true, main := true, regulators := true, step := 8, result := 1, perst := false } }

theorem witness_RegisterWrites :
    (Instr.registerWrite (.fn 0) ⟨.llmCtl, 0, 4, .base⟩ 5).wf = true ∧ linked.canWrite (.fn 0) = true ∧
    linked.gatedInfo (linked.windowOf (.fn 0)) .llmCtl 0 4 = none ∧
    (match linked.reach (linked.windowOf (.fn 0)) .llmCtl 0 4 with
     | .reg _ _ => true
     | _ => false) = true ∧
    linked.canWrite (.fn 1) = true ∧ linked.reach (linked.windowOf (.fn 1)) .llmCtl 0 4 = .outside ∧
    linked.gatedInfo (linked.windowOf (.fn 1)) .llmCtl 0 4 = none ∧
    linked.canWrite (.group 0 0) = true ∧ linked.reach (linked.windowOf (.group 0 0)) .llmCtl 0 4 = .outside ∧
    linked.gatedInfo (linked.windowOf (.group 0 0)) .llmCtl 0 4 = none ∧
    (linked.gatedInfo (linked.windowOf (.fn 0)) .core 0 0).isSome = true ∧ Reg.aonScratch.info.blk = .tunAon ∧
    linked.boot.aux = true ∧ linked.clk.failed.contains .iosc = false := by
  decide +kernel

theorem witness_WindowAccesses :
    linked.hostUp = true ∧ (Instr.windowRead 0 0 4).wf = true ∧ (0 : W64).toNat + 4 ≤ linked.windowSize 0 ∧
    linked.windowPart 0 = some 0 ∧ linked.windowPart 2 = none ∧
    okThen (State.windowGet 0 0 (linePieces (4 / 128 + 2) 0 4) linked) (fun _ => true) = true ∧
    (match State.windowGet 0 0 (linePieces (4 / 128 + 2) 0 4) (withWords [(.llmRgnDesc, 0, 0)] linked) with
     | .error c => c != 0 && c != 0x0220
     | .ok _ => false) = true ∧
    (match State.windowGet 0 0 (linePieces (4 / 128 + 2) 0 4) { linked with mem := { linked.mem with poison := [0] } } with
     | .error c => c == 0x0220
     | .ok _ => false) = true ∧
    okThen (State.windowPut 0 0 (linePieces (4 / 128 + 2) 0 4) (zeros 4) linked) (fun _ => true) = true ∧
    (withFields [(F.fnErr_VALID, 0, 1)] linked).b F.fnErr_VALID 0 = true := by
  decide +kernel

theorem witness_LinkAndFunctions :
    ({ linked with host := { linked.host with linkUp := false } } : State).trainsLink = true ∧ linked.host.linkUp = true ∧
    linked.hostUp = true ∧ linked.host.vfEnable = true ∧ linked.boot.recovery = false ∧
    ({ linked with host := { linked.host with vfEnable := false } } : State).host.vfEnable = false ∧
    (let s := { linked with
        sec := { linked.sec with sessions := [.doe 0] }, host := { linked.host with ide := [⟨1, 0, true⟩] } }
     s.sec.sessions.contains (.doe 0) = true ∧ (Instr.ideKm ⟨1, true, 0⟩).wf = true ∧ (Instr.ideKm ⟨2, false, 0⟩).wf = true ∧
       s.ideStream 1 = some ⟨1, 0, true⟩ ∧ (Instr.ideIntegrityFailure 1).wf = true ∧
       s.host.ide.any (fun x => x.stream == 1 && x.secure) = true) ∧
    bitsOf (0x40000000 : W32) 30 1 = 1 ∧ linked.b F.xlatInvStatus_BUSY 0 = false ∧
    (withFields [(F.xlatInvStatus_BUSY, 0, 1)] linked).b F.xlatInvStatus_BUSY 0 = true ∧
    (withFields [(F.xlatInvStatus_BUSY, 0, 1)] linked).invalHeld = false := by
  decide +kernel

theorem witness_SpdmRequests :
    linked.spdmReach (.doe 0) = true ∧
    ({ linked with sec := { linked.sec with sessions := [.doe 0] } } : State).sec.sessions.contains (.doe 0) = true ∧
    linked.sec.sessions.contains (.doe 0) = false ∧ (Instr.getCertificate (.doe 0) 0 0 4).wf = true ∧
    (match (withFields [(F.secStatus_IDENTITY_ON, 0, 1)] { linked with sec := { linked.sec with idxNext := 3, idxEnd := 9 } }).sign with
     | .at 3 _ => true
     | _ => false) = true := by
  decide +kernel

theorem witness_KegCommands :
    linked.kegFree = true ∧ (Instr.kegRead 0 0).wf = true ∧ (Instr.kegAdvance 0 5 0).wf = true ∧
    linked.counter 0 = some 0 ∧ linked.counter 2 = some 0 ∧ linked.counter 4 = some 0 ∧
    (let s := { linked with sec := { linked.sec with keg := [(2, ⟨BitVec.ofNat 64 (2 ^ 40), true, 0, true⟩)] } }
     s.counter 2 = some (2 ^ 40) ∧ s.counter 4 = some 0) ∧
    linked.sec.seedServed = false ∧ ({ linked with sec := { linked.sec with seedServed := true } } : State).sec.seedServed = true ∧
    (Instr.kegResponse ⟨7, .read 0, .value 0, []⟩).wf = true ∧
    ({ linked with sec := { linked.sec with kegBusy := some (.read 0, 7) } } : State).sec.kegBusy = some (.read 0, 7) := by
  decide +kernel

theorem witness_TrustRegisters :
    bitsOf (1 : W32) 0 1 = 1 ∧ bitsOf (2 : W32) 0 2 = 2 ∧ linked.b F.secCommit_BUSY 0 = false ∧ bitsOf (1 : W32) 0 2 = 1 ∧
    linked.b F.secRecCtrl_BUSY 0 = false ∧ bitsOf (1 : W32) 4 2 < 2 ∧ linked.inRecovery = false ∧
    ({ linked with sec := { linked.sec with recActive := true } } : State).sec.recActive = true ∧
    ({ linked with sec := { linked.sec with recJudging := true } } : State).sec.recJudging = true ∧
    bitsOf (0x40 : W32) 6 1 = 1 ∧ bitsOf (0x40 : W32) 0 2 = 0 ∧ linked.b F.keyStatus_BUSY 1 = false ∧
    bitsOf (0x41 : W32) 0 2 = 1 ∧
    (SMap.find ({ linked with sec := { linked.sec with circles := [(0, ⟨1, 0, 0⟩)] } } : State).sec.circles (bitsOf (0x41 : W32) 2 4)).any
      (fun c => c.part == 1) = true ∧
    SMap.find linked.sec.circles (bitsOf (0x41 : W32) 2 4) = none ∧
    (({ linked with sec := { linked.sec with keyBusy := [(1, 4)] } } : State).endKeyLoad 1).isSome = true := by
  decide +kernel

/-- Domain 40 is at the stage given. -/
def domain (st : DomStage) : State := { linked with clk := { linked.clk with dom := [(40, st)] } }

theorem witness_ClockAndPowerEvents :
    bitsOf (1 : W32) 0 1 ≠ linked.f F.clkDom_REF 40 ∧ linked.b F.clkDom_PEND 40 = false ∧ (domain .locking).domStage 40 = .locking ∧
    linked.clk.failed.contains (refOf (linked.b F.clkDom_REF 40)) = false ∧ (domain .stopping).canStop 40 = true ∧
    (domain .stopped).domStage 40 = .stopped ∧
    (withFields [(F.clkCfg_KUORI_CLK, 0, 1), (F.clkDom_REF, 40, 1)] linked).b F.clkCfg_KUORI_CLK 0 = true ∧
    (withFields [(F.clkCfg_KUORI_CLK, 0, 1), (F.clkDom_REF, 40, 1)] linked).b F.clkDom_REF 40 = true ∧
    (withFields [(F.clkCfg_KUORI_CLK, 0, 1), (F.clkDom_REF, 40, 1)] linked).domStage 40 ≠ .lost ∧
    (withFields [(F.clkCfg_KUORI_CLK, 0, 1), (F.clkDom_REF, 40, 1)] linked).inService .refclkSys = true ∧
    linked.inService .iosc = true ∧ linked.b F.clkCfg_KUORI_CLK 0 = false ∧
    ({ linked with host := { linked.host with linkUp := false } } : State).host.linkUp = false ∧
    ({ linked with clk := { linked.clk with failed := [.iosc] } } : State).clk.failed ≠ [] ∧
    (withFields [(F.clkStatus_SAFE, 0, 1)] { linked with clk := { linked.clk with recovering := true } }).b F.clkStatus_SAFE 0 = true ∧
    (withFields [(F.clkCfg_TRIM_SRC, 0, 1)] linked).trimRef ≠ 0 ∧
    (withFields [(F.clkCfg_GATING, 0, 1)] linked).f F.clkCfg_GATING 0 = 1 ∧ wakes 0 3 = true ∧
    (SMap.get 0 linked.clk.awake 0).getLsbD 3 = false ∧ linked.clk.limiter.contains 3 = false ∧
    ({ linked with clk := { linked.clk with limiter := [3] } } : State).clk.limiter.contains 3 = true := by
  decide +kernel

/-- Core 0's unit is fenced. -/
def fencedCore : State := withWords [(.rasFenced, 0, 1), (.clStatus, 0, 0)] linked

theorem witness_ServiceCommands :
    bitsOf (0x400 : W32) 10 1 = 1 ∧ bitsOf (0x400 : W32) 9 1 = 0 ∧ coreId 0 = true ∧ linked.fencedPhys (physIndexOf 0) = false ∧
    bitsOf (0x600 : W32) 9 1 = 1 ∧
    ({ fencedCore with ras := { linked.ras with tested := [0] } } : State).ras.tested.contains (physIndexOf 0) = true ∧
    fencedCore.fencedPhys (physIndexOf 0) = true ∧ fencedCore.ras.tested.contains (physIndexOf 0) = false ∧
    bitsOf (0x4000 : W32) 14 1 = 1 ∧ bitsOf (0x4000 : W32) 0 1 = 0 ∧ linked.b F.rasCellar_BUSY 0 = false ∧
    (fencedCore.logicalOf 0).isSome = true ∧ fencedCore.f F.clStatus_SPARE_STATE 0 = 0 ∧ bitsOf (0x4001 : W32) 0 1 = 1 ∧
    linked.spareUsed 0 = false ∧ ({ linked with ras := { linked.ras with spareWay := [(0, 3)] } } : State).spareUsed 0 = true ∧
    ({ linked with ras := { linked.ras with testing := some (0, 0, 0) } } : State).networkHeld = true ∧
    bitsOf (0x80000000 : W32) 31 1 = 1 ∧
    ({ linked with mem := { linked.mem with dir := [(0, ⟨1, .ex, 0, false, 0, 0, 0⟩)] } } : State).mem.dir.any
      (fun e => e.2.slice == bitsOf (0x80000000 : W32) 0 9 && e.2.set == bitsOf (0x80000000 : W32) 9 8 &&
        e.2.way == bitsOf (0x80000000 : W32) 17 4) = true ∧
    ({ linked with ras := { linked.ras with cellar := some (0, 0, 0) } } : State).cellarReady true = true ∧
    ({ linked with ras := { linked.ras with testing := some (0, 0, 0) } } : State).iftReady = true ∧
    linked.corePresent 0 = true ∧ linked.fenced 0 = false ∧
    (withFields [(F.d2dStatus_STATE, 3, 2)] linked).d2dState 3 ≠ 0 ∧ (withFields [(F.d2dStatus_STATE, 3, 2)] linked).d2dState 3 ≠ 4 ∧
    (linked.lostLanes 3).contains 5 = false ∧ (withFields [(F.d2dStatus_STATE, 3, 1)] linked).d2dState 3 = 1 ∧
    (withFields [(F.d2dStatus_STATE, 3, 1)] linked).capsOk 3 2 2 = true ∧ linked.b F.clkStatus_SAFE 0 = false ∧
    SMap.get 0 linked.ras.d2dRes 3 = 0 := by
  decide +kernel

def report : BootReport := ⟨true, true, true, [40], true, true, [], [0, 1, 2, 3, 4, 5, 6, 7], [], [], true, true, none⟩

theorem witness_RailsAndBoot :
    (let s := State.reset
     s.boot.aux = false ∧ s.boot.main = false) ∧
    ({ linked with boot := { linked.boot with main := false, lost := true } } : State).boot.lost = true ∧
    linked.boot.aux = true ∧ linked.boot.main = true ∧
    (let s := { linked with boot := { linked.boot with regulators := false } }
     s.boot.regulators = false ∧ s.boot.thermal = false) ∧
    linked.boot.perst = false ∧ ({ linked with boot := { linked.boot with perst := true } } : State).boot.perst = true ∧
    (let s := { linked with boot := { linked.boot with step := 1, result := 0 } }
     s.booting = true ∧ s.boot.result = 0 ∧ s.boot.regulators = true ∧ s.boot.thermtripN = false ∧
       { report with selfTestOk := false }.selfTestOk = false) ∧
    (let s := withFields [(F.beatCtrl_SOURCE, 0, 0)] { linked with boot := { linked.boot with step := 7, result := 0 } }
     s.booting = true ∧ s.b F.beatCtrl_SOURCE 0 = false) ∧
    linked.boot.thermal = false ∧ tripOk (.die 3) = true ∧
    (let s := { linked with boot := { linked.boot with step := 1, result := 0, thermtripN := true } }
     s.boot.thermtripN = true ∧ cool report.junctions = true) ∧
    ({ linked with boot := { linked.boot with alertN := true } } : State).boot.alertN = true := by
  decide +kernel

theorem witness_MainClaims :
    State.reset.PinsAgree ∧ (Instr.nop (.group 256 0) 0).wf = false ∧ 3900 < 4000 ∧
    (running g0).pending = [] ∧ ({ running g0 with pending := [Instr.nop i0 1] } : State).pending = [Instr.nop i0 1] ∧
    Reg.coreEvtLo ≠ Reg.coreEvtHi := by
  refine ⟨⟨by decide +kernel, by decide +kernel⟩, by decide, by decide, rfl, rfl, by decide⟩

/-! ### Witnesses of further clauses -/

theorem witness_RetireFrame : (running g0).group? (.group 0 0) = some g0 := by decide +kernel

/-- Thread 0 alone, and its Global address, in v4:v5 and s2, is byte 0 of a node. -/
def oneAt (node : Nat) : Group :=
  { one with
    sregs := SMap.put one.sregs 4 (BitVec.ofNat 64 (node * 2 ^ 44))
    vregs := [(160, BitVec.ofNat 32 (node * 4096))] }

/-- That group on a device in the fabric, with far operations in the slices' queues and access 9 of the group. -/
def atHomes (node : Nat) (ops : List FarOp) : State :=
  let s := fabric 1
  { s with
    co := { s.co with groups := [(0, oneAt node)], accesses := [(9, { acc0 with vd := 9, regs := [9] })] }
    mem := { s.mem with farOps := ops } }

def glob (w : W64) : W64 := w ||| (2 * 2 ^ 21)

theorem witness_LoadStoreWords_behind :
    (∀ x ∈ [(Instr.ld, glob ldW), (.st, glob stW)],
      (atHomes 0xFFFF [farOp false]).Issues i0 x.2 (oneAt 0xFFFF) ∧ (x.1 i0 x.2).wf = true) ∧
    (∀ x ∈ [(glob ldW, Use.load), (glob stW, .store)],
      okThen ((atHomes 0xFFFF [farOp false]).memAll i0 (oneAt 0xFFFF).ready (mForm x.1).sp (mForm x.1).bytes x.2
        (memLanes (oneAt 0xFFFF).ready (mForm x.1))) (fun y => y.2.behindFar (oneAt 0xFFFF).ready y.1) = true) ∧
    okThen ((running g0).memAll i0 g0.ready (mForm ldW).sp (mForm ldW).bytes .load (memLanes g0.ready (mForm ldW)))
      (fun x => !x.2.behindFar g0.ready x.1) = true ∧
    okThen ((running g0).memAll i0 g0.ready (mForm stW).sp (mForm stW).bytes .store (memLanes g0.ready (mForm stW)))
      (fun x => !x.2.behindFar g0.ready x.1) = true := by
  decide +kernel

/-- The lanes of an atomic or a lock word of the group at a node. -/
def lanesAt (node : Nat) (w : W64) : List (Nat × W64) :=
  laneAddrs (oneAt node).ready (aForm w).va (lanesOf ((oneAt node).parts (aForm w).g))

theorem witness_AtomicAndLockWords_behind :
    (∀ x ∈ [(Instr.atomic, glob atW), (.lacq, glob lacqW), (.lrel, glob lrelW)],
      (atHomes 0xFFFF [farOp false]).Issues i0 x.2 (oneAt 0xFFFF) ∧ (x.1 i0 x.2).wf = true) ∧
    okThen ((atHomes 0xFFFF [farOp false]).memAll i0 (oneAt 0xFFFF).ready 2 4 .atomic (lanesAt 0xFFFF (glob atW)))
      (fun y => y.2.behindFar (oneAt 0xFFFF).ready (y.1.filter (fun p => !y.2.isFar (aForm (glob atW)) p.2))) = true ∧
    okThen ((atHomes 0xFFFF [farOp false]).memAll i0 (oneAt 0xFFFF).ready 2 8 .lock (lanesAt 0xFFFF (glob lacqW)))
      (fun y => y.2.behindFar (oneAt 0xFFFF).ready y.1) = true ∧
    okThen ((running one).memAll i0 one.ready (aForm lacqW).sp 8 .lock
      (laneAddrs one.ready (aForm lacqW).va (lanesOf (one.parts (aForm lacqW).g)))) (fun x => !x.2.behindFar one.ready x.1) = true := by
  decide +kernel

/-- An atomic at another node from `s`: every lane is far, and the slices have taken what they may hold or not. -/
def farGoes (s : State) : Bool :=
  okThen (s.memAll i0 (oneAt 2).ready 2 4 .atomic (lanesAt 2 (glob atW))) (fun y =>
    let far := y.1.filter (fun p => y.2.isFar (aForm (glob atW)) p.2)
    let near := y.1.filter (fun p => !y.2.isFar (aForm (glob atW)) p.2)
    !far.isEmpty && !y.2.behindFar (oneAt 2).ready near &&
      okThen (y.2.nearAtomics 0 (oneAt 2).ready 0 (aForm (glob atW)) near (oneAt 2).ready false) (fun r =>
        let u := r.2.2.retire i0 r.1
        let v := if r.2.1 then u.retireWork 5 else u
        let x := v.openAccess (farAccess i0 (oneAt 2).ready 0 4 3 1 (atomicFp 0) true far)
        (x.2.sendAtomics (oneAt 2).ready x.1 0 (aForm (glob atW)) far).farFits))

theorem witness_AtomicAndLockWords_far :
    (atHomes 2 []).Issues i0 (glob lacqW) (oneAt 2) ∧ (atHomes 2 []).Issues i0 (glob atW) (oneAt 2) ∧
    farGoes (atHomes 2 []) = true ∧
    farGoes (atHomes 2 (List.replicate 65 (farOp false))) = false ∧
    okThen ((atHomes 2 []).memAll i0 (oneAt 2).ready 2 8 .lock (lanesAt 2 (glob lacqW))) (fun y =>
      !y.2.behindFar (oneAt 2).ready y.1 && y.1.any (fun p => match p.2 with
        | .away _ _ _ => true
        | _ => false) && okThen (y.2.firstTries 0 (oneAt 2).ready y.1) (fun _ => true)) = true ∧
    (let s := { atHomes 2 [] with co := { (atHomes 2 []).co with accesses := [] } }
     s.Issues i0 (glob lrelW) (oneAt 2) ∧ s.releaseWaits i0 (oneAt 2).ready = false ∧
     okThen (s.memAll i0 (oneAt 2).ready 2 8 .lock (lanesAt 2 (glob lrelW))) (fun y =>
       (y.2.releases i0 (oneAt 2).ready y.1).2 == none) = true) := by
  decide +kernel

/-- h1 names a tile of node 2. -/
def gAway : Group := gh.setH 1 (hnd (2 * 2 ^ 44) 2 2 0)

theorem witness_HandleWords_away :
    (let s := { fabric 1 with co := { (fabric 1).co with groups := [(0, gAway)] } }
     s.Issues2 i0 (word 0xC0 3 (1 * 2 ^ 20)) (word (4 * 2 ^ 18) 0 0) [] gAway ∧
     (Instr.thdr i0 (word 0xC0 3 (1 * 2 ^ 20)) (word (4 * 2 ^ 18) 0 0)).wf = true ∧ hFormat (gAway.h 1) ≠ 0 ∧
     (hTile (gAway.h 1) 0 0).placed = true ∧ (hTile (gAway.h 1) 0 0).space = 2 ∧
     (match s.translate gAway.part ((hTile (gAway.h 1) 0 0).hdrAddr + 0) .load with
      | .at (.remote _ _ _) => true
      | _ => false) = true) := by
  decide +kernel

/-- h4 and h5 name the halves of a pair tile. -/
def gPair : Group := (gh.setH 4 (hnd 12288 0 1 1)).setH 5 (hnd 20480 0 1 2)

theorem witness_MatrixWordsQueue_pair :
    (running gPair).Issues2 i0 accwW 0 (accwOps gPair.ready accwW 0) gPair ∧ hRole (gPair.hn 4) = 1 ∧
    hFormat (gPair.hn 5) = 1 ∧ hRole (gPair.hn 5) = 2 ∧ hSpace (gPair.hn 5) = 0 ∧
    misplaced [(gPair.hn 4, 1), (gPair.hn 5, 1)] = none := by
  decide +kernel

/-- A started TCVT from h1 to h4. -/
def convert : MatCmd :=
  { accwCmd true with w0 := tcvtW + BitVec.ofNat 64 (2 ^ 48 * (tcvtRatio 2 1 - 1)), ta := gm.hn 1 }

/-- It stands at the head of ME0, and h1's tile has the checksum word `c`. -/
def checked (c : W64) : State :=
  { engine convert gm with
    mem := { State.reset.mem with tags := [(0, { word0 := 0x20, word1 := c, part := 1 })] } }

/-- The checksum of that tile, none of whose payload bytes has been written. -/
def checkedSum : W64 := tileChecksum ⟨0x20, (checked 0).localRead 0 1 0 4096, []⟩

theorem checked_judge (c : W64) (p : List Byte) (hc : tileChecksum ⟨0x20, p, []⟩ ≠ c) :
    judge ⟨0x20, c, p, []⟩ 2 0 false = .mismatch 0 := by
  have h : hdrPoison 0x20 = false ∧ hdrBusy 0x20 = false ∧ suits 0x20 2 0 = true ∧ hdrGen 0x20 = 0 := by decide +kernel
  simp only [judge, h.1, h.2.1, h.2.2.1, h.2.2.2, beq_iff_eq, hc, Bool.false_eq_true, if_false, Bool.not_true]

theorem readOperands_mismatch (s t : State) (core part k g : Nat) (o : Operand) (os : List Operand) (x : Seen)
    (h : s.seeTile core part o.loc .tileRead = .ok (x, t)) (hj : judge x o.format o.role o.nv = .mismatch g) :
    s.readOperands core part k (o :: os) = .mismatch (k * 65536 + g) o.loc := by
  simp [State.readOperands, h, hj]

theorem checked_part (c : W64) (n : Nat) :
    ((checked c).localTag 0 n).part = ((checked 0).localTag 0 n).part := by
  simp only [State.localTag, checked, SMap.get, SMap.find]
  split <;> rfl

theorem checked_read (c : W64) : (checked c).localRead 0 1 0 4096 = (checked 0).localRead 0 1 0 4096 := by
  simp only [State.localRead, checked_part c]
  rfl

theorem checked_mismatch (c : W64) (hc : checkedSum ≠ c) :
    (checked c).headAttempt 0 0 = some (convert, gm, .mismatch 0 (hRun (gm.hn 1) 0)) := by
  have hj := checked_judge c ((checked c).localRead 0 1 0 4096) (by rw [checked_read]; exact hc)
  have hs : (checked c).seeTile 0 1 (hRun (gm.hn 1) 0) .tileRead =
      .ok (⟨0x20, c, (checked c).localRead 0 1 0 4096, []⟩, checked c) := by
    have ht : (checked c).localTag 0 (hRun (gm.hn 1) 0).granule = ⟨0x20, c, 1⟩ := by rfl
    have hsp : (hRun (gm.hn 1) 0).space = 0 := by decide +kernel
    have hof : (hRun (gm.hn 1) 0).ofs = 0 := by decide +kernel
    have htf : (hRun (gm.hn 1) 0).tf = 2 := by decide +kernel
    simp [State.seeTile, ht, hsp, hof, htf, tilePayload, tileIsMx]
  have hr := readOperands_mismatch _ _ 0 1 0 0 ⟨hRun (gm.hn 1) 0, 2, 0, false⟩ [] _ hs hj
  have hm : (checked c).matOperands 0 1 convert = [⟨hRun (gm.hn 1) 0, 2, 0, false⟩] := by
    rfl
  have ha : (checked c).attempt 0 1 convert = .mismatch 0 (hRun (gm.hn 1) 0) := by
    rw [State.attempt, hm, hr]
  have he : (checked c).engineHead 0 0 = some convert := by rfl
  have hg : (checked c).matGroup convert = some (i0, gm) := by rfl
  rw [State.headAttempt, he]
  simp only [hg]
  exact congrArg (fun a => some (convert, gm, a)) ha

theorem witness_EngineEvents_mismatch :
    ∃ (s : State) (m : MatCmd) (g : Group) (mark : Nat) (l : TLoc), s.engineHead 0 0 = some m ∧ m.started = true ∧
      s.headAttempt 0 0 = some (m, g, .mismatch mark l) ∧ m.wait.mismatch ≠ some mark := by
  have hc : checkedSum ≠ ~~~checkedSum := by
    generalize checkedSum = c
    intro h
    have := congrArg (fun x : W64 => x.getLsbD 0) h
    simp at this
  exact ⟨checked (~~~checkedSum), convert, gm, 0, hRun (gm.hn 1) 0, rfl, rfl, checked_mismatch _ hc, by decide +kernel⟩

theorem witness_EngineEvents_more :
    (let m := { accwCmd true with held := some ⟨[], [], 0, 1⟩ }
     (engine m gm).engineHead 0 0 = some m ∧ m.started = true ∧ m.held = some ⟨[], [], 0, 1⟩) ∧
    (let m := { accwCmd true with gtag := 6 }
     (engine m gm).engineHead 0 0 = some m ∧ m.started = true ∧ m.held = none ∧ (engine m gm).groupOf m.gtag = none) := by
  decide +kernel

/-- A TATOM of a Global word at stage `st`. -/
def atoming (st : XferStage) : State :=
  let c := mkCmd 7 0 gc.ready (word 0xE2 0 0) (word 4 0 0) 0 1
  let c := { c with begun := true, sa := 0xFFFF <<< 44, xfers := [⟨0, st, TileWait.fresh, 0, 0, false⟩], cursor := 1 }
  let s := fabric 1
  { s with co := { s.co with cores := [(0, { CoreSt.reset with phys := some 0, tm := [c] })] } }

theorem witness_TransferEvents_more :
    (atoming .reading).canTransfer 0 = true ∧ ((atoming .reading).heldTatom 0).isSome = true ∧
    (moving .reading 0 false).heldTatom 0 = none ∧ (moving .reading 1 false).heldTatom 0 = none ∧
    ((atoming (.read 5 [] [])).xfer 0 7 0).any (fun x =>
      decide (x.2.stage = .read 5 [] []) && classOf x.1.w0 == some .tatom) = true ∧
    (let s := moving (.writing 0 (zeros 16) []) 1 true
     (s.xfer 0 7 0).any (fun x => decide (x.2.stage = .writing 0 (zeros 16) []) && classOf x.1.w0 != some .tatom &&
       match s.siteOf x.1.part (x.1.dst x.2.idx) .copyDestination with
       | .ok (.here l) => okThen (s.finishTile 0 x.1.part l 0 (zeros 16) [] .copyDestination) fun _ => true
       | _ => false) = true) ∧
    (moving .reading 0 false).xfer 0 7 0 = none ∧
    ((moving .reading 0 false).tmCmd 0 7).any (fun c => (moving .reading 0 false).postable 0 c) = true := by
  decide +kernel

theorem witness_WayWords_same :
    (let s := withWords [(.sliceWay, 16, 1)] up
     s.b F.sliceWay_BUSY 16 = false ∧ s.f F.sliceWay_MODE 16 = 1 ∧ bitsOf (s.rget .sliceWay 16) 0 8 = bitsOf 1 0 8) := by
  decide +kernel

theorem witness_Retirement_more :
    (let u := (full.setF F.llmRgnDesc_FILLING 4 1).code .hbmCtlRetire 0 0x200
     u.retiredPc 0 = false ∧ u.fillingOn 0 = true) ∧
    (let s := { up with ras := { up.ras with isolated := [0] } }
     let u := s.code .hbmCtlRetire 0 0x200
     u.retiredPc 0 = false ∧ u.fillingOn 0 = false ∧ (u.moveShares 0 0 (u.pieces 1024) (u.sharesOn 0)).isSome = true ∧
       s.ras.isolated.contains 0 = true) := by
  decide +kernel

theorem witness_RingCommands_more :
    (ring [15] false).atBoundary = true ∧ ((ring [2, 0, 8, 0, 1] false).nextCmd 16).any (fun c => c.ok && c.w 3 == 0) = true ∧
    (((ring [3, 8, 0] true).ring 16).cmds.findSome? (fun x =>
      if x.started && x.ended.isNone && x.op == 0x03 then (ring [3, 8, 0] true).retryWaitmem 16 x else none)).isSome = true ∧
    (let s := ring [16 + 2048, 0, 0, 0, 0] false
     (s.nextCmd 16).any (fun c => c.ok && c.hsrc) = true ∧ s.host.linkUp = true ∧ s.hostReady = true ∧
       (s.freeEngine s.tun.aes 4 16).isSome = true) := by
  decide +kernel

/-- The directory set of line 0 is full; core 0 holds what its entries name. -/
def fullSet : State :=
  { lines with mem := { lines.mem with
      dir := (List.range 16).map (fun k => (1000 + k, ⟨1, .ex, 0, false, 0, 0, k⟩)) } }

theorem witness_LineRequests_room :
    lines.dirVictim (lines.homeOf 0).1 ((lines.homeOf 0).2 % 256) = none ∧ lines.dirFull 0 = false ∧
    fullSet.mayAsk 0 0 0 = true ∧ fullSet.l1State 0 0 = none ∧ fullSet.txn 0 = none ∧ fullSet.dirEntry 0 = none ∧
    fullSet.poisoned 0 = false ∧ fullSet.chanFailed 0 = false ∧ (fullSet.makeRoom 0 (.gets 0 0)).2 = true ∧
    (far false).poisoned 0 = false := by
  decide +kernel

/-- An operation of node 2 waits on line 0. -/
def behindNode : State :=
  { fabric 1 with mem := { (fabric 1).mem with farOps := [{ farOp false with owner := .remote 0 5 2 }] } }

theorem witness_RequestsServed_more :
    (match behindNode.translate 1 (spanMsg 0x20).here .load, behindNode.translate 1 (spanMsg 0x21).here .store with
     | .at (.own _ o), .at (.own _ p) =>
       (behindNode.noteXlat 1 (spanMsg 0x20).here).farFrom (spanMsg 0x20).snode (gLine o) &&
         (behindNode.noteXlat 1 (spanMsg 0x21).here).farFrom (spanMsg 0x21).snode (gLine p)
     | _, _ => false) = true ∧
    (match (fabric 1).translate 1 (spanMsg 0x20).here .load with
     | .at (.own _ o) => !((fabric 1).noteXlat 1 (spanMsg 0x20).here).farFrom (spanMsg 0x20).snode (gLine o)
     | _ => false) = true := by
  decide +kernel

/-- The spare of cluster 0 has taken the number of its core 0. -/
def spared : State :=
  let s := withFields [(F.clStatus_SPARE_STATE, 0, 1), (F.clStatus_SPARE, 0, 8)] fencedCore
  { s with co := { s.co with cores := [(0, { CoreSt.reset with phys := some 8 })] } }

theorem witness_ServiceCommands_spared :
    spared.replaced (physIndexOf 0) = true ∧
    ({ fencedCore with ras := { linked.ras with tested := [0] } } : State).replaced (physIndexOf 0) = false := by
  decide +kernel

end Slice0Tests
end

section
/-!
PROOF. What a register write makes of each field (00 R13, 16 R541) and how an event counter wraps (00 R20).
-/
namespace Sys2Proof.Machine

/-! ### One field of a write -/

/-- Two fields share no bit. -/
abbrev RField.Apart (x y : RField) : Prop := x.lo + x.n ≤ y.lo ∨ y.lo + y.n ≤ x.lo

/-- The value a write of `v` over the word `old` gives a field that held `b` (00 R13). -/
def RField.bitsAfter (x : RField) (held : Bool) (old v : W32) (b : Nat) : Nat :=
  match x.acc with
  | .ro | .wo => b
  | .rw => bitsOf v x.lo x.n
  | .rwd => if held then b else bitsOf v x.lo x.n
  | .w1c => bitsOf (old &&& ~~~v) x.lo x.n

theorem bitsOf_withBits_bitsOf (w v : W32) {lo n : Nat} (h : lo + n ≤ 32) :
    bitsOf (withBits w lo n (bitsOf v lo n)) lo n = bitsOf v lo n := by
  rw [bitsOf_withBits_self _ _ h, Nat.mod_eq_of_lt (bitsOf_lt v lo n)]

theorem RField.bitsOf_after_self {x : RField} (hx : x.lo + x.n ≤ 32) (held : Bool) (old v w : W32) :
    bitsOf (x.after held old v w) x.lo x.n = x.bitsAfter held old v (bitsOf w x.lo x.n) := by
  unfold RField.after RField.bitsAfter
  cases x.acc with
  | ro | wo => rfl
  | rw | w1c => exact bitsOf_withBits_bitsOf _ _ hx
  | rwd => cases held <;> simp [bitsOf_withBits_bitsOf _ _ hx]

theorem RField.bitsOf_after_apart {x y : RField} (hx : x.lo + x.n ≤ 32) (h : x.Apart y) (held : Bool)
    (old v w : W32) : bitsOf (x.after held old v w) y.lo y.n = bitsOf w y.lo y.n := by
  have hb (u : Nat) : bitsOf (withBits w x.lo x.n u) y.lo y.n = bitsOf w y.lo y.n :=
    bitsOf_withBits_other _ _ hx h.symm
  unfold RField.after
  cases x.acc with
  | ro | wo => rfl
  | rw | w1c => exact hb _
  | rwd => cases held <;> simp [hb]

/-! ### All fields of a register -/

/-- The fields of a register lie within the word and share no bit. -/
abbrev FieldsApart (l : List RField) : Prop := (∀ x ∈ l, x.lo + x.n ≤ 32) ∧ l.Pairwise RField.Apart

theorem fieldsApart_cons {x : RField} {l : List RField} (h : FieldsApart (x :: l)) :
    x.lo + x.n ≤ 32 ∧ (∀ y ∈ l, x.Apart y) ∧ FieldsApart l := by
  obtain ⟨hw, hp⟩ := h
  obtain ⟨hx, hl⟩ := List.forall_mem_cons.1 hw
  obtain ⟨ha, hr⟩ := List.pairwise_cons.1 hp
  exact ⟨hx, ha, hl, hr⟩

/-- Writes to the other fields leave a field alone. -/
theorem bitsOf_foldl_after_apart {l : List RField} {y : RField} (hl : ∀ x ∈ l, x.lo + x.n ≤ 32 ∧ x.Apart y)
    (held : Bool) (old v w : W32) :
    bitsOf (l.foldl (fun w x => x.after held old v w) w) y.lo y.n = bitsOf w y.lo y.n := by
  induction l generalizing w with
  | nil => rfl
  | cons x l ih =>
    obtain ⟨⟨hx, ha⟩, hr⟩ := List.forall_mem_cons.1 hl
    rw [List.foldl_cons, ih hr, RField.bitsOf_after_apart hx ha]

/-- Of the writes to all fields in turn, each field sees its own alone. -/
theorem bitsOf_foldl_after_mem {l : List RField} (hl : FieldsApart l) {x : RField} (hx : x ∈ l)
    (held : Bool) (old v w : W32) :
    bitsOf (l.foldl (fun w x => x.after held old v w) w) x.lo x.n =
      x.bitsAfter held old v (bitsOf w x.lo x.n) := by
  induction l generalizing w with
  | nil => cases hx
  | cons y l ih =>
    obtain ⟨hy, ha, hr⟩ := fieldsApart_cons hl
    rw [List.foldl_cons]
    rcases List.mem_cons.1 hx with rfl | hm
    · rw [bitsOf_foldl_after_apart (fun z hz => ⟨hr.1 z hz, (ha z hz).symm⟩), RField.bitsOf_after_self hy]
    · rw [ih hr hm, RField.bitsOf_after_apart hy (ha x hm)]

/-- The register table gives no two fields of one register a common bit. -/
theorem Reg.fieldsApart (r : Reg) : FieldsApart r.info.fields := by
  cases r <;> decide

theorem Reg.bitsOf_written (r : Reg) (held : Bool) (old v : W32) {x : RField} (hx : x ∈ r.info.fields) :
    bitsOf (r.written held old v) x.lo x.n = x.bitsAfter held old v (bitsOf old x.lo x.n) :=
  bitsOf_foldl_after_mem r.fieldsApart hx held old v old

/-! ### The sticky wrap bit of an event counter -/

theorem bitsOf_one (w : W32) (i : Nat) : bitsOf w i 1 = (w.getLsbD i).toNat :=
  (Nat.toNat_testBit w.toNat i).symm

/-- A one-bit field written back with the ones of `v` cleared. -/
theorem bitsOf_and_not_one (old v : W32) {i : Nat} (hi : i < 32) :
    bitsOf (old &&& ~~~v) i 1 = if bitsOf v i 1 = 1 then 0 else bitsOf old i 1 := by
  rw [bitsOf_one, bitsOf_one, bitsOf_one, BitVec.getLsbD_and, BitVec.getLsbD_not]
  cases v.getLsbD i <;> simp [hi]

theorem Reg.written_w1c_one (r : Reg) {i reset : Nat} (h : ⟨i, 1, .w1c, reset⟩ ∈ r.info.fields) (held : Bool)
    (old v : W32) :
    bitsOf (r.written held old v) i 1 = if bitsOf v i 1 = 1 then 0 else bitsOf old i 1 :=
  (r.bitsOf_written held old v h).trans (bitsOf_and_not_one old v (r.fieldsApart.1 _ h))

/-- The sticky bit after a count reaches `c` (00 R20). -/
theorem bitsOf_carryHi_sticky (h : W32) (c : Nat) :
    bitsOf (carryHi h c) 16 1 = if 2 ^ 48 ≤ c then 1 else bitsOf h 16 1 := by
  unfold carryHi
  split
  · exact bitsOf_withBits_self _ _ (by decide)
  · exact bitsOf_withBits_other _ _ (by decide) (by decide)

/-- The high word of a counter that has counted on. -/
theorem State.rget_bump_hi (s : State) (lo hi : Reg) (i k : Nat) :
    (s.bump lo hi i k).rget hi i = carryHi (s.rget hi i) (s.eventCount lo hi i + k) :=
  State.rget_rset_self _ _ _ _

/-! ### The obligations -/

/-- Settles O6: the fields of each register share no bit, so each sees its own write alone. -/
theorem writeByAccessCode : Obligations.WriteByAccessCode := by
  rintro r held old v ⟨lo, n, acc, reset⟩ hx
  have h := r.bitsOf_written held old v hx
  cases acc <;> exact h

/-- Settles O7: the high word of each counter has its sticky bit as a write-one-to-clear field at 16, and a count
that reaches 2^48 sets it. -/
theorem eventCounterWraps : Obligations.EventCounterWraps := by
  refine ⟨fun hi hmem held old v => hi.written_w1c_one (reset := 0) ?_ held old v, ?_⟩
  · have sticky : ∀ r ∈ [Reg.coreEvtHi, .sliceEvtHi, .stackEvtHi, .bxfCtlEvtHi, .portEvtHi, .secEvtHi, .clkEvtHi,
        .pwrEvtHi, .rasEvtHi, .d2dEvtHi], ⟨16, 1, .w1c, 0⟩ ∈ r.info.fields := by decide
    exact sticky hi hmem
  · intro s lo hi i k hne hi24
    refine ⟨s.eventCount_bump k hne hi24, ?_, fun r j hj h => s.rget_bump_ne k hi24 hj h⟩
    rw [s.rget_bump_hi, bitsOf_carryHi_sticky]

end Sys2Proof.Machine
end

section
/-!
PROOF. What the steps of tile readers and writers answer (03 R93 to R98; 14 R496), and what the fault of a waiting group
leaves in its context: the registers a fault's record leaves alone, and the STATE and FAULT that a teardown writes
(11 R403; 15 R510).
-/
namespace Sys2Proof.Machine

/-! ### Registers that the record of a fault leaves alone -/

theorem State.rget_setF_ne (s : State) {x : Fld} {r : Reg} {i j : Nat} (v : Nat) (hi : i < 2 ^ 24) (hj : j < 2 ^ 24)
    (h : r ≠ x.reg) : (s.setF x i v).rget r j = s.rget r j :=
  State.rget_rset_ne s _ hi hj (.inl h)

theorem State.rget_setPair_ne (s : State) {lo hi r : Reg} {i j : Nat} (v : W64) (hi' : i < 2 ^ 24) (hj : j < 2 ^ 24)
    (hl : r ≠ lo) (hh : r ≠ hi) : (s.setPair lo hi i v).rget r j = s.rget r j := by
  rw [State.setPair, State.rget_rset_ne _ _ hi' hj (.inl hh), State.rget_rset_ne _ _ hi' hj (.inl hl)]

@[simp] theorem State.msix_regs (s : State) (fn vector : Nat) : (s.msix fn vector).regs = s.regs := by
  unfold State.msix
  split
  · rfl
  · split <;> rfl

@[simp] theorem State.faultInfo_regs (s : State) (code : Nat) (info : W32) :
    (s.faultInfo code info).2.regs = s.regs := by
  unfold State.faultInfo
  split <;> rfl

@[simp] theorem State.faultInfo_tun (s : State) (code : Nat) (info : W32) :
    (s.faultInfo code info).2.tun = s.tun := by
  unfold State.faultInfo
  split <;> rfl

@[simp] theorem State.recordCore_tun (s : State) (core slot code lane : Nat) (info : W32) (pc : W64) :
    (s.recordCore core slot code lane info pc).tun = s.tun := by
  unfold State.recordCore
  split
  · exact State.setF_tun _ _ _ _
  · exact (State.rset_tun _ _ _ _).trans ((State.setPair_tun _ _ _ _ _).trans (State.rset_tun _ _ _ _))

/-- The record of a core's first fault is in four registers of that core (04 R148). -/
theorem State.rget_recordCore (s : State) {core : Nat} (slot code lane : Nat) (info : W32) (pc : W64)
    {r : Reg} {j : Nat} (hc : core < 2 ^ 24) (hj : j < 2 ^ 24)
    (hr : r ∉ [Reg.coreFaultStatus, .coreFaultPcLo, .coreFaultPcHi, .coreFaultInfo]) :
    (s.recordCore core slot code lane info pc).rget r j = s.rget r j := by
  simp only [List.mem_cons, List.not_mem_nil, or_false, not_or] at hr
  obtain ⟨hs, hl, hh, hi⟩ := hr
  unfold State.recordCore
  split
  · exact s.rget_setF_ne _ hc hj hs
  · rw [State.rget_rset_ne _ _ hc hj (.inl hi), State.rget_setPair_ne _ _ hc hj hl hh,
      State.rget_rset_ne _ _ hc hj (.inl hs)]

/-- Words written to one register array leave the other registers alone. -/
theorem State.rget_foldl_rset (s : State) {a r : Reg} {j base : Nat} (ws : List (Nat × Nat)) (hj : j < 2 ^ 24)
    (hb : ∀ w ∈ ws, base + w.2 < 2 ^ 24) (h : r ≠ a) :
    (ws.foldl (fun (s : State) w => s.rset a (base + w.2) (BitVec.ofNat 32 w.1)) s).rget r j = s.rget r j := by
  induction ws generalizing s with
  | nil => rfl
  | cons w ws ih =>
    obtain ⟨hw, hws⟩ := List.forall_mem_cons.1 hb
    rw [List.foldl_cons, ih _ hws, State.rget_rset_ne _ _ hw hj (.inl h)]

/-- An entry of the fault log is in the log and its status (15 R511). -/
theorem State.rget_logFault (s : State) (e : FaultRec) {r : Reg} {j : Nat} (hj : j < 2 ^ 24) (hl : r ≠ .rasFlog)
    (hs : r ≠ .rasFlogStatus) : (s.logFault e).rget r j = s.rget r j := by
  have hn : s.f F.rasFlogStatus_NEXT 0 < 64 := bitsOf_lt _ _ _
  have status (u : State) (x : Fld) (v : Nat) (hx : x.reg = .rasFlogStatus) : (u.setF x 0 v).rget r j = u.rget r j :=
    u.rget_setF_ne v (by decide) hj (by rwa [hx])
  unfold State.logFault
  extract_lets i seq words ras s1 s2 s3
  have h2 : s2.rget r j = s.rget r j := by
    refine (s1.rget_foldl_rset words.zipIdx hj ?_ hl).trans rfl
    intro w hw
    have := List.snd_lt_of_mem_zipIdx hw
    simp only [words, List.length_cons, List.length_nil] at this
    omega
  have h3 : s3.rget r j = s.rget r j := (status s2 _ _ rfl).trans h2
  split
  · exact (status s3 _ _ rfl).trans h3
  · exact h3

/-! ### The teardown of a context -/

/-- A context without commands in its ring has no status to write. -/
theorem State.endCommands_regs_of_empty (s : State) {key : Nat} (code : Nat) (h : (s.ring key).cmds = []) :
    (s.endCommands key code).regs = s.regs := by
  unfold State.endCommands
  rw [h]
  rfl

theorem State.f_setCtxState_self (s : State) {key : Nat} (st : Nat) (hk : key < 2 ^ 24) :
    (s.setCtxState key st).f F.tunCtx_STATE key = st % 8 := by
  unfold State.setCtxState
  rw [State.f_setF_ne _ _ (by omega) hk (.inl (by decide)), State.f_setF_self _ _ _ _ (by decide)]
  rfl

theorem FaultRec.plain_eq {e : FaultRec} (h : e.code < 2 ^ 16) : e.plain = e := if_pos h

/-- The context stopped, its groups on their way back, and FAULTED with a code: what a teardown does before the ring. -/
def State.markFaulted (s : State) (e : FaultRec) : State :=
  let key := 16 * e.part + e.ctx
  let s := s.stopContext e.part e.ctx
  let x := s.ctx key
  let s := s.setCtx key { CtxSt.reset with draining := true, returning := x.resident ++ x.returning }
  let s := (s.setCtxState key 5).setF F.tunCtx_FAULT key e.code
  s.setF F.partCtxmask_FAULTED e.part (s.f F.partCtxmask_FAULTED e.part ||| 2 ^ e.ctx)

/-- The ring closed, the log entry and the vector: the rest of a teardown. -/
def State.reportFault (s : State) (e : FaultRec) (ringError : Bool) : State :=
  let key := 16 * e.part + e.ctx
  let s := s.endCommands key e.code
  let s := if ringError || s.f F.ringStatus_STATE key == 3 then s.setF F.ringStatus_STATE key 3
    else s.setF F.ringStatus_STATE key 2
  let s := if e.code == 0 then s else s.logFault e
  s.msix (s.instanceOf e.part) 0

theorem State.teardown_eq (s : State) {e : FaultRec} (ringError : Bool) (hcode : e.code < 2 ^ 16) (hp : 1 ≤ e.part)
    (hs : s.f F.tunCtx_STATE (16 * e.part + e.ctx) ≠ 5) :
    s.teardown e ringError = (s.markFaulted e).reportFault e ringError := by
  have hgo : ¬ (e.part == 0 || s.f F.tunCtx_STATE (16 * e.part + e.ctx) == 5) = true := by
    simp [hs, Nat.ne_of_gt hp]
  unfold State.teardown
  rw [FaultRec.plain_eq hcode]
  exact if_neg hgo

theorem State.markFaulted_ring (s : State) (e : FaultRec) (key : Nat) : (s.markFaulted e).ring key = s.ring key := by
  simp only [State.ring, State.markFaulted, State.setF_tun, State.setCtxState_tun]
  rfl

section Teardown
variable {e : FaultRec} (hp : e.part < 64) (hx : e.ctx < 16)
include hp hx

theorem State.markFaulted_state (s : State) : (s.markFaulted e).f F.tunCtx_STATE (16 * e.part + e.ctx) = 5 := by
  have hk : 16 * e.part + e.ctx < 2 ^ 24 := by omega
  unfold State.markFaulted
  rw [State.f_setF_ne _ _ (by omega) hk (.inl (by decide)),
    State.f_setF_field (x := F.tunCtx_FAULT) (y := F.tunCtx_STATE) _ _ _ (by decide) rfl (by decide),
    State.f_setCtxState_self _ _ hk]

theorem State.markFaulted_code (s : State) (hcode : e.code < 2 ^ 16) :
    (s.markFaulted e).f F.tunCtx_FAULT (16 * e.part + e.ctx) = e.code := by
  unfold State.markFaulted
  rw [State.f_setF_ne _ _ (by omega) (by omega) (.inl (by decide)), State.f_setF_self _ _ _ _ (by decide)]
  exact Nat.mod_eq_of_lt hcode

/-- Where no command is left in the ring, the rest of a teardown leaves TUN_CTX alone. -/
theorem State.rget_reportFault (s : State) (ringError : Bool) (hr : (s.ring (16 * e.part + e.ctx)).cmds = []) :
    (s.reportFault e ringError).rget .tunCtx (16 * e.part + e.ctx) = s.rget .tunCtx (16 * e.part + e.ctx) := by
  have hk : 16 * e.part + e.ctx < 2 ^ 24 := by omega
  unfold State.reportFault
  extract_lets key s1 s2 s3
  have ended : s1.rget .tunCtx key = s.rget .tunCtx key :=
    State.rget_of_regs (s.endCommands_regs_of_empty e.code hr) _ _
  have closed : s2.rget .tunCtx key = s1.rget .tunCtx key := by
    unfold s2
    split <;> exact s1.rget_setF_ne _ hk hk (by decide)
  have logged : s3.rget .tunCtx key = s2.rget .tunCtx key := by
    unfold s3
    split
    · rfl
    · exact s2.rget_logFault e hk (by decide) (by decide)
  rw [State.rget_of_regs (State.msix_regs _ _ _), logged, closed, ended]

/-- What a teardown leaves in TUN_CTX of a context that was not FAULTED and has no commands in its ring: STATE FAULTED
and the code (11 R403). -/
theorem State.teardown_marks (s : State) (ringError : Bool) (hcode : e.code < 2 ^ 16) (hp' : 1 ≤ e.part)
    (hs : s.f F.tunCtx_STATE (16 * e.part + e.ctx) ≠ 5) (hr : (s.ring (16 * e.part + e.ctx)).cmds = []) :
    (s.teardown e ringError).f F.tunCtx_STATE (16 * e.part + e.ctx) = 5 ∧
      (s.teardown e ringError).f F.tunCtx_FAULT (16 * e.part + e.ctx) = e.code := by
  have word := (s.markFaulted e).rget_reportFault hp hx ringError ((s.markFaulted_ring e _).symm ▸ hr)
  rw [s.teardown_eq ringError hcode hp' hs]
  exact ⟨(congrArg (bitsOf · 3 3) word).trans (s.markFaulted_state hp hx),
    (congrArg (bitsOf · 16 16) word).trans (s.markFaulted_code hp hx hcode)⟩

end Teardown

/-! ### The fault of a group -/

theorem State.raise_group (s : State) {core slot : Nat} (code lane : Nat) (info : W32) {g : Group}
    (hg : s.group? (.group core slot) = some g) :
    s.raise (.group core slot) code lane info =
      ((s.faultInfo code info).2.recordCore core slot code lane (s.faultInfo code info).1 g.pc).teardown
        ⟨code, g.part, g.ctx, 0, core, g.pc, (s.faultInfo code info).1⟩ false := by
  unfold State.raise
  rw [hg]

/-- A group whose fault can tear its context down: the context is one of a partition, is not FAULTED, and has no
commands in its ring. -/
structure State.MayFault (s : State) (core slot : Nat) (g : Group) : Prop where
  core_lt : core < 256
  group : s.group? (.group core slot) = some g
  part_pos : 1 ≤ g.part
  part_lt : g.part < 64
  ctx_lt : g.ctx < 16
  state : s.f F.tunCtx_STATE (16 * g.part + g.ctx) ≠ 5
  ring : (s.ring (16 * g.part + g.ctx)).cmds = []

/-- The fault of a group tears its context down with the fault's code (04 R147, 15 R510). -/
theorem State.MayFault.raise_marks {s : State} {core slot : Nat} {g : Group} (h : s.MayFault core slot g) {code : Nat}
    (lane : Nat) (info : W32) (hcode : code < 2 ^ 16) :
    (s.raise (.group core slot) code lane info).f F.tunCtx_STATE (16 * g.part + g.ctx) = 5 ∧
      (s.raise (.group core slot) code lane info).f F.tunCtx_FAULT (16 * g.part + g.ctx) = code := by
  obtain ⟨hc, hg, hp, hp', hx, hs, hr⟩ := h
  rw [s.raise_group code lane info hg]
  refine State.teardown_marks (e := ⟨code, g.part, g.ctx, 0, core, g.pc, _⟩) hp' hx _ false hcode hp ?_ ?_
  · have hk : 16 * g.part + g.ctx < 2 ^ 24 := by omega
    rwa [State.f, State.rget_recordCore _ _ _ _ _ _ (by omega) hk (by decide),
      State.rget_of_regs (State.faultInfo_regs _ _ _)]
  · simpa [State.ring] using hr

/-- Counting a RAS event leaves such a group as it is. -/
theorem State.MayFault.rasCount {s : State} {core slot : Nat} {g : Group} (h : s.MayFault core slot g) {n : Nat}
    (hn : n < 2 ^ 24) : (s.rasCount n).MayFault core slot g := by
  obtain ⟨hc, hg, hp, hp', hx, hs, hr⟩ := h
  refine ⟨hc, ?_, hp, hp', hx, ?_, ?_⟩
  · rwa [State.rasCount, State.group?_of_groups (congrArg (·.groups) (s.bump_co _ _ _ _))]
  · rwa [State.f, State.rasCount, State.rget_bump_ne _ _ hn (by omega) (.inr (by decide))]
  · rwa [State.ring, State.rasCount, State.bump_tun]

/-! ### Windows of a group that have run out -/

/-- The one thing that a group's expired window does: the fault. -/
theorem State.groupExpiry_eq {s t : State} {core slot : Nat} {cls : List WordClass} {code : Nat}
    (h : s.groupExpiry core slot cls code = some t) : t = s.raise (.group core slot) code 0xFF 0 := by
  unfold State.groupExpiry at h
  split at h
  · cases h
  · split at h
    · exact (Option.some.inj h).symm
    · cases h

theorem State.MayFault.groupExpiry_marks {s t : State} {core slot : Nat} {g : Group} (h : s.MayFault core slot g)
    {cls : List WordClass} {code : Nat} (hcode : code < 2 ^ 16) (ht : s.groupExpiry core slot cls code = some t) :
    t.f F.tunCtx_STATE (16 * g.part + g.ctx) = 5 ∧ t.f F.tunCtx_FAULT (16 * g.part + g.ctx) = code := by
  rw [State.groupExpiry_eq ht]
  exact h.raise_marks 0xFF 0 hcode

/-! ### The answers of the six rows -/

/-- The answer to an event that an agent has, with the service request that follows from it. -/
theorem command_service {c : Instr} {pre : Bool} {s t : State} {o : Option State} (hw : c.wf = true) (hp : pre = true)
    (ho : o = some t) : command c pre s (State.service s (o.getD s)) = .next (State.service s t).pins := by
  rw [command_eq hw hp, ho, Option.getD_some]

section Rows
variable {s t : State} {a : TileAgent}

theorem completes_tileWriteBegin (hw : a.wf = true) (h : s.tileWrite a = some t) :
    Completes (.tileWriteBegin a) s (State.service s t).pins :=
  command_service hw (by rw [h]; rfl) h

theorem completes_tileReadComplete (hw : a.wf = true) (h : s.tileRead a = some t) :
    Completes (.tileReadComplete a) s (State.service s t).pins :=
  command_service hw (by rw [h]; rfl) h

/-- A timeout runs where the agent has one and the device is not in the safe state (14 R496). -/
theorem timeout_runs {o : Option State} (hs : s.b F.clkStatus_SAFE 0 = false) (h : o.isSome = true) :
    (!s.b F.clkStatus_SAFE 0 && o.isSome) = true := by
  rw [hs, h]; rfl

theorem completes_tileWriterTimeout (hw : a.wf = true) (hs : s.b F.clkStatus_SAFE 0 = false)
    (h : s.writeExpiry a = some t) : Completes (.tileWriterTimeout a) s (State.service s t).pins :=
  command_service hw (timeout_runs hs (Option.isSome_of_eq_some h)) h

theorem completes_copyTimeout (hw : a.wf = true) (hs : s.b F.clkStatus_SAFE 0 = false)
    (h : s.copyExpires a = some t) : Completes (.copyTimeout a) s (State.service s t).pins :=
  command_service hw (timeout_runs hs (Option.isSome_of_eq_some h)) h

theorem completes_caskWaitTimeout (hw : a.wf = true) (hs : s.b F.clkStatus_SAFE 0 = false)
    (h : s.caskExpiry a = some t) : Completes (.caskWaitTimeout a) s (State.service s t).pins :=
  command_service hw (timeout_runs hs (Option.isSome_of_eq_some h)) h

/-- The window runs out as the state stands; its fault follows the count of the event (03 R103). -/
theorem completes_tornTileWindowExpiry (hw : a.wf = true) (hs : s.b F.clkStatus_SAFE 0 = false)
    (hr : (s.readExpiry a).isSome = true) (h : (s.rasCount 3).readExpiry a = some t) :
    Completes (.tornTileWindowExpiry a) s (State.service s t).pins :=
  command_service hw (timeout_runs hs hr) h

/-- In the clock safe state every timeout stands still (14 R496). -/
theorem completes_timeout_of_safe (hs : s.b F.clkStatus_SAFE 0 = true) {c : Instr}
    (hc : c ∈ [Instr.tileWriterTimeout a, .copyTimeout a, .caskWaitTimeout a, .tornTileWindowExpiry a]) :
    Completes c s s.pins := by
  have still (o : Option State) : (!s.b F.clkStatus_SAFE 0 && o.isSome) = false := by rw [hs]; rfl
  simp only [List.mem_cons, List.not_mem_nil, or_false] at hc
  rcases hc with rfl | rfl | rfl | rfl <;> exact command_not (still _)

end Rows

/-! ### The obligation -/

/-- Settles O27: each row answers with the step that its agent has, and a group's expired window is the fault that tears
its context down. -/
theorem tileAgentEvents : Obligations.TileAgentEvents := by
  refine ⟨fun s t a hw => ⟨completes_tileWriteBegin hw, completes_tileReadComplete hw, fun hs =>
    ⟨completes_tileWriterTimeout hw hs, completes_copyTimeout hw hs, completes_caskWaitTimeout hw hs,
      completes_tornTileWindowExpiry hw hs⟩, fun hs c hc => completes_timeout_of_safe hs hc⟩, ?_⟩
  intro s t core slot g hc hslot hg hp hp' hx hs hst hring
  have hw : (TileAgent.group core slot).wf = true := by simp [TileAgent.wf, hc, hslot]
  have hf : s.MayFault core slot g := ⟨hc, hg, hp, hp', hx, hst, hring⟩
  refine ⟨fun h => ?_, fun hr h => ?_⟩
  · refine ⟨_, completes_tileWriterTimeout hw hs h, ?_⟩
    simpa only [State.pins_f, State.service_f] using hf.groupExpiry_marks (by decide) h
  · refine ⟨_, completes_tornTileWindowExpiry hw hs hr h, ?_⟩
    simpa only [State.pins_f, State.service_f] using (hf.rasCount (by decide)).groupExpiry_marks (by decide) h

end Sys2Proof.Machine
end

section
/-!
PROOF. What a retired instruction leaves alone (04 R126, R150), and what JOIN, BRK and EXIT make of the masks and the
mask stack of their group (04 R127 to R130).
-/
namespace Sys2Proof.Machine

/-! ### The count of issued instructions -/

/-- What a credit leaves on the account of each counter. -/
theorem State.get_credit_work (s : State) (part k n j : Nat) :
    SMap.get 0 (s.credit part k n).views.work j =
      SMap.get 0 s.views.work j + (if j = part * 8192 + k then n else 0) := by
  unfold State.credit
  split
  · next h => subst h; exact SMap.get_put_self _ _ _ _
  · next h => exact SMap.get_put_ne _ _ _ h

section Counted
variable {s : State} {core slot : Nat} {h : Group} (hg : s.group? (.group core slot) = some h)
include hg

/-- An instruction of a resident group is counted by counter 0 of its core and on its partition's account. -/
theorem State.countIssue_resident :
    s.countIssue (.group core slot) =
      (s.bump .coreEvtLo .coreEvtHi (core * 8) 1).credit h.part (core * 8) 1 := by
  unfold State.countIssue State.countCore
  rw [hg]
  rfl

theorem State.retire_resident (g : Group) :
    s.retire (.group core slot) g =
      ((s.bump .coreEvtLo .coreEvtHi (core * 8) 1).credit h.part (core * 8) 1).setGroup (.group core slot)
        g.advance := by
  rw [State.retire, State.countIssue_resident hg]

/-- The register words after an instruction that retires are those that the counter leaves. -/
theorem State.retire_regs (g : Group) :
    (s.retire (.group core slot) g).regs = (s.bump .coreEvtLo .coreEvtHi (core * 8) 1).regs := by
  rw [State.retire_resident hg, State.setGroup_regs, State.credit_regs]

theorem State.retire_views (g : Group) :
    (s.retire (.group core slot) g).views = (s.credit h.part (core * 8) 1).views := by
  rw [State.retire_resident hg, State.setGroup_views, State.credit, State.credit, State.bump_views]

end Counted

/-! ### The frame of an instruction that retires -/

/-- Another group keeps its state. -/
theorem State.group?_retire_ne (s : State) {i j : Issuer} (g : Group) (h : j.key ≠ i.key) :
    (s.retire i g).group? j = s.group? j := by
  rw [State.retire, State.group?_setGroup_ne _ _ h,
    State.group?_of_groups (congrArg (·.groups) (State.countIssue_co s i))]

@[simp] theorem State.retire_core (s : State) (i : Issuer) (g : Group) (c : Nat) : (s.retire i g).core c = s.core c := by
  simp [State.core, State.retire]

@[simp] theorem State.retire_accesses (s : State) (i : Issuer) (g : Group) :
    (s.retire i g).co.accesses = s.co.accesses := by
  simp [State.retire]

theorem State.sameBeyondCores_retire (s : State) (i : Issuer) (g : Group) : s.SameBeyondCores (s.retire i g) := by
  simp [State.SameBeyondCores]

/-- Settles O8: the group is put back past its instruction, counter 0 of its core counts it, and so does its partition's
account. -/
theorem retireFrame : Obligations.RetireFrame := by
  intro s core slot g h hc hslot hg
  have hk : core * 8 < 2 ^ 24 := by omega
  have regs := State.retire_regs hg g
  have views := State.retire_views hg g
  refine ⟨s.group?_retire g, ?others, ?count, ?words, ?account, ?shown, ?stamps, s.retire_core _ g,
    s.retire_accesses _ g, s.sameBeyondCores_retire _ g⟩
  case others =>
    intro c k _ hk' hne
    refine s.group?_retire_ne g fun hkey => ?_
    obtain ⟨rfl, rfl⟩ := Issuer.group_key_inj hk' hslot hkey
    simp at hne
  case count => rw [State.eventCount_of_regs regs, s.eventCount_bump 1 (by decide) hk]
  case words =>
    intro r j hj hne
    rw [State.rget_of_regs regs, s.rget_bump_ne 1 hk hj hne]
  case account => intro k; rw [views, s.get_credit_work]
  case shown => rw [views]; rfl
  case stamps => rw [views]; rfl

/-! ### The end of a control-flow instruction -/

section Flow
variable {s : State} {i : Issuer} {w : W64} {g g' : Group} {f : Group → FlowEnd}

/-- A control-flow instruction after which the group goes on: it is counted, and the group is the one given. -/
theorem State.flow_on (h : s.Issues i w g) (hf : f g.ready = .on g') :
    s.flow i w f = (s.countIssue i).setGroup i g' := by
  rw [State.flow, State.issue_eq _ h]
  simp only [hf]

/-- A control-flow instruction with which the group ends. -/
theorem State.flow_ended (h : s.Issues i w g) (hf : f g.ready = .ended) :
    s.flow i w f = (s.countIssue i).endGroup i g.ready := by
  rw [State.flow, State.issue_eq _ h]
  simp only [hf]

/-- A row that answers with a control-flow instruction completes in the group given, where the group goes on. -/
theorem State.Issues.completes_on {c : Instr} (h : s.Issues i w g) (hw : c.wf = true)
    (hc : exec c s = command c (s.canIssue i) s (s.flow i w f)) (hf : f g.ready = .on g') :
    Completes c s ((s.countIssue i).setGroup i g').pins := by
  rw [Completes, hc, State.flow_on h hf]
  exact command_eq hw h.1

theorem State.Issues.completes_ended {c : Instr} (h : s.Issues i w g) (hw : c.wf = true)
    (hc : exec c s = command c (s.canIssue i) s (s.flow i w f)) (hf : f g.ready = .ended) :
    Completes c s ((s.countIssue i).endGroup i g.ready).pins := by
  rw [Completes, hc, State.flow_ended h hf]
  exact command_eq hw h.1

end Flow

/-! ### Masks and the mask stack (04 R128 to R130) -/

/-- A stack entry without the threads of a mask. -/
def MaskEntry.without (m : W32) (e : MaskEntry) : MaskEntry :=
  { e with saved := e.saved &&& ~~~m, pend := e.pend &&& ~~~m }

section Stack
variable {g : Group} {e : MaskEntry} {rest : List MaskEntry}

/-- A resumption runs the threads still pending at the top entry. -/
theorem resumeTop_of_pend (fuel : Nat) (a : W64) (hs : g.stack = e :: rest) (hp : e.pend ≠ 0) :
    resumeTop (fuel + 1) a g =
      some { g with active := e.pend, pc := e.ppc, stack := { e with pend := 0 } :: rest } := by
  rw [resumeTop, hs]
  exact if_pos (bne_iff_ne.2 hp)

/-- With none pending, it restores the saved threads that have not exited, and pops the entry. -/
theorem resumeTop_of_saved (fuel : Nat) (a : W64) (hs : g.stack = e :: rest) (hp : e.pend = 0)
    (hl : e.saved &&& g.launch ≠ 0) :
    resumeTop (fuel + 1) a g = some { g with active := e.saved &&& g.launch, pc := a + 8, stack := rest } := by
  rw [resumeTop, hs]
  exact (if_neg (by simp [hp])).trans (if_pos (bne_iff_ne.2 hl))

/-- JOIN at the top entry's address is the resumption of that entry. -/
theorem flowJoin_eq (hs : g.stack = e :: rest) (ha : e.rpc = g.pc) :
    flowJoin g = .ofOption (resumeTop (g.stack.length + 1) g.pc g) := by
  unfold flowJoin
  simp [hs, ha]

theorem flowJoin_of_pend (hs : g.stack = e :: rest) (ha : e.rpc = g.pc) (hp : e.pend ≠ 0) :
    flowJoin g = .on { g with active := e.pend, pc := e.ppc, stack := { e with pend := 0 } :: rest } := by
  rw [flowJoin_eq hs ha, resumeTop_of_pend _ _ hs hp, FlowEnd.ofOption]

theorem flowJoin_of_saved (hs : g.stack = e :: rest) (ha : e.rpc = g.pc) (hp : e.pend = 0)
    (hl : e.saved &&& g.launch ≠ 0) :
    flowJoin g = .on { g with active := e.saved &&& g.launch, pc := g.pc + 8, stack := rest } := by
  rw [flowJoin_eq hs ha, resumeTop_of_saved _ _ hs hp hl, FlowEnd.ofOption]

end Stack

section Leave
variable {w : W64} {g : Group}

/-- BRK with threads left: those of its mask leave the active mask and the entries above the one it names. -/
theorem flowBrk_of_active (hl : fld w 23 5 + 1 ≤ g.stack.length) (ha : g.active &&& ~~~(g.parts (guardOf w)) ≠ 0) :
    flowBrk w g = .on { g with
      active := g.active &&& ~~~(g.parts (guardOf w))
      pc := g.pc + 8
      stack := (g.stack.take (fld w 23 5)).map (MaskEntry.without (g.parts (guardOf w))) ++
        g.stack.drop (fld w 23 5) } := by
  unfold flowBrk
  rw [if_neg (Nat.not_lt.2 hl)]
  exact if_pos (bne_iff_ne.2 ha)

/-- EXIT with active threads left: those of its mask leave every mask. -/
theorem flowExit_of_active (hl : g.launch &&& ~~~(g.parts (guardOf w)) ≠ 0)
    (ha : g.active &&& ~~~(g.parts (guardOf w)) ≠ 0) :
    flowExit w g = .on { g with
      active := g.active &&& ~~~(g.parts (guardOf w))
      launch := g.launch &&& ~~~(g.parts (guardOf w))
      pc := g.pc + 8
      stack := g.stack.map (MaskEntry.without (g.parts (guardOf w))) } :=
  (if_neg (mt beq_iff_eq.1 hl)).trans (if_pos (bne_iff_ne.2 ha))

/-- EXIT of the last threads ends the group. -/
theorem flowExit_of_last (hl : g.launch &&& ~~~(g.parts (guardOf w)) = 0) : flowExit w g = .ended :=
  if_pos (beq_iff_eq.2 hl)

end Leave

/-! ### The end of a group (04 R127) -/

theorem SMap.find_mapVals {α β : Type} (f : Nat → α → β) (m : SMap α) (k : Nat) :
    SMap.find (SMap.mapVals f m) k = (SMap.find m k).map (f k) := by
  induction m with
  | nil => rfl
  | cons x m ih =>
    obtain ⟨j, v⟩ := x
    change SMap.find ((j, f j v) :: SMap.mapVals f m) k = _
    rw [SMap.find, SMap.find, ih]
    split
    · next h => subst h; rfl
    · rfl

/-- The release of a barrier changes groups in their places and makes none. -/
theorem State.find_tryRelease {s : State} {k : Nat} (core : Nat) (g : Group) (b : Nat)
    (h : SMap.find s.co.groups k = none) : SMap.find (s.tryRelease core g b).co.groups k = none := by
  unfold State.tryRelease
  extract_lets c n mates t wake
  split
  · change SMap.find (SMap.mapVals wake s.co.groups) k = none
    rw [SMap.find_mapVals, h, Option.map_none]
  · exact h

theorem State.find_foldl_tryRelease {s : State} {k : Nat} (core : Nat) (g : Group) (bs : List Nat)
    (h : SMap.find s.co.groups k = none) :
    SMap.find (bs.foldl (fun s b => s.tryRelease core g b) s).co.groups k = none := by
  induction bs generalizing s with
  | nil => exact h
  | cons b bs ih => exact ih (State.find_tryRelease core g b h)

/-- A group that has ended is no longer in its slot. -/
theorem State.find_endGroup (s : State) (i : Issuer) (g : Group) :
    SMap.find (s.endGroup i g).co.groups i.key = none := by
  unfold State.endGroup
  extract_lets core akey co dropped released key ctx left
  have dropped_none : SMap.find dropped.co.groups i.key = none := SMap.find_drop_self _ _
  have released_none : SMap.find released.co.groups i.key = none := by
    unfold released
    exact State.find_foldl_tryRelease core g _ dropped_none
  clear_value released
  have left_none : SMap.find left.co.groups i.key = none := by
    unfold left
    split <;> exact released_none
  clear_value left
  split <;> exact left_none

/-- Settles O15: each row is its control-flow function at the group that issues it. -/
theorem maskStackWords : Obligations.MaskStackWords := by
  intro s i w g h
  refine ⟨fun hw e rest hs ha => ⟨fun hp => ?_, fun hp hl => ?_⟩, fun hw hl ha => ?_,
    fun hw => ⟨fun hl ha => ?_, fun hl _ => ?_⟩⟩
  · exact h.completes_on hw rfl (flowJoin_of_pend (g := g.ready) hs ha hp)
  · exact h.completes_on hw rfl (flowJoin_of_saved (g := g.ready) hs ha hp hl)
  · exact h.completes_on hw rfl (flowBrk_of_active (g := g.ready) hl ha)
  · exact h.completes_on hw rfl (flowExit_of_active (g := g.ready) hl ha)
  · refine ⟨_, h.completes_ended hw rfl (flowExit_of_last (g := g.ready) hl), ?_⟩
    rw [State.pins_co]
    exact State.find_endGroup _ i g.ready

end Sys2Proof.Machine
end

section
/-!
PROOF. One-word instructions that issue (05 R158, R160): each row is the effect that its word has on the group, and the
system, integer, lane and floating-point rows complete with it (05 R163 to R174, R187 to R194).
-/
namespace Sys2Proof.Machine

/-! ### A row whose word issues -/

section Rows
variable {s : State} {i : Issuer} {w : W64} {g : Group} {c : Instr}

/-- A row whose effect runs once its word issues completes with that effect on the group that no wait holds back. -/
theorem State.Issues.completes_issue {act : Group → State} {t : State} (h : s.Issues i w g) (hw : c.wf = true)
    (hc : exec c s = command c (s.canIssue i) s (s.issue i w act)) (ha : act g.ready = t) : Completes c s t.pins := by
  rw [Completes, hc, State.issue_eq act h, ha]
  exact command_eq hw h.1

/-- A row whose effect is on its group alone. -/
theorem State.Issues.completes_local {f : Group → Group} {g' : Group} (h : s.Issues i w g) (hw : c.wf = true)
    (hc : exec c s = command c (s.canIssue i) s (s.issueLocal i w f)) (hf : f g.ready = g') :
    Completes c s (s.retire i g').pins :=
  h.completes_issue hw hc (congrArg (s.retire i) hf)

end Rows

/-! ### System instructions (05 R187 to R194) -/

section System
variable {s : State} {i : Issuer} {w : W64} {g : Group} (h : s.Issues i w g)
include h

theorem State.Issues.completes_barg (hw : (Instr.barg i w).wf = true) (hm : g.active = g.launch) :
    Completes (.barg i w) s (s.retire i { g.ready with wait := .fence 8 }).pins :=
  h.completes_issue hw rfl (if_pos (beq_iff_eq.2 hm))

/-- FSR once no earlier instruction can set a flag. -/
theorem State.Issues.completes_fsr (hw : (Instr.fsr i w).wf = true) (hp : s.flagsPending i g.ready = false) :
    Completes (.fsr i w) s (s.retire i (g.ready.setS (fld w 20 6) g.ready.status)).pins :=
  h.completes_issue hw rfl (if_neg (ne_true_of_eq_false hp))

/-- FSC reads the status, and then clears the flags that its immediate selects. -/
theorem State.Issues.completes_fsc (hw : (Instr.fsc i w).wf = true) (hp : s.flagsPending i g.ready = false) :
    Completes (.fsc i w) s (s.retire i { g.ready.setS (fld w 20 6) g.ready.status with
      fp := g.fp &&& ~~~(BitVec.ofNat 5 (fld w 32 5)) }).pins :=
  h.completes_issue hw rfl (if_neg (ne_true_of_eq_false hp))

end System

section SystemOfGroup
variable {s : State} {core slot : Nat} {w : W64} {g : Group} (h : s.Issues (.group core slot) w g)
include h

/-- BARC of the full mask with no fence open: the group waits, and its arrival may release the barrier. -/
theorem State.Issues.completes_barc (hw : (Instr.barc (.group core slot) w).wf = true) (hm : g.active = g.launch)
    (hf : s.fenceOpen (.group core slot) g.ready (barcFence w) = false) :
    Completes (.barc (.group core slot) w) s
      (let t := s.retire (.group core slot) { g.ready with wait := .barrier (fld w 16 2) }
       let c := t.core core
       (t.setCore core { c with
          arrivals := SMap.put c.arrivals (barKey g.ready (fld w 16 2))
            (SMap.get 0 c.arrivals (barKey g.ready (fld w 16 2)) + 1) }).tryRelease core g.ready (fld w 16 2)).pins := by
  have full : ¬ (!g.ready.fullMask) = true := by simp [Group.fullMask, Group.ready, hm]
  exact h.completes_issue hw rfl ((if_neg full).trans (if_neg (ne_true_of_eq_false hf)))

/-- SEED with room in every queue it needs. -/
theorem State.Issues.completes_seed (hw : (Instr.seed (.group core slot) w).wf = true)
    (hr : (seedEngines (fld w 16 4)).all (s.core core).room = true) :
    Completes (.seed (.group core slot) w) s
      ((seedEngines (fld w 16 4)).foldl (fun t e => t.seedEngine core slot g.ready w (g.s (fld w 26 6)) e)
        (s.retire (.group core slot) g.ready)).pins :=
  h.completes_issue hw rfl (if_pos hr)

end SystemOfGroup

/-- Settles O9: each row is its effect at the group that issues it, past the checks that the premises answer. -/
theorem systemWords : Obligations.SystemWords := by
  refine ⟨fun s i w g h => ⟨?nop, ?fence, ?yield, ?sread, h.completes_barg, h.completes_fsr, h.completes_fsc⟩,
    fun s core slot w g h => ⟨h.completes_barc, h.completes_seed⟩⟩
  case nop | fence | yield | sread => exact fun hw => h.completes_local hw rfl rfl

/-- Settles O10: each row changes its group alone, by the function of its word. -/
theorem integerAndLaneWords : Obligations.IntegerAndLaneWords := by
  intro s i w g h
  refine ⟨?_, ?_, ?_, ?_, ?_, ?_, ?_, ?_, ?_, ?_, ?_⟩ <;> exact fun hw => h.completes_local hw rfl rfl

/-! ### Instructions that draw (02 R58) -/

section Drawing
variable {s : State} {core slot : Nat} {w : W64} {g : Group} {c : Instr}

/-- A row that draws: the lanes run in ascending order from the generator of the group's vector engine, and under SR
the generator keeps the step it reached. -/
theorem State.Issues.completes_drawing (h : s.Issues (.group core slot) w g) {gd : Guard}
    {f : Group → LaneRun → Nat → LaneRun} (hw : c.wf = true)
    (hc : exec c s = command c (s.canIssue (.group core slot)) s
      (s.issueDrawing (.group core slot) w gd (rmOf w == .sr) f)) :
    ∃ r : LaneRun,
      r = (lanesOf (g.ready.parts gd)).foldl (f g.ready) ⟨g.ready, Gen.start ((s.core core).gen (4 + slot % 2))⟩ ∧
      Completes c s
        (if rmOf w = .sr then
          (s.retire (.group core slot) r.g).setCore core ((s.core core).setGen (4 + slot % 2) r.gen.s)
         else s.retire (.group core slot) r.g).pins := by
  refine ⟨_, rfl, h.completes_issue hw hc ?_⟩
  simp only [beq_iff_eq]
  rfl

end Drawing

/-- Settles O13: the four rows draw as `State.issueDrawing` does, each with its own function of a lane. -/
theorem floatingWords : Obligations.FloatingWords := by
  rintro s core slot w g h c f (⟨rfl, rfl⟩ | ⟨rfl, rfl⟩ | ⟨rfl, rfl⟩ | ⟨rfl, rfl⟩) hw <;>
    exact h.completes_drawing hw rfl

end Sys2Proof.Machine
end

section
/-!
PROOF. Branches and calls (04 R129, R130; 05 R175, R176).
-/
namespace Sys2Proof.Machine

/-! ### What each branch makes of its group -/

section Branch
variable {w : W64} {g : Group}

/-- BRA taken by the whole active mask. -/
theorem flowBra_of_all (h : (guardOf w).pe = false ∨ g.active &&& g.guardMask (guardOf w) = g.active) :
    flowBra w g = .on { g with pc := branchTarget w g.pc } := by
  refine if_pos ?_
  rcases h with h | h <;> simp [h]

/-- BRA taken by no active thread. -/
theorem flowBra_of_none (hp : (guardOf w).pe = true) (h : g.active &&& g.guardMask (guardOf w) = 0)
    (ha : g.active ≠ 0) : flowBra w g = .on { g with pc := g.pc + 8 } := by
  refine (if_neg ?_).trans (if_pos ?_)
  · simpa [hp, h] using ha.symm
  · simp [h]

/-- BRR with a thread that takes it and room on the stack: those threads go on, and the others are pushed. -/
theorem flowBrr_of_taken (hs : g.stack.length < 32) (h : g.active &&& g.guardMask (guardOf w) ≠ 0) :
    flowBrr w g = .on { g with
      active := g.active &&& g.guardMask (guardOf w)
      pc := branchTarget w g.pc
      stack := ⟨reconvTarget w g.pc, g.active, g.active &&& ~~~(g.guardMask (guardOf w)), g.pc + 8⟩ :: g.stack } :=
  (if_neg (Nat.not_le.2 hs)).trans (if_pos (bne_iff_ne.2 h))

theorem flowBri_of_aligned (h : (g.s (fld w 23 6)).toNat % 8 = 0) :
    flowBri w g = .on { g with pc := g.s (fld w 23 6) } :=
  if_neg (by simp [h])

theorem flowBri_of_misaligned (h : (g.s (fld w 23 6)).toNat % 8 ≠ 0) :
    flowBri w g = .bad 0x0407 ((g.s (fld w 23 6)).truncate 32) :=
  if_pos (bne_iff_ne.2 h)

end Branch

/-! ### Rows of a control-flow instruction -/

section Rows
variable {s : State} {i : Issuer} {w : W64} {g : Group} {c : Instr} {f : Group → FlowEnd}

/-- A control-flow instruction that faults is counted, and the group stays at it. -/
theorem State.Issues.completes_bad {code : Nat} {info : W32} (h : s.Issues i w g) (hw : c.wf = true)
    (hc : exec c s = command c (s.canIssue i) s (s.flow i w f)) (hf : f g.ready = .bad code info) :
    Completes c s (((s.countIssue i).setGroup i g.ready).raise i code 0xFF info).pins := by
  rw [Completes, hc, State.flow, State.issue_eq _ h, command_eq hw h.1]
  simp only [hf]
  rfl

/-- A word that issues is legal. -/
theorem State.Issues.legal (h : s.Issues i w g) : legalOne w = true := by
  obtain ⟨-, -, hl, -, -⟩ := h
  exact (Bool.and_eq_true_iff.1 hl).1

theorem State.Issues.group (h : s.Issues i w g) : s.group? i = some g := h.2.1

/-- BRR that is taken diverges when some active thread does not take it. -/
theorem State.Issues.diverges_iff (h : s.Issues i w g) (hs : g.stack.length < 32)
    (ht : g.active &&& g.guardMask (guardOf w) ≠ 0) :
    s.diverges i w = true ↔ g.active &&& ~~~(g.guardMask (guardOf w)) ≠ 0 := by
  unfold State.diverges
  rw [h.group]
  simpa [h.legal, hs] using fun _ => ht

/-- BRR of a group goes on with the threads that take it, and a divergence is counted. -/
theorem State.Issues.completes_brr (h : s.Issues i w g) (hw : (Instr.brr i w).wf = true) (hi : i.isCp = false)
    (hs : g.stack.length < 32) (ht : g.active &&& g.guardMask (guardOf w) ≠ 0) :
    Completes (.brr i w) s
      (let t := (s.countIssue i).setGroup i { g.ready with
          active := g.active &&& g.guardMask (guardOf w)
          pc := branchTarget w g.pc
          stack := ⟨reconvTarget w g.pc, g.active, g.active &&& ~~~(g.guardMask (guardOf w)), g.pc + 8⟩ :: g.stack }
       if g.active &&& ~~~(g.guardMask (guardOf w)) ≠ 0 then t.countCore i 2 1 else t).pins := by
  have on := State.flow_on h (flowBrr_of_taken (g := g.ready) hs ht)
  have hd : (!i.isCp && s.diverges i w) = true ↔ g.active &&& ~~~(g.guardMask (guardOf w)) ≠ 0 := by
    rw [hi, Bool.not_false, Bool.true_and, h.diverges_iff hs ht]
  rw [Completes, exec_brr, execBrr, command_eq hw h.1, State.doBrr, on]
  simp only [hd]
  rfl

end Rows

/-- Settles O14: each row is its control-flow function at the group that issues it; BRR adds its divergence, and the
misaligned BRI its fault. -/
theorem branchWords : Obligations.BranchWords := by
  intro s i w g h
  refine ⟨fun hw => ⟨fun ha => ?_, fun hp hn ha => ?_⟩, h.completes_brr, fun hw ha => ?_, fun hw ha => ?_, fun hw => ?_⟩
  · exact h.completes_on hw rfl (flowBra_of_all (g := g.ready) ha)
  · exact h.completes_on hw rfl (flowBra_of_none (g := g.ready) hp hn ha)
  · exact h.completes_on hw rfl (flowBri_of_aligned (g := g.ready) ha)
  · exact h.completes_bad hw rfl (flowBri_of_misaligned (g := g.ready) ha)
  · exact h.completes_on hw rfl rfl

end Sys2Proof.Machine
end

section
/-!
PROOF. Loads and stores (05 R177 to R181): the steps from the checked places of their lanes to the group past the
instruction, and the bytes of a scalar access of Local space (05 R180).
-/
namespace Sys2Proof.Machine

/-! ### From the places of the lanes to the answer -/

section Rows
variable {s t u : State} {i : Issuer} {w : W64} {g : Group} {ps : List (Nat × MemAt)}

/-- A load behind a far atomic of its group waits, and is not counted (07 R258). -/
theorem State.Issues.completes_ld_behind (h : s.Issues i w g) (hw : (Instr.ld i w).wf = true)
    (hps : s.memAll i g.ready (mForm w).sp (mForm w).bytes .load (memLanes g.ready (mForm w)) = .ok (ps, t))
    (hb : t.behindFar g.ready ps = true) : Completes (.ld i w) s (s.stall i g.ready).pins := by
  refine h.completes_issue hw rfl ?_
  simp only [hps, hb, if_true]

/-- A load of places that may be read binds its values, and sends for those of other nodes. -/
theorem State.Issues.completes_ld {g' : Group} (h : s.Issues i w g) (hw : (Instr.ld i w).wf = true)
    (hps : s.memAll i g.ready (mForm w).sp (mForm w).bytes .load (memLanes g.ready (mForm w)) = .ok (ps, t))
    (hb : t.behindFar g.ready ps = false)
    (hl : t.loadLanes i g.ready (mForm w) (addrOf (memLanes g.ready (mForm w))) ps g.ready = .ok (g', u)) :
    Completes (.ld i w) s
      ((if (mForm w).dr then (u.retire i g').hintDraff ps else u.retire i g').loadAway i g.ready (mForm w) ps).pins := by
  refine h.completes_issue hw rfl ?_
  simp only [hps, hb, hl, Bool.false_eq_true, if_false]

theorem State.Issues.completes_st_behind (h : s.Issues i w g) (hw : (Instr.st i w).wf = true)
    (hps : s.memAll i g.ready (mForm w).sp (mForm w).bytes .store (memLanes g.ready (mForm w)) = .ok (ps, t))
    (hb : t.behindFar g.ready ps = true) : Completes (.st i w) s (s.stall i g.ready).pins := by
  refine h.completes_issue hw rfl ?_
  simp only [hps, hb, if_true]

/-- A store of places that may be written, which leaves its group resident: it retires work where a thread takes part,
and sends what goes to other nodes. -/
theorem State.Issues.completes_st (h : s.Issues i w g) (hw : (Instr.st i w).wf = true)
    (hps : s.memAll i g.ready (mForm w).sp (mForm w).bytes .store (memLanes g.ready (mForm w)) = .ok (ps, t))
    (hb : t.behindFar g.ready ps = false)
    (hs : t.storeLanes i g.ready (mForm w) (addrOf (memLanes g.ready (mForm w))) ps = .ok u)
    (hg : (u.group? i).isSome = true) :
    Completes (.st i w) s
      (let v := if (memLanes g.ready (mForm w)).isEmpty then u.retire i g.ready
         else (u.retire i g.ready).retireWork g.gtag
       (v.storeAway i g.ready (mForm w) ps).mgmtStores i g.ready (mForm w) ps).pins := by
  refine h.completes_issue hw rfl ?_
  simp only [hps, hb, hs, Option.isNone_eq_false_iff.2 hg, Bool.false_eq_true, if_false]
  rfl

end Rows

/-- Settles O17: the checks of the lanes, the wait behind a far atomic, and the accesses, in the order of 05 R177. -/
theorem loadStoreWords : Obligations.LoadStoreWords := by
  intro s i w g h ps t
  refine ⟨fun hw hps => ⟨fun hb => ?_, fun hb g' u hl => ?_⟩, fun hw hps => ⟨fun hb => ?_, fun hb u hs hg => ?_⟩⟩
  · exact h.completes_ld_behind hw hps hb
  · exact h.completes_ld hw hps hb hl
  · exact h.completes_st_behind hw hps hb
  · exact h.completes_st hw hps hb hs hg

end Sys2Proof.Machine
end

section
/-!
PROOF. What the vector integer, shuffle and lane-number instructions leave in the vector registers (05 R161, R165,
R168).
-/
namespace Sys2Proof.Machine

/-! ### One vector register of one thread -/

/-- A register written for one lane is that lane's; the lanes of other registers are their own (lanes below 32). -/
theorem Group.v_setV (g : Group) (d r : Nat) {k t : Nat} (x : W32) (hk : k < 32) (ht : t < 32) :
    (g.setV d k x).v r t = if r = d ∧ t = k then x else g.v r t := by
  unfold Group.v Group.setV
  split
  · next h => obtain ⟨rfl, rfl⟩ := h; exact SMap.get_set_self _ _ _ _
  · next h => exact SMap.get_set_ne _ _ _ (by omega)

/-- Lanes written in turn, each once: a lane of the list has its value, and the rest are as before. -/
theorem Group.v_foldl_setV (g : Group) (d r : Nat) {t : Nat} (f : Nat → W32) {l : List Nat}
    (hl : ∀ k ∈ l, k < 32) (ht : t < 32) :
    (l.foldl (fun h k => h.setV d k (f k)) g).v r t = if r = d ∧ t ∈ l then f t else g.v r t := by
  induction l generalizing g with
  | nil => simp
  | cons k l ih =>
    obtain ⟨hk, hl⟩ := List.forall_mem_cons.1 hl
    rw [List.foldl_cons, ih _ hl, Group.v_setV _ _ _ _ hk ht]
    by_cases hr : r = d <;> by_cases hm : t ∈ l <;> by_cases htk : t = k <;> simp [hr, hm, htk]

theorem mem_lanesOf {m : W32} {k : Nat} : k ∈ lanesOf m ↔ k < 32 ∧ m.getLsbD k = true := by
  simp [lanesOf]

/-- What an instruction that writes one register of each participating thread leaves in every register. -/
theorem Group.v_eachLane_setV (g : Group) (gd : Guard) (d r : Nat) {t : Nat} (f : Nat → W32) (ht : t < 32) :
    (g.eachLane gd (fun h k => h.setV d k (f k))).v r t =
      if r = d ∧ (g.parts gd).getLsbD t then f t else g.v r t := by
  unfold Group.eachLane
  rw [Group.v_foldl_setV g d r f (fun k hk => (mem_lanesOf.1 hk).1) ht]
  simp [mem_lanesOf, ht]

/-- OPC 0x20 writes one register of each thread. -/
theorem vecInteger_eq {w : W64} (g : Group) (h : opcOf w ≠ 0x21) :
    vecInteger w g = g.eachLane (vForm w).g (fun x k =>
      x.setV (vForm w).vd k (intOp 32 (fnOf w) (g.v (vForm w).va k) (vecB32 g (vForm w) k))) := by
  unfold vecInteger
  simp only [beq_iff_eq, h, if_false]

/-- Settles O11: the three write one register of each participating thread, from the registers as they stood. -/
theorem vectorLanes : Obligations.VectorLanes := by
  intro w g r t ht
  refine ⟨fun h => ?_, ?_, ?_⟩
  · rw [vecInteger_eq g h, Group.v_eachLane_setV _ _ _ _ _ ht]
  · exact Group.v_eachLane_setV g _ _ r (fun k => g.v (vForm w).va (shuffleLane g w k)) ht
  · exact Group.v_eachLane_setV g _ _ r (BitVec.ofNat 32) ht

end Sys2Proof.Machine
end

section
/-!
PROOF. The values of the scalar integer instructions, and the encodings of OPC 0x10 that are reserved (05 R158, R163,
R164).
-/
namespace Sys2Proof.Machine

/-! ### Reserved forms -/

theorem legalOne_of_scalar {w : W64} (h : opcOf w = 0x10) : legalOne w = legalScalar w := by
  simp only [legalOne, classOf, h]

/-- The values of FN that OPC 0x10 reserves. -/
theorem scalarFn_reserved {fn : Nat} (h : fn ∈ [0x0F, 0x13, 0x1A, 0x1B] ∨ 0x1E < fn) : scalarFn fn = false := by
  simp only [List.mem_cons, List.not_mem_nil, or_false] at h
  simp only [scalarFn, Bool.or_eq_false_iff, Bool.and_eq_false_iff, decide_eq_false_iff_not, beq_eq_false_iff_ne]
  omega

theorem legalScalar_of_reserved {w : W64} (h : scalarFn (fnOf w) = false) : legalScalar w = false := by
  simp [legalScalar, h]

/-! ### The operations that are not written as their value -/

section Values
variable (a b : W64)

theorem toNat_intOp_mulhu : (intOp 64 0x09 a b).toNat = a.toNat * b.toNat / 2 ^ 64 := by
  have hlt : a.toNat * b.toNat / 2 ^ 64 < 2 ^ 64 := by
    rw [Nat.div_lt_iff_lt_mul (by positivity)]
    exact Nat.mul_lt_mul'' a.isLt b.isLt
  exact (BitVec.toNat_ofNat _ _).trans (Nat.mod_eq_of_lt hlt)

theorem toInt_intOp_min : (intOp 64 0x14 a b).toInt = min a.toInt b.toInt := by
  change (if b.slt a then b else a).toInt = _
  simp only [BitVec.slt_iff_toInt_lt]
  split <;> omega

theorem toInt_intOp_max : (intOp 64 0x15 a b).toInt = max a.toInt b.toInt := by
  change (if a.slt b then b else a).toInt = _
  simp only [BitVec.slt_iff_toInt_lt]
  split <;> omega

theorem toNat_intOp_minu : (intOp 64 0x16 a b).toNat = min a.toNat b.toNat := by
  change (if b.ult a then b else a).toNat = _
  simp only [BitVec.ult_iff_lt, BitVec.lt_def]
  split <;> omega

theorem toNat_intOp_maxu : (intOp 64 0x17 a b).toNat = max a.toNat b.toNat := by
  change (if a.ult b then b else a).toNat = _
  simp only [BitVec.ult_iff_lt, BitVec.lt_def]
  split <;> omega

/-- A count kept by a fold is the length of the filtered list. -/
theorem foldl_count_eq_length_filter (p : Nat → Bool) (l : List Nat) (n : Nat) :
    l.foldl (fun k i => if p i then k + 1 else k) n = n + (l.filter p).length := by
  induction l generalizing n with
  | nil => rfl
  | cons i l ih =>
    rw [List.foldl_cons, ih, List.filter_cons]
    split
    · rw [List.length_cons]; omega
    · rfl

/-- POPC is the number of ones. -/
theorem toNat_intOp_popc :
    (intOp 64 0x1C a b).toNat = ((List.range 64).filter (fun k => a.getLsbD k)).length := by
  have hle : ((List.range 64).filter (fun k => a.getLsbD k)).length ≤ 64 :=
    (List.length_filter_le _ _).trans_eq List.length_range
  change (BitVec.ofNat 64 _).toNat = _
  rw [foldl_count_eq_length_filter, Nat.zero_add, BitVec.toNat_ofNat]
  exact Nat.mod_eq_of_lt (hle.trans_lt (by decide))

/-- The highest one of a word that is not zero. -/
theorem highest_one {a : W64} (h : a ≠ 0) :
    Nat.log2 a.toNat < 64 ∧ a.getLsbD (Nat.log2 a.toNat) = true ∧ ∀ k, Nat.log2 a.toNat < k → a.getLsbD k = false := by
  have hn : a.toNat ≠ 0 := fun e => h (BitVec.eq_of_toNat_eq e)
  refine ⟨(Nat.log2_lt hn).2 a.isLt, Nat.testBit_log2 hn, fun k hk => Nat.testBit_lt_two_pow ?_⟩
  exact (Nat.log2_lt hn).1 hk

/-- CLZ counts the zeros above the highest one. -/
theorem intOp_clz (d : W64) (hd : d = intOp 64 0x1D a b) :
    d.toNat = 64 ∧ a = 0 ∨
      d.toNat < 64 ∧ a.getLsbD (63 - d.toNat) ∧ ∀ k, 63 - d.toNat < k → a.getLsbD k = false := by
  change d = BitVec.ofNat 64 (if a == 0 then 64 else 64 - 1 - Nat.log2 a.toNat) at hd
  by_cases h : a = 0
  · subst h; subst hd; exact .inl ⟨rfl, rfl⟩
  · obtain ⟨hlt, hone, hzero⟩ := highest_one h
    have hdn : d.toNat = 63 - Nat.log2 a.toNat := by
      rw [hd, if_neg (by simpa using h), BitVec.toNat_ofNat]
      omega
    have hpos : 63 - d.toNat = Nat.log2 a.toNat := by omega
    exact .inr ⟨by omega, hpos ▸ hone, fun k hk => hzero k (hpos ▸ hk)⟩

/-- A word and its negation have the lowest one of the word in common, and no other bit. -/
theorem getLsbD_and_neg (i : Nat) :
    (a &&& (0 - a)).getLsbD i = true ↔ a.getLsbD i = true ∧ ∀ k < i, a.getLsbD k = false := by
  rw [zero_sub, BitVec.getLsbD_and, BitVec.getLsbD_neg]
  by_cases hi : i < 64
  · cases ha : a.getLsbD i <;> simp [hi]
  · simp [BitVec.getLsbD_of_ge a i (by omega)]

theorem and_neg_ne_zero {a : W64} (h : a ≠ 0) : a &&& (0 - a) ≠ 0 := by
  have one : ∃ k, a.getLsbD k = true := ⟨_, (highest_one h).2.1⟩
  have common : (a &&& (0 - a)).getLsbD (Nat.find one) = true :=
    (getLsbD_and_neg a _).2 ⟨Nat.find_spec one, fun k hk => eq_false_of_ne_true (Nat.find_min one hk)⟩
  intro e
  rw [e] at common
  simp at common

/-- CTZ counts the zeros below the lowest one. -/
theorem intOp_ctz (d : W64) (hd : d = intOp 64 0x1E a b) :
    d.toNat = 64 ∧ a = 0 ∨ d.toNat < 64 ∧ a.getLsbD d.toNat ∧ ∀ k, k < d.toNat → a.getLsbD k = false := by
  change d = BitVec.ofNat 64 (if a == 0 then 64 else Nat.log2 (a &&& (0 - a)).toNat) at hd
  by_cases h : a = 0
  · subst h; subst hd; exact .inl ⟨rfl, rfl⟩
  · have hx := and_neg_ne_zero h
    obtain ⟨hlt, hone, -⟩ := highest_one hx
    have hdn : d.toNat = Nat.log2 (a &&& (0 - a)).toNat := by
      rw [hd, if_neg (by simpa using h), BitVec.toNat_ofNat]
      omega
    rw [hdn]
    obtain ⟨ha, hz⟩ := (getLsbD_and_neg a _).1 hone
    exact .inr ⟨hlt, ha, hz⟩

end Values

/-! ### The result in the group -/

theorem scalarResult_eq {w : W64} (g : Group) {n : Nat} (hn : fnOf w = n) (h : n ≠ 0x19) :
    scalarResult g w = intOp 64 n (g.s (fld w 23 6)) (scalarB g w) := by
  subst hn
  exact if_neg (by simpa using h)

theorem Group.s_setS_self (g : Group) (n : Nat) (v : W64) : (g.setS n v).s n = v :=
  SMap.get_set_self _ _ _ _

/-- The group of an issuer after an instruction that retires: past the instruction, with the registers given. A command
processor's takes the partition and context that it acts for. -/
theorem State.exists_group?_retire (s : State) (i : Issuer) (g : Group) :
    ∃ g', (s.retire i g).group? i = some g' ∧ g'.pc = g.pc + 8 ∧ ∀ n, g'.s n = g.s n := by
  rw [State.retire, State.group?_setGroup]
  cases i <;> exact ⟨_, rfl, rfl, fun _ => rfl⟩

/-- Settles O12: the reserved forms by the rule of OPC 0x10, the values operation by operation. -/
theorem scalarIntegerValues : Obligations.ScalarIntegerValues := by
  refine ⟨fun w ho hr => ?_, fun s i w g hw h => ?_⟩
  · rw [legalOne_of_scalar ho]
    rcases hr with hr | hr | ⟨hf | hf, hr | hr⟩ | ⟨hf, hr⟩ | ⟨hf | hf | hf, hr | hr⟩
    · exact legalScalar_of_reserved (scalarFn_reserved (.inl hr))
    · exact legalScalar_of_reserved (scalarFn_reserved (.inr hr))
    all_goals simp [legalScalar, hf, hr]
  · obtain ⟨g', hg, hpc, hs⟩ :=
      s.exists_group?_retire i (g.ready.setS (fld w 17 6) (scalarResult g.ready w))
    refine ⟨_, g', h.completes_local hw rfl rfl, (State.pins_group? _ _).trans hg, hpc, ?_⟩
    rintro a b ha hb d
    have hd : d = scalarResult g.ready w := (hs _).trans (Group.s_setS_self _ _ _)
    clear_value d
    have value {n : Nat} (hn : fnOf w = n) (hne : n ≠ 0x19) : d = intOp 64 n a b := by
      rw [hd, scalarResult_eq _ hn hne, ha, hb]
      rfl
    -- one case for each row of the table, in its order
    split
    case h_1 hn | h_2 hn | h_3 hn | h_4 hn | h_5 hn | h_6 hn | h_7 hn | h_8 hn | h_23 hn =>
      exact value hn (by decide)
    case h_9 hn => rw [value hn (by decide), BitVec.ofNat_mul]; simp [intOp]
    case h_10 hn => rw [value hn (by decide), toNat_intOp_mulhu]
    case h_11 hn | h_12 hn | h_13 hn | h_14 hn | h_15 hn | h_16 hn => rw [value hn (by decide)]; simp [intOp]
    case h_17 hn => rw [value hn (by decide)]; simp [intOp, BitVec.slt_iff_toInt_lt]
    case h_18 hn => rw [value hn (by decide)]; simp [intOp, BitVec.ult_iff_lt, BitVec.lt_def]
    case h_19 hn => rw [value hn (by decide), toInt_intOp_min]
    case h_20 hn => rw [value hn (by decide), toInt_intOp_max]
    case h_21 hn => rw [value hn (by decide), toNat_intOp_minu]
    case h_22 hn => rw [value hn (by decide), toNat_intOp_maxu]
    case h_24 hn => exact hd.trans (if_pos (by rw [hn]; rfl))
    case h_25 hn => rw [value hn (by decide), toNat_intOp_popc]
    case h_26 hn => exact intOp_clz a b d (value hn (by decide))
    case h_27 hn => exact intOp_ctz a b d (value hn (by decide))
    case h_28 => trivial

end Sys2Proof.Machine
end

section
/-!
PROOF. Scalar loads and stores of Local space (05 R177, R178, R180): the bytes as a partition reads them, before and
after a write.
-/
namespace Sys2Proof.Machine

/-! ### Memory with a range cleared -/

theorem SMap.find_keep_keys {α : Type} (q : Nat → Bool) (m : SMap α) (i : Nat) :
    SMap.find (SMap.keep (fun k _ => q k) m) i = if q i then SMap.find m i else none := by
  induction m with
  | nil => simp [SMap.keep]
  | cons e m ih =>
    obtain ⟨k, v⟩ := e
    rw [SMap.keep, List.filter_cons]
    change SMap.find (if q k then (k, v) :: SMap.keep (fun k _ => q k) m else SMap.keep (fun k _ => q k) m) i = _
    by_cases hik : i = k
    · subst hik
      cases hq : q i <;> simp [SMap.find, ih, hq]
    · cases hq : q k <;> simp [SMap.find, ih, hik]

theorem Memory.read_clear (m : Memory) (lo n a : Nat) :
    (Memory.clear m lo n).read a = if lo ≤ a ∧ a < lo + n then 0 else m.read a := by
  unfold Memory.read Memory.clear SMap.get
  rw [SMap.find_keep_keys]
  by_cases h : lo ≤ a ∧ a < lo + n
  · rw [if_pos h, if_neg (by simp; omega)]; rfl
  · rw [if_neg h, if_pos (by simp; omega)]

/-! ### A byte of Local space as a partition reads it (05 R180) -/

/-- The byte that a partition reads at an address of a core's Local space. -/
def State.localByte (s : State) (core part a : Nat) : Byte :=
  if (s.localTag core (a / 4096)).part = part then Memory.read s.mem.loc (core * 2 ^ 22 + a) else 0

theorem State.localRead_eq (s : State) (core part a n : Nat) :
    s.localRead core part a n = (List.range n).map (fun k => s.localByte core part (a + k)) := by
  simp only [State.localRead, State.localByte, beq_iff_eq, Nat.add_assoc]

theorem State.localRead_of_mem {s t : State} (h : t.mem = s.mem) (core part a n : Nat) :
    t.localRead core part a n = s.localRead core part a n := by
  unfold State.localRead State.localTag
  rw [h]

/-- Two granules of Local space have the same tag only where core and granule agree. -/
theorem State.localTag_setLocalTag (s : State) {core c g k : Nat} (x : LocalTag) (hg : g < 1024) (hk : k < 1024) :
    (s.setLocalTag core g x).localTag c k = if c = core ∧ k = g then x else s.localTag c k := by
  unfold State.localTag State.setLocalTag
  split
  · next h => obtain ⟨rfl, rfl⟩ := h; exact SMap.get_set_self _ _ _ _
  · next h => exact SMap.get_set_ne _ _ _ (by omega)

section Granule
variable (s : State) {core part g : Nat} (hg : g < 1024)
include hg

theorem State.part_takeGranule : ((s.takeGranule core part g).localTag core g).part = part := by
  unfold State.takeGranule
  split
  · next h => exact beq_iff_eq.1 h
  · rw [State.localTag_setLocalTag _ _ hg hg, if_pos ⟨rfl, rfl⟩]

/-- A granule taken over changes no byte that its new partition reads: it read zero there, and its bytes are zero. -/
theorem State.localByte_takeGranule {c b : Nat} (hb : b < 2 ^ 22) :
    (s.takeGranule core part g).localByte c part b = s.localByte c part b := by
  have hk : b / 4096 < 1024 := by omega
  unfold State.takeGranule
  split
  · rfl
  · next hne =>
    have cleared : (Memory.clear s.mem.loc (core * 2 ^ 22 + g * 4096) 4096).read (c * 2 ^ 22 + b) =
        if c = core ∧ b / 4096 = g then 0 else Memory.read s.mem.loc (c * 2 ^ 22 + b) := by
      rw [Memory.read_clear]
      congr 1
      apply propext
      omega
    unfold State.localByte
    rw [State.localTag_setLocalTag _ _ hg hk]
    change (if _ then Memory.read (Memory.clear s.mem.loc (core * 2 ^ 22 + g * 4096) 4096) _ else 0) = _
    rw [cleared]
    by_cases h : c = core ∧ b / 4096 = g
    · have other : (s.localTag c (b / 4096)).part ≠ part := by simpa [h] using hne
      rw [if_pos h, if_pos h, if_pos rfl, if_neg other]
    · rw [if_neg h, if_neg h]
      rfl

end Granule

/-! ### A write within one granule -/

theorem granulesOf_of_one {a n : Nat} (hn : 0 < n) (h : (a + n - 1) / 4096 = a / 4096) :
    granulesOf a n = [a / 4096] := by
  unfold granulesOf
  rw [if_neg (by simpa using hn.ne'), h, Nat.add_sub_cancel_left]
  simp [List.range_succ]

/-- A write within one granule leaves its bytes there, and every other byte as its partition reads it. -/
theorem State.localByte_localWrite (s : State) {core part a c b : Nat} {d : List Byte}
    (ha : a + d.length ≤ 2 ^ 22) (hin : (a + d.length - 1) / 4096 = a / 4096) (hpos : 0 < d.length)
    (hb : b < 2 ^ 22) :
    (s.localWrite core part a d).localByte c part b =
      if h : c = core ∧ a ≤ b ∧ b < a + d.length then d[b - a]'(by omega) else s.localByte c part b := by
  have hg : a / 4096 < 1024 := by omega
  have same := s.localByte_takeGranule (core := core) (part := part) hg (c := c) hb
  have tag := s.part_takeGranule (core := core) (part := part) hg
  unfold State.localWrite
  rw [granulesOf_of_one hpos hin, List.foldl_cons, List.foldl_nil]
  generalize s.takeGranule core part (a / 4096) = u at same tag
  rw [← same]
  change (if (u.localTag c (b / 4096)).part = part then
    (Memory.writeN u.mem.loc (core * 2 ^ 22 + a) d).read (c * 2 ^ 22 + b) else 0) = _
  by_cases h : c = core ∧ a ≤ b ∧ b < a + d.length
  · rw [dif_pos h]
    obtain ⟨rfl, hlo, hhi⟩ := h
    have hk : b / 4096 = a / 4096 := by omega
    have hp : c * 2 ^ 22 + b = c * 2 ^ 22 + a + (b - a) := by omega
    rw [hk, if_pos tag, hp, Memory.read_writeN]
  · rw [dif_neg h, Memory.read_writeN_outside _ _ (by omega)]
    rfl

section Read
variable (s : State) {core part a : Nat} {d : List Byte} (hfit : a + d.length ≤ 2 ^ 22)
  (hin : (a + d.length - 1) / 4096 = a / 4096) (hpos : 0 < d.length)
include hfit hin hpos

theorem State.localRead_localWrite_self : (s.localWrite core part a d).localRead core part a d.length = d := by
  rw [State.localRead_eq]
  refine List.ext_getElem (by simp) fun k _ hk => ?_
  rw [List.getElem_map, List.getElem_range, s.localByte_localWrite hfit hin hpos (by omega), dif_pos ⟨rfl, by omega⟩]
  simp only [Nat.add_sub_cancel_left]

theorem State.localRead_localWrite_other {c b : Nat} (hb : b < 2 ^ 22) (h : c ≠ core ∨ b < a ∨ a + d.length ≤ b) :
    (s.localWrite core part a d).localRead c part b 1 = s.localRead c part b 1 := by
  simp only [State.localRead_eq, List.range_one, List.map_cons, List.map_nil, Nat.add_zero]
  rw [s.localByte_localWrite hfit hin hpos hb, dif_neg (by omega)]

end Read

/-- A part of the state that Local bytes and their tags do not belong to. -/
theorem State.localWrite_keeps {α : Sort _} (p : State → α) (s : State) (core part a : Nat) (d : List Byte)
    (hp : ∀ (s : State) (loc : Memory) (tags : SMap LocalTag),
      p { s with mem := { s.mem with loc := loc, tags := tags } } = p s) :
    p (s.localWrite core part a d) = p s := by
  have granule (u : State) (k : Nat) : p (u.takeGranule core part k) = p u := by
    unfold State.takeGranule
    split
    · rfl
    · exact hp u _ _
  have granules (l : List Nat) (u : State) : p (l.foldl (fun s k => s.takeGranule core part k) u) = p u := by
    induction l generalizing u with
    | nil => rfl
    | cons k l ih => exact (ih _).trans (granule u k)
  exact (hp _ _ _).trans (granules _ s)

theorem length_leBytes (n x : Nat) : (leBytes n x).length = n := by
  induction n generalizing x with
  | zero => rfl
  | succ n ih => rw [leBytes, List.length_cons, ih]

/-! ### Aligned scalar accesses -/

/-- An access of up to 128 bytes at a multiple of its size lies in one granule. -/
theorem aligned_granule (w : W64) {a : Nat} (h : a % (mForm w).bytes = 0) :
    0 < (mForm w).bytes ∧ (a + (mForm w).bytes - 1) / 4096 = a / 4096 := by
  have hsz : (mForm w).sz < 8 := Nat.mod_lt _ (by decide)
  unfold MForm.bytes at h ⊢
  generalize (mForm w).sz = z at hsz h
  interval_cases z <;> omega

section Scalar
variable {s : State} {core slot : Nat} {w : W64} {g : Group} (hsc : (mForm w).sc = true) (hsp : (mForm w).sp = 0)
  {a : Nat} (ha : a = (g.s (mForm w).va + (mForm w).ofs).toNat) (hal : a % (mForm w).bytes = 0)
  (hfit : a + (mForm w).bytes ≤ localSize)

include hsc in
theorem memLanes_of_scalar (g : Group) : memLanes g (mForm w) = [(0xFF, g.s (mForm w).va + (mForm w).ofs)] :=
  if_pos hsc

include hsc hsp ha hal hfit in
/-- The place of an aligned scalar access of Local space. -/
theorem State.memAll_of_local (s : State) (u : Use) :
    s.memAll (.group core slot) g.ready (mForm w).sp (mForm w).bytes u (memLanes g.ready (mForm w)) =
      .ok ([(0xFF, .loc a)], s) := by
  have place : s.memAt (.group core slot) g.ready 0 (mForm w).bytes (g.s (mForm w).va + (mForm w).ofs) u =
      .ok (.loc a, s) := by
    subst ha
    unfold State.memAt
    rw [if_neg (by simpa using hal)]
    exact if_neg (by simpa [Issuer.isCp] using hfit)
  rw [memLanes_of_scalar hsc, hsp, State.memAll, show g.ready.s = g.s from rfl, place]
  rfl

include hsc in
theorem storeBytes_of_scalar (g : Group) (lane : Nat) :
    storeBytes g (mForm w) lane =
      leBytes (mForm w).bytes ((g.s (mForm w).vd).toNat % 2 ^ (8 * (mForm w).bytes)) :=
  if_pos hsc

/-- Nothing goes out for a load of Local space. -/
theorem State.loadAway_of_local (s : State) (i : Issuer) (g : Group) (m : MForm) (lane a : Nat) :
    (if m.dr then s.hintDraff [(lane, .loc a)] else s).loadAway i g m [(lane, .loc a)] = s := by
  have hint : s.hintDraff [(lane, .loc a)] = s := by simp [State.hintDraff]
  rw [hint, ite_self]
  rfl

/-- Nothing goes out for a store to Local space. -/
theorem State.storeAway_of_local (s : State) (i : Issuer) (g : Group) (m : MForm) (lane a : Nat) :
    (s.storeAway i g m [(lane, .loc a)]).mgmtStores i g m [(lane, .loc a)] = s := rfl

include hsc hsp ha hal hfit in
/-- A scalar load of Local space is the bytes there in its register, and changes nothing but its group. -/
theorem State.Issues.completes_ld_local (h : s.Issues (.group core slot) w g)
    (hw : (Instr.ld (.group core slot) w).wf = true) :
    Completes (.ld (.group core slot) w) s (s.retire (.group core slot)
      (g.ready.setS (mForm w).vd (loadValue (mForm w).sx (s.localRead core g.part a (mForm w).bytes)))).pins := by
  have place := State.memAll_of_local (core := core) (slot := slot) hsc hsp ha hal hfit s .load
  have load : s.loadLanes (.group core slot) g.ready (mForm w) (addrOf (memLanes g.ready (mForm w))) [(0xFF, .loc a)]
      g.ready = .ok (bindLoad g.ready (mForm w) 0xFF (s.localRead core g.part a (mForm w).bytes), s) := rfl
  have done := h.completes_ld hw place rfl load
  rwa [State.loadAway_of_local, bindLoad, if_pos hsc] at done

include hsc hsp ha hal hfit in
/-- A scalar store to Local space writes its bytes, and retires its group with work done. -/
theorem State.Issues.completes_st_local (h : s.Issues (.group core slot) w g)
    (hw : (Instr.st (.group core slot) w).wf = true) :
    Completes (.st (.group core slot) w) s (((s.localWrite core g.part a
      (leBytes (mForm w).bytes ((g.s (mForm w).vd).toNat % 2 ^ (8 * (mForm w).bytes)))).retire
        (.group core slot) g.ready).retireWork g.gtag).pins := by
  have place := State.memAll_of_local (core := core) (slot := slot) hsc hsp ha hal hfit s .store
  have store : s.storeLanes (.group core slot) g.ready (mForm w) (addrOf (memLanes g.ready (mForm w)))
      [(0xFF, .loc a)] = .ok (s.localWrite core g.part a (storeBytes g.ready (mForm w) 0xFF)) := rfl
  have resident : ((s.localWrite core g.part a (storeBytes g.ready (mForm w) 0xFF)).group?
      (.group core slot)).isSome = true := by
    have cores := State.localWrite_keeps State.co s core g.part a (storeBytes g.ready (mForm w) 0xFF) fun _ _ _ => rfl
    rw [State.group?_of_groups (congrArg (·.groups) cores), h.group]
    rfl
  have done := h.completes_st hw place rfl store resident
  rw [State.storeAway_of_local, memLanes_of_scalar hsc, storeBytes_of_scalar hsc] at done
  exact done

end Scalar

/-- Settles O18: the one lane of a scalar access names the bytes at its address, which lie in one granule; a granule
taken over reads as before to its new partition. -/
theorem localScalarAccess : Obligations.LocalScalarAccess := by
  intro s core slot w g h hsc hsp a ha hal hfit
  refine ⟨fun hw => ?_, fun hw => ?_⟩
  · refine ⟨_, _, h.completes_ld_local hsc hsp ha hal hfit hw, ?_, rfl, ?_⟩
    · exact (State.pins_group? _ _).trans (s.group?_retire _)
    · rw [State.pins_mem, State.retire_mem]
  · obtain ⟨hpos, hin⟩ := aligned_granule w hal
    have done := h.completes_st_local hsc hsp ha hal hfit hw
    generalize hd : leBytes (mForm w).bytes ((g.s (mForm w).vd).toNat % 2 ^ (8 * (mForm w).bytes)) = d at done ⊢
    have hlen : (mForm w).bytes = d.length := hd ▸ (length_leBytes _ _).symm
    rw [hlen] at hpos hin hfit ⊢
    have mem : (((s.localWrite core g.part a d).retire (.group core slot) g.ready).retireWork g.gtag).pins.mem =
      (s.localWrite core g.part a d).mem := State.retire_mem _ _ g.ready
    refine ⟨_, done, ?_, fun c b hb hcb => ?_, ?_, ?_⟩
    · rw [State.localRead_of_mem mem, s.localRead_localWrite_self hfit hin hpos]
    · rw [State.localRead_of_mem mem, s.localRead_localWrite_other hfit hin hpos hb hcb]
    · rw [mem, State.localWrite_keeps (fun s => s.mem.hbm) _ _ _ _ _ fun _ _ _ => rfl]
    · rw [mem, State.localWrite_keeps (fun s => s.mem.scratch) _ _ _ _ _ fun _ _ _ => rfl]

end Sys2Proof.Machine
end

section
/-!
PROOF. A lock-acquire behind a far atomic of its group waits (07 R258) in the state as it stood, without the translation
that its address had (12 R440).
-/
namespace Sys2Proof.Machine

/-! ### The places of an atomic or a lock -/

section Places
variable {s t : State} {i : Issuer} {w : W64} {g : Group} {ps : List (Nat × MemAt)}

/-- Where no lane names a register, an atomic or a lock goes on with the places of its lanes. -/
theorem State.atPlaces_eq {a : AForm} {size : Nat} {u : Use} (act : State → List (Nat × MemAt) → State)
    (hps : s.memAll i g a.sp size u (laneAddrs g a.va (lanesOf (g.parts a.g))) = .ok (ps, t))
    (hr : ∀ p ∈ ps, ∀ n o, p.2 ≠ .regs n o) : s.atPlaces i g a size u act = act t ps := by
  unfold State.atPlaces
  simp only [hps]
  split
  · next p hp =>
    obtain ⟨n, o, e⟩ : ∃ n o, p.2 = .regs n o := by
      have := List.find?_some hp
      split at this
      · next n o e => exact ⟨n, o, e⟩
      · cases this
    exact absurd e (hr p (List.mem_of_find?_eq_some hp) n o)
  · rfl

/-- LACQ behind a far atomic of its group waits in the state before its addresses were translated. -/
theorem State.Issues.completes_lacq_behind (h : s.Issues i w g) (hw : (Instr.lacq i w).wf = true)
    (hps : s.memAll i g.ready (aForm w).sp 8 .lock
      (laneAddrs g.ready (aForm w).va (lanesOf (g.parts (aForm w).g))) = .ok (ps, t))
    (hr : ∀ p ∈ ps, ∀ n o, p.2 ≠ .regs n o) (hb : t.behindFar g.ready ps = true) :
    Completes (.lacq i w) s (s.stall i g.ready).pins :=
  h.completes_issue hw rfl ((State.atPlaces_eq _ hps hr).trans (if_pos hb))

/-- The place of a word of this device that a Global address names; its translation is noted (12 R440). -/
theorem State.memAt_of_own {a : W64} {u : Use} {size cls ofs : Nat} (hal : a.toNat % size = 0)
    (hx : s.translate g.part a u = .at (.own cls ofs)) :
    s.memAt i g 2 size a u = .ok (.line (gLine ofs) (ofs % 128), s.noteXlat g.part a) := by
  unfold State.memAt
  rw [if_neg (by simpa using hal)]
  simp only [hx]

end Places

/-! ### A state in which the translation is new -/

/-- A device at reset but for the register words given. -/
def State.resetWith (l : List (Reg × Nat × Nat)) : State :=
  l.foldl (fun s x => s.rset x.1 x.2.1 (BitVec.ofNat 32 x.2.2)) State.reset

/-- LACQ of Global space: the address is in v4:v5, the status goes to v3. -/
def lacqGlobal : W64 := BitVec.ofNat 64 (0x42 + 2 * 2 ^ 21 + 2 ^ 23 + 3 * 2 ^ 28 + 4 * 2 ^ 36)

/-- Byte 0 of this device (07 R241, R242). -/
def ownByte0 : W64 := BitVec.ofNat 64 (0xFFFF * 2 ^ 44)

/-- Thread 0 alone, of partition 1; its v4:v5 names byte 0 of this device. -/
def lockingGroup : Group :=
  { Group.idle 1 0 with gtag := 5, rpt := 128, launch := 1, active := 1, vregs := [(160, 0x0FFFF000)] }

/-- The group on core 0, a far atomic of its own waiting on line 0; partition 1 maps region 0 by a block entry in
region 1, and no translation is cached. -/
def lockBehindFar : State :=
  let s := State.resetWith [(.beatCtrl, 0, 1), (.coreCtrl, 0, 1), (.tunCtx, 16, 17), (.stackCtrl, 0, 1),
    (.sliceCtrl, 0, 1), (.llmRgnDesc, 0, 1), (.llmRgnDesc, 1, 1), (.rgnown, 0, 1), (.xlatCfg, 1, 1),
    (.xlatRootLo, 1, 2 ^ 30)]
  { s with
    co := { s.co with
      cores := [(0, { CoreSt.reset with phys := some 0 })]
      groups := [(0, lockingGroup)]
      accesses := [(9, farAccess (.group 0 0) lockingGroup 0 4 9 1 false true [(0, .line 0 0)])] }
    mem := { s.mem with
      hbm := [(2 ^ 30, 0x1D)]
      farOps := [⟨0, 0, 0, 1, .atomic 0 false false 0 1 0, .access 9 0, false, TileWait.fresh⟩] } }

theorem lockBehindFar_issues : lockBehindFar.Issues (.group 0 0) lacqGlobal lockingGroup := by
  decide +kernel

theorem lockBehindFar_places :
    lockBehindFar.memAll (.group 0 0) lockingGroup.ready (aForm lacqGlobal).sp 8 .lock
      (laneAddrs lockingGroup.ready (aForm lacqGlobal).va (lanesOf (lockingGroup.parts (aForm lacqGlobal).g))) =
      .ok ([(0, .line 0 0)], lockBehindFar.noteXlat 1 ownByte0) := by
  have lanes : laneAddrs lockingGroup.ready (aForm lacqGlobal).va (lanesOf (lockingGroup.parts (aForm lacqGlobal).g)) =
      [(0, ownByte0)] := by decide +kernel
  have place : lockBehindFar.translate lockingGroup.ready.part ownByte0 .lock = .at (.own 0 0) := by decide +kernel
  rw [lanes, show (aForm lacqGlobal).sp = 2 by decide, State.memAll,
    State.memAt_of_own (by decide) place]
  rfl

/-- Refutes O19: the LACQ of `lockBehindFar` waits behind a far atomic, and the wait leaves the state as it stood,
without the translation that its address had; the statement has the group wait in the state with that translation
cached. -/
theorem not_atomicAndLockWords : ¬ Obligations.AtomicAndLockWords := by
  intro h
  have wf : (Instr.lacq (.group 0 0) lacqGlobal).wf = true := by decide
  have memory : ∀ p ∈ [((0 : Nat), MemAt.line 0 0)], ∀ n o, p.2 ≠ .regs n o := by simp
  have behind : (lockBehindFar.noteXlat 1 ownByte0).behindFar lockingGroup.ready [(0, .line 0 0)] = true := by
    decide +kernel
  have cached : (lockBehindFar.noteXlat 1 ownByte0).tun.xlat ≠ lockBehindFar.tun.xlat := by decide +kernel
  obtain ⟨-, lacq, -⟩ := h _ _ _ _ lockBehindFar_issues _ _ memory
  have stated := (lacq wf lockBehindFar_places).1 behind
  have done := lockBehindFar_issues.completes_lacq_behind wf lockBehindFar_places memory behind
  rw [Completes, done] at stated
  exact cached (congrArg (fun s => s.tun.xlat) (Host.Outcome.next.inj stated)).symm

end Sys2Proof.Machine
end

section
/-!
PROOF. The fault of a group (04 R147, R148; 11 R403; 15 R510): the record its core keeps, and the slot it leaves. In a
group map that lists each slot once, the keys rising, the slot is free after the fault; a map that lists it twice still
gives the second entry.
-/
namespace Sys2Proof.Machine

/-! ### Maps that list each key once -/

section Rising
variable {α : Type} {m : SMap α} {i : Nat} {x : α}

theorem SMap.mem_of_find (h : SMap.find m i = some x) : (i, x) ∈ m := by
  induction m with
  | nil => cases h
  | cons e m ih =>
    obtain ⟨k, v⟩ := e
    rw [SMap.find] at h
    split at h
    · next hik => subst hik; cases h; exact List.mem_cons_self
    · exact List.mem_cons_of_mem _ (ih h)

theorem SMap.find_of_mem (hr : SMap.Rising m) (h : (i, x) ∈ m) : SMap.find m i = some x := by
  induction m with
  | nil => cases h
  | cons e m ih =>
    obtain ⟨k, v⟩ := e
    obtain ⟨hk, hm⟩ := List.pairwise_cons.1 hr
    rcases List.mem_cons.1 h with h | h
    · cases h; exact if_pos rfl
    · have hne : i ≠ k := (hk _ h).ne'
      exact (if_neg hne).trans (ih hm h)

/-- The entry of a key that a test rejects is gone from the entries it keeps. -/
theorem SMap.find_keep_none (hr : SMap.Rising m) {p : Nat → α → Bool} (h : SMap.find m i = some x)
    (hp : p i x = false) : SMap.find (SMap.keep p m) i = none := by
  refine Option.eq_none_iff_forall_ne_some.2 fun y hy => ?_
  obtain ⟨hm, hpy⟩ := List.mem_filter.1 (SMap.mem_of_find hy)
  have hxy : some y = some x := (SMap.find_of_mem hr hm).symm.trans h
  cases hxy
  simp [hp] at hpy

end Rising

/-! ### What a teardown leaves alone -/

@[simp] theorem State.msix_co (s : State) (fn vector : Nat) : (s.msix fn vector).co = s.co := by
  unfold State.msix
  split
  · rfl
  · split <;> rfl

@[simp] theorem State.faultInfo_co (s : State) (code : Nat) (info : W32) : (s.faultInfo code info).2.co = s.co := by
  unfold State.faultInfo
  split <;> rfl

@[simp] theorem State.recordCore_co (s : State) (core slot code lane : Nat) (info : W32) (pc : W64) :
    (s.recordCore core slot code lane info pc).co = s.co := by
  unfold State.recordCore
  split
  · exact State.setF_co _ _ _ _
  · exact (State.rset_co _ _ _ _).trans ((State.setPair_co _ _ _ _ _).trans (State.rset_co _ _ _ _))

theorem State.foldl_rset_co (s : State) (a : Reg) (base : Nat) (ws : List (Nat × Nat)) :
    (ws.foldl (fun (s : State) w => s.rset a (base + w.2) (BitVec.ofNat 32 w.1)) s).co = s.co := by
  induction ws generalizing s with
  | nil => rfl
  | cons w ws ih => exact (ih _).trans (State.rset_co _ _ _ _)

@[simp] theorem State.logFault_co (s : State) (e : FaultRec) : (s.logFault e).co = s.co := by
  unfold State.logFault
  extract_lets i seq words ras s1 s2 s3
  have logged : s3.co = s.co :=
    (State.setF_co _ _ _ _).trans (State.foldl_rset_co _ _ _ _)
  split
  · exact (State.setF_co _ _ _ _).trans logged
  · exact logged

theorem State.endCommands_co_of_empty (s : State) {key : Nat} (code : Nat) (h : (s.ring key).cmds = []) :
    (s.endCommands key code).co = s.co := by
  unfold State.endCommands
  rw [h]
  rfl

section Teardown
variable {e : FaultRec}

theorem State.reportFault_co (s : State) (ringError : Bool) (hr : (s.ring (16 * e.part + e.ctx)).cmds = []) :
    (s.reportFault e ringError).co = s.co := by
  unfold State.reportFault
  extract_lets key s1 s2 s3
  have ended : s1.co = s.co := s.endCommands_co_of_empty e.code hr
  have closed : s2.co = s1.co := by
    unfold s2
    split <;> exact State.setF_co _ _ _ _
  have logged : s3.co = s2.co := by
    unfold s3
    split
    · rfl
    · exact State.logFault_co _ _
  rw [State.msix_co, logged, closed, ended]

/-- The registers of the context, of its ring and of the fault log take what a teardown writes. -/
def teardownRegs : List Reg := [.tunCtx, .partCtxmask, .ringStatus, .rasFlog, .rasFlogStatus]

section Registers
variable (s : State) {r : Reg} {j : Nat} (hp : e.part < 64) (hx : e.ctx < 16) (hj : j < 2 ^ 24)
  (hr : r ∉ teardownRegs)
include hp hx hj hr

theorem State.rget_markFaulted : (s.markFaulted e).rget r j = s.rget r j := by
  simp only [teardownRegs, List.mem_cons, List.not_mem_nil, or_false, not_or] at hr
  obtain ⟨hc, hm, -⟩ := hr
  have hk : 16 * e.part + e.ctx < 2 ^ 24 := by omega
  unfold State.markFaulted State.setCtxState
  rw [State.rget_setF_ne _ _ (by omega) hj hm, State.rget_setF_ne _ _ hk hj hc,
    State.rget_setF_ne _ _ (by omega) hj hm, State.rget_setF_ne _ _ hk hj hc]
  rfl

theorem State.rget_reportFault_ne (ringError : Bool) (hring : (s.ring (16 * e.part + e.ctx)).cmds = []) :
    (s.reportFault e ringError).rget r j = s.rget r j := by
  simp only [teardownRegs, List.mem_cons, List.not_mem_nil, or_false, not_or] at hr
  obtain ⟨-, -, hs, hl, hls⟩ := hr
  have hk : 16 * e.part + e.ctx < 2 ^ 24 := by omega
  unfold State.reportFault
  extract_lets key s1 s2 s3
  have ended : s1.rget r j = s.rget r j :=
    State.rget_of_regs (s.endCommands_regs_of_empty e.code hring) _ _
  have closed : s2.rget r j = s1.rget r j := by
    unfold s2
    split <;> exact s1.rget_setF_ne _ hk hj hs
  have logged : s3.rget r j = s2.rget r j := by
    unfold s3
    split
    · rfl
    · exact s2.rget_logFault e hj hl hls
  rw [State.rget_of_regs (State.msix_regs _ _ _), logged, closed, ended]

end Registers

end Teardown

/-! ### The fault of a group whose context can be torn down -/

section Raise
variable {s : State} {core slot : Nat} {g : Group} (h : s.MayFault core slot g) {code lane : Nat} {info : W32}
include h

/-- The fault's record, and then the teardown of the group's context. -/
theorem State.MayFault.raise_eq (hcode : code < 2 ^ 16) :
    s.raise (.group core slot) code lane info =
      let u := (s.faultInfo code info).2.recordCore core slot code lane (s.faultInfo code info).1 g.pc
      let e : FaultRec := ⟨code, g.part, g.ctx, 0, core, g.pc, (s.faultInfo code info).1⟩
      (u.markFaulted e).reportFault e false := by
  obtain ⟨hc, hg, hp, hp', hx, hs, hr⟩ := h
  have hk : 16 * g.part + g.ctx < 2 ^ 24 := by omega
  rw [s.raise_group code lane info hg]
  refine State.teardown_eq _ (e := ⟨code, g.part, g.ctx, 0, core, g.pc, _⟩) false hcode hp ?_
  rwa [State.f, State.rget_recordCore _ _ _ _ _ _ (by omega) hk (by decide),
    State.rget_of_regs (State.faultInfo_regs _ _ _)]

/-- The ring of the group's context is empty as the teardown comes to it. -/
theorem State.MayFault.ring_markFaulted (info' : W32) (e : FaultRec) :
    (((s.faultInfo code info).2.recordCore core slot code lane info' g.pc).markFaulted e |>.ring
      (16 * g.part + g.ctx)).cmds = [] := by
  rw [State.markFaulted_ring]
  simpa [State.ring] using h.ring

/-- Registers other than those of the teardown hold what the record of the core has left in them. -/
theorem State.MayFault.rget_raise (hcode : code < 2 ^ 16) {r : Reg} {j : Nat} (hj : j < 2 ^ 24)
    (hr : r ∉ teardownRegs) :
    (s.raise (.group core slot) code lane info).rget r j =
      ((s.faultInfo code info).2.recordCore core slot code lane (s.faultInfo code info).1 g.pc).rget r j := by
  rw [h.raise_eq hcode]
  refine (State.rget_reportFault_ne _ h.part_lt h.ctx_lt hj hr _ (h.ring_markFaulted _ _)).trans ?_
  exact State.rget_markFaulted _ h.part_lt h.ctx_lt hj hr

/-- The fault of a group takes the groups of its context out of the group map. -/
theorem State.MayFault.groups_raise (hcode : code < 2 ^ 16) :
    (s.raise (.group core slot) code lane info).co.groups =
      SMap.keep (fun k x => !(k < 256 * 64 && x.part == g.part && x.ctx == g.ctx)) s.co.groups := by
  rw [h.raise_eq hcode]
  extract_lets u e
  have recorded : u.co = s.co := (State.recordCore_co _ _ _ _ _ _ _).trans (State.faultInfo_co _ _ _)
  rw [State.reportFault_co (e := e) _ false (h.ring_markFaulted _ e), ← recorded]
  rfl

/-- The fault of a group frees its slot, where the group map lists each slot once. -/
theorem State.MayFault.group?_raise (hslot : slot < 64) (hcode : code < 2 ^ 16) (hm : SMap.Rising s.co.groups) :
    (s.raise (.group core slot) code lane info).group? (.group core slot) = none := by
  have hkey : core * 64 + slot < 256 * 64 := by
    have := h.core_lt
    omega
  refine (congrArg (SMap.find · (core * 64 + slot)) (h.groups_raise hcode)).trans ?_
  exact SMap.find_keep_none hm h.group (by simp [hkey])

end Raise

/-! ### An instruction word that names nothing (05 R158) -/

/-- A pair of registers reads back the value written to it. -/
theorem State.pair_setPair (s : State) {lo hi : Reg} {i : Nat} (v : W64) (hi' : i < 2 ^ 24) (h : lo ≠ hi) :
    (s.setPair lo hi i v).pair lo hi i = v := by
  have halves : (v >>> 32).truncate 32 ++ (v.truncate 32 : W32) = v := by
    refine BitVec.eq_of_getLsbD_eq fun k hk => ?_
    rw [BitVec.getLsbD_append]
    by_cases hlt : k < 32
    · simp [hlt]
    · have hk' : k - 32 < 32 := by omega
      simp [hlt, hk', Nat.add_sub_cancel' (Nat.not_lt.1 hlt)]
  unfold State.pair State.setPair
  rw [State.rget_rset_self, State.rget_rset_ne _ _ hi' hi' (.inl h), State.rget_rset_self]
  exact halves

section FirstFault
variable (s : State) {core slot code lane : Nat} (info : W32) (pc : W64)
  (hv : s.b F.coreFaultStatus_VALID core = false) (hcode : code < 2 ^ 16)
include hv hcode

theorem State.recordCore_of_first :
    s.recordCore core slot code lane info pc =
      ((s.rset .coreFaultStatus core (BitVec.ofNat 32
        (code + slot * 2 ^ 16 + lane * 2 ^ 22 + 2 ^ 31 + s.f F.coreFaultStatus_MORE core * 2 ^ 30))).setPair
          .coreFaultPcLo .coreFaultPcHi core pc).rset .coreFaultInfo core info := by
  unfold State.recordCore
  rw [if_neg (ne_true_of_eq_false hv), if_pos hcode, Nat.mod_eq_of_lt hcode]

/-- The record of a core whose first fault this is: code, validity, address and information (04 R147, R148). -/
theorem State.recordCore_first (hc : core < 2 ^ 24) (hslot : slot < 64) (hlane : lane < 256) :
    let t := s.recordCore core slot code lane info pc
    t.f F.coreFaultStatus_CODE core = code ∧ t.b F.coreFaultStatus_VALID core = true ∧
      t.rget .coreFaultInfo core = info ∧ t.pair .coreFaultPcLo .coreFaultPcHi core = pc := by
  rw [s.recordCore_of_first info pc hv hcode]
  extract_lets t
  have more : s.f F.coreFaultStatus_MORE core < 2 := bitsOf_lt _ _ _
  have status : (t.rget .coreFaultStatus core).toNat =
      code + slot * 2 ^ 16 + lane * 2 ^ 22 + 2 ^ 31 + s.f F.coreFaultStatus_MORE core * 2 ^ 30 := by
    unfold t
    rw [State.rget_rset_ne _ _ hc hc (.inl (by decide)), State.rget_setPair_ne _ _ hc hc (by decide) (by decide),
      State.rget_rset_self, BitVec.toNat_ofNat]
    exact Nat.mod_eq_of_lt (by omega)
  refine ⟨?code, ?valid, State.rget_rset_self _ _ _ _, ?pc⟩
  case code =>
    change (t.rget .coreFaultStatus core).toNat / 2 ^ 0 % 2 ^ 16 = code
    rw [status]
    omega
  case valid =>
    change ((t.rget .coreFaultStatus core).toNat / 2 ^ 31 % 2 ^ 1 == 1) = true
    rw [status, beq_iff_eq]
    omega
  case pc =>
    unfold t
    rw [State.pair, State.rget_rset_ne _ _ hc hc (.inl (by decide)), State.rget_rset_ne _ _ hc hc (.inl (by decide))]
    exact State.pair_setPair _ pc hc (by decide)

end FirstFault

/-- Faults other than those of tiles record the information they are given (04 R148). -/
theorem State.faultInfo_eq (s : State) {code : Nat} (info : W32) (h : code / 256 ≠ 1) :
    s.faultInfo code info = (info, s) := by
  unfold State.faultInfo
  rw [if_neg (by simp [h])]

/-- What the first fault of a core leaves in its record. -/
theorem State.MayFault.raise_records {s : State} {core slot : Nat} {g : Group} (h : s.MayFault core slot g)
    {code lane : Nat} (info : W32) (hslot : slot < 64) (hlane : lane < 256) (hcode : code < 2 ^ 16)
    (htile : code / 256 ≠ 1) (hv : s.b F.coreFaultStatus_VALID core = false) :
    let t := s.raise (.group core slot) code lane info
    t.f F.coreFaultStatus_CODE core = code ∧ t.b F.coreFaultStatus_VALID core = true ∧
      t.rget .coreFaultInfo core = info ∧ t.pair .coreFaultPcLo .coreFaultPcHi core = g.pc := by
  have hc : core < 2 ^ 24 := h.core_lt.trans (by decide)
  have kept {r : Reg} (hr : r ∉ teardownRegs) : (s.raise (.group core slot) code lane info).rget r core =
      (s.recordCore core slot code lane info g.pc).rget r core := by
    rw [h.rget_raise hcode hc hr, s.faultInfo_eq info htile]
  obtain ⟨hcode', hvalid, hinfo, hpc⟩ := s.recordCore_first info g.pc hv hcode hc hslot hlane
  refine ⟨?_, ?_, (kept (by decide)).trans hinfo, ?_⟩
  · exact (congrArg (bitsOf · 0 16) (kept (by decide))).trans hcode'
  · exact (congrArg (bitsOf · 31 1 == 1) (kept (by decide))).trans hvalid
  · exact (congrArg₂ (· ++ ·) (kept (by decide)) (kept (by decide))).trans hpc

/-! ### The two faults, in a group map that lists each slot once -/

section Counted
variable {s : State} {core slot : Nat} {g : Group}

theorem State.countCore_resident (hg : s.group? (.group core slot) = some g) (j n : Nat) :
    s.countCore (.group core slot) j n =
      (s.bump .coreEvtLo .coreEvtHi (core * 8 + j) n).credit g.part (core * 8 + j) n := by
  unfold State.countCore
  rw [hg]

/-- A count of a group's core is in the two words of its counter. -/
theorem State.rget_countCore (hg : s.group? (.group core slot) = some g) {j n k : Nat} {r : Reg}
    (hc : core * 8 + j < 2 ^ 24) (hk : k < 2 ^ 24) (hr : r ≠ .coreEvtLo ∧ r ≠ .coreEvtHi) :
    (s.countCore (.group core slot) j n).rget r k = s.rget r k := by
  rw [State.countCore_resident hg, State.rget_of_regs (State.credit_regs _ _ _ _)]
  exact s.rget_bump_ne n hc hk (.inr hr)

/-- A counted event leaves a group that may fault as it is. -/
theorem State.MayFault.countCore (h : s.MayFault core slot g) {j : Nat} (n : Nat) (hj : j < 8) :
    (s.countCore (.group core slot) j n).MayFault core slot g := by
  obtain ⟨hc, hg, hp, hp', hx, hs, hr⟩ := h
  refine ⟨hc, ?_, hp, hp', hx, ?_, ?_⟩
  · rwa [State.group?_of_groups (congrArg (·.groups) (State.countCore_co s _ _ _))]
  · rwa [State.f, State.rget_countCore hg (by omega) (by omega) (by decide)]
  · rwa [State.ring, State.countCore_tun]

theorem State.MayFault.ready (h : s.MayFault core slot g) :
    (s.setGroup (.group core slot) g.ready).MayFault core slot g.ready := by
  obtain ⟨hc, hg, hp, hp', hx, hs, hr⟩ := h
  exact ⟨hc, s.group?_setGroup _ _, hp, hp', hx, hs, hr⟩

end Counted

theorem legalOne_of_no_class {w : W64} (h : classOf w = none) : legalOne w = false := by
  unfold legalOne
  rw [h]

/-- NOP with a word that no issuer accepts raises 0x0401 at the instruction. -/
theorem State.completes_illegal {s : State} {i : Issuer} {w : W64} {g : Group} (h : legalOne w = false)
    (hw : (Instr.nop i w).wf = true) (hi : s.canIssue i = true) (hg : s.group? i = some g) :
    Completes (.nop i w) s (((s.countIssue i).setGroup i g.ready).raise i 0x0401 0xFF (w.truncate 32)).pins := by
  rw [Completes, exec_nop, execNop, State.issueLocal, State.issue_illegal _ hg h, command_eq hw hi]

@[simp] theorem State.pins_pair (s : State) (lo hi : Reg) (i : Nat) : s.pins.pair lo hi i = s.pair lo hi i := rfl

/-- A group that may issue is one of a RUNNING context (11 R393). -/
theorem State.running_of_canIssue {s : State} {core slot : Nat} {g : Group}
    (hg : s.group? (.group core slot) = some g) (h : s.canIssue (.group core slot) = true) :
    s.f F.tunCtx_STATE (16 * g.part + g.ctx) = 2 := by
  unfold State.canIssue at h
  rw [hg] at h
  simp only [Bool.and_eq_true, beq_iff_eq] at h
  obtain ⟨⟨-, running⟩, -⟩ := h
  exact running

section Canonical
variable {s : State} {core slot : Nat} {g : Group} (hm : SMap.Rising s.co.groups) (hslot : slot < 64)
include hm hslot

/-- A word that names no instruction, with every slot listed once: teardown, record and slot as O16 has them. -/
theorem State.illegalWord_faults {w : W64} (hc : core < 256) (hp : g.part ≠ 0) (hp' : g.part < 64) (hx : g.ctx < 16)
    (hi : s.canIssue (.group core slot) = true) (hg : s.group? (.group core slot) = some g) (hw : classOf w = none)
    (hv : s.b F.coreFaultStatus_VALID core = false) (hr : (s.ring (16 * g.part + g.ctx)).cmds = []) :
    ∃ t, Completes (.nop (.group core slot) w) s t ∧
      t.f F.tunCtx_STATE (16 * g.part + g.ctx) = 5 ∧ t.f F.tunCtx_FAULT (16 * g.part + g.ctx) = 0x0401 ∧
      t.f F.coreFaultStatus_CODE core = 0x0401 ∧ t.b F.coreFaultStatus_VALID core = true ∧
      t.rget .coreFaultInfo core = w.truncate 32 ∧ t.pair .coreFaultPcLo .coreFaultPcHi core = g.pc ∧
      t.group? (.group core slot) = none := by
  have running := State.running_of_canIssue hg hi
  have wf : (Instr.nop (.group core slot) w).wf = true := by
    simp [Instr.wf, Issuer.wf, Sys2Proof.carries, hw, hc, hslot]
  have hf : s.MayFault core slot g := ⟨hc, hg, Nat.pos_of_ne_zero hp, hp', hx, by omega, hr⟩
  have done := State.completes_illegal (legalOne_of_no_class hw) wf hi hg
  have hu : ((s.countIssue (.group core slot)).setGroup (.group core slot) g.ready).MayFault core slot g.ready :=
    (hf.countCore (j := 0) 1 (by decide)).ready
  have first : ((s.countIssue (.group core slot)).setGroup (.group core slot) g.ready).b
      F.coreFaultStatus_VALID core = false := by
    rw [← hv]
    exact congrArg (bitsOf · 31 1 == 1)
      (State.rget_countCore hg (j := 0) (n := 1) (r := .coreFaultStatus) (by omega) (by omega) (by decide))
  have rising : SMap.Rising ((s.countIssue (.group core slot)).setGroup (.group core slot) g.ready).co.groups :=
    SMap.put_rising (by rwa [State.countIssue_co]) _ _
  obtain ⟨state, fault⟩ := hu.raise_marks (code := 0x0401) 0xFF (w.truncate 32) (by decide)
  obtain ⟨code, valid, info, pc⟩ := hu.raise_records (code := 0x0401) (lane := 0xFF) (w.truncate 32) hslot (by decide)
    (by decide) (by decide) first
  refine ⟨_, done, ?_⟩
  simp only [State.pins_f, State.pins_b, State.pins_rget, State.pins_pair, State.pins_group?]
  exact ⟨state, fault, code, valid, info, pc, hu.group?_raise hslot (by decide) rising⟩

/-- The watchdog of a group, with every slot listed once: teardown, count and slot as O25 has them. -/
theorem State.watchdog_faults (hf : s.MayFault core slot g) (hw : 4096 ≤ g.wdog)
    (hlow : ∀ e ∈ s.co.groups, e.1 / 64 = core → core * 64 + slot ≤ e.1 ∨ e.2.wdog < 4096)
    (hs : s.b F.clkStatus_SAFE 0 = false) :
    ∃ t, Completes (.groupWatchdogExpiry (.group core slot)) s t ∧
      t.f F.tunCtx_STATE (16 * g.part + g.ctx) = 5 ∧ t.f F.tunCtx_FAULT (16 * g.part + g.ctx) = 0x0306 ∧
      t.eventCount .coreEvtLo .coreEvtHi (core * 8 + 7) =
        (s.eventCount .coreEvtLo .coreEvtHi (core * 8 + 7) + 1) % 2 ^ 48 ∧
      t.group? (.group core slot) = none := by
  have hc := hf.core_lt
  have wf : (Instr.groupWatchdogExpiry (.group core slot)).wf = true := by
    simp [Instr.wf, Issuer.wf, hc, hslot]
  have due : (!s.b F.clkStatus_SAFE 0 && s.watchdogDue (.group core slot)) = true := by
    have lowest : s.co.groups.all (fun e => e.1 / 64 != core || core * 64 + slot ≤ e.1 || e.2.wdog < 4096) = true := by
      simp only [List.all_eq_true, Bool.or_eq_true, bne_iff_ne, decide_eq_true_eq]
      intro e he
      have low := hlow e he
      tauto
    unfold State.watchdogDue
    rw [hs, hf.group]
    refine (congrArg (fun b => !false && ((!false && (some g).any (fun g => 4096 ≤ g.wdog)) && b)) lowest).trans ?_
    simp [hw]
  have hu := hf.countCore (j := 7) 1 (by decide)
  have rising : SMap.Rising (s.countCore (.group core slot) 7 1).co.groups := by rwa [State.countCore_co]
  have counted : (s.countCore (.group core slot) 7 1).eventCount .coreEvtLo .coreEvtHi (core * 8 + 7) =
      (s.eventCount .coreEvtLo .coreEvtHi (core * 8 + 7) + 1) % 2 ^ 48 := by
    rw [State.countCore_resident hf.group, State.eventCount_of_regs (State.credit_regs _ _ _ _),
      s.eventCount_bump 1 (by decide) (by omega)]
  have done : Completes (.groupWatchdogExpiry (.group core slot)) s
      ((s.countCore (.group core slot) 7 1).raise (.group core slot) 0x0306 0xFF 0).pins := by
    rw [Completes, exec_groupWatchdogExpiry, execGroupWatchdogExpiry, command_eq wf due]
  obtain ⟨state, fault⟩ := hu.raise_marks (code := 0x0306) 0xFF 0 (by decide)
  have kept {r : Reg} (hr : r ∉ teardownRegs)
      (hr' : r ∉ [Reg.coreFaultStatus, .coreFaultPcLo, .coreFaultPcHi, .coreFaultInfo]) :=
    (hu.rget_raise (code := 0x0306) (lane := 0xFF) (info := 0) (j := core * 8 + 7) (by decide) (by omega) hr).trans
      ((State.rget_recordCore _ _ _ _ _ _ (by omega) (by omega) hr').trans
        (State.rget_of_regs (State.faultInfo_regs _ _ _) _ _))
  refine ⟨_, done, state, fault, Eq.trans ?_ counted, ?_⟩
  · exact congrArg₂ (fun lo hi : W32 => lo.toNat + bitsOf hi 0 16 * 2 ^ 32)
      (kept (r := .coreEvtLo) (by decide) (by decide)) (kept (r := .coreEvtHi) (by decide) (by decide))
  · exact (State.pins_group? _ _).trans (hu.group?_raise hslot (by decide) rising)

end Canonical

/-! ### A group map that lists a slot twice -/

/-- A group of partition 1 whose watchdog has run out. -/
def expiredGroup : Group := { Group.idle 1 0 with gtag := 5, launch := 1, active := 1, wdog := 4096 }

/-- Core 0 runs, context 0 of partition 1 is RUNNING, and the group map lists slot 0 twice: for a group of partition 1,
which is the one found there, and behind it for one of partition 2. -/
def slotListedTwice : State :=
  let s := State.resetWith [(.beatCtrl, 0, 1), (.coreCtrl, 0, 1), (.tunCtx, 16, 17)]
  { s with
    co := { s.co with
      cores := [(0, { CoreSt.reset with phys := some 0 })]
      groups := [(0, expiredGroup), (0, Group.idle 2 0)] } }

/-- The group in slot 0 of core 0 after a command. -/
def groupAfter (c : Instr) (s : State) : Option Group :=
  match exec c s with
  | .next t => t.group? (.group 0 0)
  | _ => none

theorem groupAfter_of_completes {c : Instr} {s t : State} (h : Completes c s t) :
    groupAfter c s = t.group? (.group 0 0) := by
  unfold groupAfter
  rw [h]

/-- Refutes O16: the fault takes the groups of the context out of the group map, and where the map lists the slot a
second time, for a group of another partition, that entry is found there next. Where the map lists each slot once, the
statement holds (`State.illegalWord_faults`). -/
theorem not_illegalWordFaults : ¬ Obligations.IllegalWordFaults := by
  intro h
  have other : groupAfter (.nop (.group 0 0) 0) slotListedTwice = some (Group.idle 2 0) := by decide +kernel
  obtain ⟨t, ht, -, -, -, -, -, -, gone⟩ := h slotListedTwice 0 0 0 expiredGroup (by decide) (by decide) (by decide)
    (by decide) (by decide +kernel) (by decide +kernel) (by decide) (by decide) (by decide +kernel) (by decide +kernel)
  rw [groupAfter_of_completes ht, gone] at other
  cases other

/-- Refutes O25: in the same state the watchdog's fault leaves the second entry of the slot. Where the map lists each
slot once, that clause holds (`State.watchdog_faults`). -/
theorem not_groupEvents : ¬ Obligations.GroupEvents := by
  intro h
  have other : groupAfter (.groupWatchdogExpiry (.group 0 0)) slotListedTwice = some (Group.idle 2 0) := by
    decide +kernel
  obtain ⟨-, -, watchdog⟩ := h
  obtain ⟨t, ht, -, -, -, gone⟩ := watchdog slotListedTwice 0 0 expiredGroup (by decide) (by decide) (by decide +kernel)
    (by decide) (by decide +kernel) (by decide) (by decide) (by decide) (by decide +kernel) (by decide +kernel)
    (by decide +kernel)
  rw [groupAfter_of_completes ht, gone] at other
  cases other

end Sys2Proof.Machine
end

section
/-!
PROOF. Two-word instructions that issue (06 R199, R584): each row is the effect that its words have on the group, and
the handle, tile, wait and phase rows complete with it (06 R200 to R207, R219, R220, R235, R236).
-/
namespace Sys2Proof.Machine

/-! ### A row whose words issue -/

section Rows
variable {s t : State} {c : Instr}

/-- A row whose precondition holds completes with its effect. -/
theorem completes_of_effect {pre : Bool} {u : State} (hp : pre = true) (hw : c.wf = true)
    (hc : exec c s = command c pre s u) (hu : u = t) : Completes c s t.pins := by
  rw [Completes, hc, hu]
  exact command_eq hw hp

/-- A row that names no vector register completes with its effect on the group that no wait holds back. -/
theorem State.Issues2.completes_plain {i : Issuer} {w0 w1 : W64} {g : Group} {act : Group → State}
    (h : s.Issues2 i w0 w1 [] g) (hw : c.wf = true)
    (hc : exec c s = command c (s.canIssue i) s (s.issue2Plain i w0 w1 act)) (ha : act g.ready = t) :
    Completes c s t.pins :=
  completes_of_effect h.1 hw hc ((State.issue2Plain_eq act h).trans ha)

end Rows

@[simp] theorem Group.ready_s (g : Group) (n : Nat) : g.ready.s n = g.s n := rfl

@[simp] theorem Group.ready_h (g : Group) (n : Nat) : g.ready.h n = g.h n := rfl

@[simp] theorem Group.ready_part (g : Group) : g.ready.part = g.part := rfl

/-- A tile that keeps to its placement passes that check. -/
theorem not_unplaced {l : TLoc} (h : l.placed = true) : ¬ (!l.placed) = true := by simp [h]

/-! ### Handles -/

section Thdr
variable {s : State} {i : Issuer} {w0 w1 : W64} {g : Group} (h : s.Issues2 i w0 w1 [] g)
  (hw : (Instr.thdr i w0 w1).wf = true) {f : TForm} (ef : tForm w0 w1 = f) {l : TLoc} (el : hTile (g.h f.ta) 0 0 = l)
  {a : W64} (ea : l.hdrAddr + BitVec.ofNat 64 (8 * (f.opt % 2)) = a)
  (hf : hFormat (g.h f.ta) ≠ 0) (hp : l.placed = true)
include h hw ef el ea hf hp

/-- THDR of a tile whose header is read here. -/
theorem State.Issues2.completes_thdr_here
    (hn : l.space ≠ 2 ∨ ∀ cls node ofs, s.translate g.part a .load ≠ .at (.remote cls node ofs)) {x0 x1 : W64}
    {u : State} (hx : s.seeWord0 i.core g.part l .load = .ok (x0, x1, u)) :
    Completes (.thdr i w0 w1) s (u.retire2 i (g.ready.setS f.sd (if f.opt % 2 = 1 then x1 else x0))).pins := by
  subst ea el ef
  refine h.completes_plain hw rfl ((if_neg (mt beq_iff_eq.1 hf)).trans ((if_neg (not_unplaced hp)).trans ?_))
  extract_lets far
  have here : far = none := by
    unfold far
    split
    · next hs =>
      have near := hn.resolve_left (not_not_intro (beq_iff_eq.1 hs))
      split
      · next hr => exact absurd hr (near _ _ _)
      · rfl
    · rfl
  simp only [here, Group.ready_h, Group.ready_part, hx, beq_iff_eq]

/-- THDR of a tile at another node is a load of one word of its header. -/
theorem State.Issues2.completes_thdr_away (hs : l.space = 2) {cls node ofs : Nat}
    (hr : s.translate g.part a .load = .at (.remote cls node ofs)) :
    Completes (.thdr i w0 w1) s ((s.retire2 i g.ready).remoteLoad
      (scalarLoad i g.ready f.sd (rLine node ofs) (ofs % 128)) [(rLine node ofs, cls)] i.core).pins := by
  subst ea el ef
  refine h.completes_plain hw rfl ((if_neg (mt beq_iff_eq.1 hf)).trans ((if_neg (not_unplaced hp)).trans ?_))
  extract_lets far
  have away : far = some (cls, node, ofs) := by
    unfold far
    simp only [Group.ready_h, Group.ready_part, hs, hr, beq_self_eq_true, if_true]
  simp only [away]

end Thdr

/-- Settles O20: each row is its effect at the group that issues it, past the checks that the premises answer. -/
theorem handleWords : Obligations.HandleWords := by
  intro s i w0 w1 g h
  refine ⟨fun hw hb => ?thset, fun hw hf x hx => ?thadv, fun hw => ?thget, fun hw hf hp =>
    ⟨fun hn x0 x1 u => ?here, fun hs cls node ofs => ?away⟩⟩
  case thset => exact h.completes_plain hw rfl (if_pos hb)
  case thadv =>
    refine h.completes_plain hw rfl ((if_neg (mt beq_iff_eq.1 hf)).trans ?_)
    simp only [Group.ready_h, hx]
  case thget => exact h.completes_plain hw rfl rfl
  case here => exact State.Issues2.completes_thdr_here h hw rfl rfl rfl hf hp hn
  case away => exact State.Issues2.completes_thdr_away h hw rfl rfl rfl hf hp hs

/-! ### Tiles built by stores, and fragments -/

section Tiles
variable {s u : State} {i : Issuer} {g : Group} {w0 w1 : W64} {f : TForm} (ef : tForm w0 w1 = f) {x : BitVec 128}
include ef

/-- TOPEN of an idle tile: step 1 is done, and the handle is open with the tile's generation. -/
theorem State.tryTopen_of_begun (ex : g.h f.td = x) {w : W64} (tw : TileWait)
    (hb : s.beginTile i.core g.part (hTile x 0 0) (hRole x) (hVrows x) (hVcols x) 0 0 .tileWrite = .ok (some w, u)) :
    s.tryTopen i g w0 w1 tw = (u.retire2 i (g.setH f.td (hSetOpen x true (hdrGen w)))).retireWork g.gtag := by
  subst ex ef
  simp only [State.tryTopen, hb]

/-- FLD of a tile that its read gives. -/
theorem State.tryFld_of_good (ex : g.h f.ta = x) {img : TileImage} (tw : TileWait)
    (hr : s.readTile i.core g.part (hTile x 0 0) (hFormat x) (hRole x) (hNv x) .tileRead = (.good img, u)) :
    s.tryFld i g w0 w1 tw = u.retire2 i (g.loadFragment
      (if hNv x then
        ⟨mkHeader false (hRole x) (hFormat x) (hdrVrows img.word0) (hdrVcols img.word0) 0 0 0, img.payload,
          img.scale⟩
       else img) f.vr (f.opt % 2)) := by
  subst ex ef
  simp only [State.tryFld, hr]

/-- FST of a tile that its write takes. -/
theorem State.tryFst_of_written (ex : g.h f.td = x) (tw : TileWait)
    (hu : s.writeTile i.core g.part (hTile x 0 0) (hRole x) (hVrows x) (hVcols x) i.core 3 (g.storeFragment x f.vr) []
      .tileWrite = .ok (some u)) :
    s.tryFst i g w0 w1 tw = (u.retire2 i g).retireWork g.gtag := by
  subst ex ef
  simp only [State.tryFst, hu]

/-- TSEAL of a tile that the handle has open, with no store of the group to wait for. -/
theorem State.Issues2.completes_tseal (h : s.Issues2 i w0 w1 [] g) (hw : (Instr.tseal i w0 w1).wf = true)
    (ex : g.h f.td = x) (hx : ¬ (hFormat x == 0 || !s.ownHandle x) = true) (hp : (hTile x 0 0).placed = true)
    (hd : s.fenceOpen i g.ready 3 = false) (hopen : hOpen x = true) {y : Seen} {v : State}
    (hy : s.seeTile i.core g.part (hTile x 0 0) .tileWrite = .ok (y, u))
    (hbusy : hdrBusy y.word0 = true) (hgen : hdrGen y.word0 = hOgen x)
    (hv : u.sealTile i.core g.part (hTile x 0 0) y = .ok v) :
    Completes (.tseal i w0 w1) s
      ((v.retire2 i (g.ready.setH f.td (hSetOpen x false (hOgen x)))).retireWork g.gtag).pins := by
  subst ex ef
  have held : (!hOpen (g.h (tForm w0 w1).td) || !hdrBusy y.word0 ||
      hdrGen y.word0 != hOgen (g.h (tForm w0 w1).td)) = false := by simp [hopen, hbusy, hgen]
  refine h.completes_plain hw rfl ((if_neg hx).trans ((if_neg (not_unplaced hp)).trans
    ((if_neg (ne_true_of_eq_false hd)).trans ?_)))
  simp only [Group.ready_h, Group.ready_part, hy, held, hv]
  rfl

end Tiles

/-- Settles O21: past its checks each row does what its tile's read or write answers. -/
theorem tileWords : Obligations.TileWords := by
  intro s i w0 w1 g f
  refine ⟨fun h hf ho hp => ?stores, fun h hf hk hp hw img u hr => ?fld, fun h hf hp hw u hu => ?fst⟩
  case stores =>
    have own : ¬ (hFormat (g.h f.td) == 0 || !s.ownHandle (g.h f.td)) = true := by simp [hf, ho]
    refine ⟨fun hw w u hb => ?topen, fun hw hd hopen y u v =>
      State.Issues2.completes_tseal rfl h hw rfl own hp hd hopen⟩
    case topen =>
      exact h.completes_plain hw rfl ((if_neg own).trans ((if_neg (not_unplaced hp)).trans
        (State.tryTopen_of_begun (g := g.ready) rfl rfl _ hb)))
  case fld =>
    have suits : (!fragmentHandle (g.h f.ta) || (f.opt % 2 == 1 &&
        (hFormat (g.h f.ta) == 1 || hFormat (g.h f.ta) == 4))) = false := by
      rcases hk with hk | hk | hk <;> simp [hf, hk]
    refine completes_of_effect h.1 hw rfl ?_
    unfold State.doFld
    refine (State.issue2_eq (fun g => fldOps (g.h f.ta) f.vr) _ h).trans ?_
    exact (if_neg (ne_true_of_eq_false suits)).trans ((if_neg (not_unplaced hp)).trans
      (State.tryFld_of_good (g := g.ready) rfl rfl _ hr))
  case fst =>
    have suits : ¬ (!fragmentHandle (g.h f.td)) = true := by simp [hf]
    refine completes_of_effect h.1 hw rfl ?_
    unfold State.doFst
    refine (State.issue2_eq (fun g => fstOps (g.h f.td) f.vr) _ h).trans ?_
    exact (if_neg suits).trans ((if_neg (not_unplaced hp)).trans
      (State.tryFst_of_written (g := g.ready) rfl rfl _ hu))

/-! ### WAITGE and PHASE -/

/-- A group whose word has reached its bound is found by WAITGE_REACHED. -/
theorem State.waitReached_of_reached {s u : State} {i : Issuer} {g : Group} {space sd : Nat} {a bound v : W64}
    (hg : s.group? i = some g) (hw : g.wait = .waitge space a bound sd) (hv : s.waitWord i g space a = .ok (v, u))
    (hb : bound.toNat ≤ v.toNat) : s.waitReached i = some (g, sd, u) := by
  simp only [State.waitReached, hg, hw, hv]
  exact if_pos (decide_eq_true hb)

/-- Settles O24: WAITGE goes by the word it reads, PHASE adds its hint, and WAITGE_REACHED finds the group that
waits. -/
theorem waitAndPhaseWords : Obligations.WaitAndPhaseWords := by
  refine ⟨fun s i w0 w1 g h => ⟨fun hw ha v u hv => ?waitge, fun hw => ?phase⟩,
    fun s i g space sd a bound v u hw hg hwait hv hb => ?reached⟩
  case waitge =>
    refine h.completes_plain hw rfl ?_
    simp only [Group.ready_s, ha, hv]
    exact if_congr decide_eq_true_iff rfl rfl
  case phase => exact h.completes_plain hw rfl rfl
  case reached =>
    have found := State.waitReached_of_reached hg hwait hv hb
    refine completes_of_effect (Option.isSome_of_eq_some found) hw rfl ?_
    rw [found]

end Sys2Proof.Machine
end

section
/-!
PROOF. Instructions that enter a queue (06 R208 to R236): those of the matrix engines with the handles of the moment,
those of the tile mover under a number of their own.
-/
namespace Sys2Proof.Machine

/-! ### The queue of a matrix engine (04 R124) -/

/-- An instruction of the group in a slot, with the handle values of the moment. -/
def MatCmd.ofGroup (slot : Nat) (g : Group) (w0 w1 : W64) : MatCmd :=
  let f := tForm w0 w1
  { slot := slot, gtag := g.gtag, pc := g.pc, w0 := w0, w1 := w1, td := g.hn f.td, td2 := g.hn (f.td + 1),
    ta := g.hn f.ta, ta2 := g.hn (f.ta + 1), tb := g.hn f.tb, tb2 := g.hn (f.tb + 1), seed := none,
    started := false, wait := TileWait.fresh, held := none }

theorem State.queueMat_of_room (s : State) (core slot : Nat) (g : Group) (w0 w1 : W64) {e : Nat}
    (he : (s.core core).engineOf (tForm w0 w1).eng = e) (hr : ((s.core core).me e).length < 4) :
    s.queueMat (.group core slot) g w0 w1 =
      (s.retire2 (.group core slot) g).setCore core
        ((s.core core).setMe e ((s.core core).me e ++ [MatCmd.ofGroup slot g w0 w1])) := by
  subst he
  exact if_neg (Nat.not_le.2 hr)

section Matrix
variable {s : State} {core slot : Nat} {g : Group} {w0 w1 : W64} {f : TForm} (ef : tForm w0 w1 = f)
include ef

/-- MMA with suitable handles, a KT within its form's limit and tiles that keep to their placement. -/
theorem State.doMma_queues (h : s.Issues2 (.group core slot) w0 w1 (mmaOps w0 w1) g)
    (hb : mmaBadHandle g.ready w0 w1 = none)
    (hk : f.kt ≤ mmaLimit (fnOf w0) (hFormat (g.hn f.ta)) (hFormat (g.hn f.tb)))
    (hp : misplaced ((if f.ar then [] else [(g.hn f.ta, f.kt + 1)]) ++
      (if fnOf w0 == 4 && !f.ar then [(g.hn (f.ta + 1), f.kt + 1)] else []) ++ [(g.hn f.tb, f.kt + 1)] ++
      (if fnOf w0 == 4 then [(g.hn (f.tb + 1), f.kt + 1)] else [])) = none) :
    s.doMma (.group core slot) w0 w1 = s.queueMat (.group core slot) g.ready w0 w1 := by
  subst ef
  unfold State.doMma
  refine (State.issue2_eq (fun _ => mmaOps w0 w1) _ h).trans ?_
  simp only [hb]
  refine (if_neg (Nat.not_lt.2 hk)).trans ?_
  split
  · next hl => cases hp.symm.trans hl
  · rfl

/-- ACCW with handles that suit it, column blocks within the tile and tiles that keep to their placement. -/
theorem State.doAccw_queues (h : s.Issues2 (.group core slot) w0 w1 (accwOps g.ready w0 w1) g) {x lo : BitVec 128}
    (ex : g.hn f.td = x) (elo : g.hn (f.td + 1) = lo)
    (hx : ¬ (hFormat x == 0 || hFormat x == 4 || hFormat x == 15 || hSpace x != 0 ||
      (hRole x == 1 && f.td == 15)) = true)
    (hlo : ¬ (hRole x == 1 && (hFormat lo != 1 || hRole lo != 2 || hSpace lo != 0)) = true)
    (hk : f.opt % 8 + f.kt + 1 ≤ tileCols (hFormat x) / 32)
    (hp : misplaced ((x, 1) :: (if hRole x == 1 then [(lo, 1)] else [])) = none) :
    s.doAccw (.group core slot) w0 w1 = s.queueMat (.group core slot) g.ready w0 w1 := by
  subst ex elo ef
  unfold State.doAccw
  refine (State.issue2_eq (fun g => accwOps g w0 w1) _ h).trans ?_
  refine (if_neg hx).trans ((if_neg hlo).trans ((if_neg (Nat.not_lt.2 hk)).trans ?_))
  split
  · next hl => cases hp.symm.trans hl
  · rfl

/-- TCVT with handles that suit it, KT as their ratio asks and tiles that keep to their placement. -/
theorem State.doTcvt_queues (h : s.Issues2 (.group core slot) w0 w1 [] g)
    (ha : tcvtHandle (g.hn f.ta) = true) (hd : tcvtHandle (g.hn f.td) = true)
    (hk : f.kt + 1 = tcvtRatio (hFormat (g.hn f.ta)) (hFormat (g.hn f.td)))
    (hp : misplaced [(g.hn f.ta, (tcvtRuns (g.hn f.ta) (g.hn f.td)).1),
      (g.hn f.td, (tcvtRuns (g.hn f.ta) (g.hn f.td)).2)] = none) :
    s.doTcvt (.group core slot) w0 w1 = s.queueMat (.group core slot) g.ready w0 w1 := by
  subst ef
  refine (State.issue2Plain_eq _ h).trans ?_
  refine (if_neg (by rw [Bool.not_eq_true']; exact ne_false_of_eq_true ha)).trans ?_
  refine (if_neg (by rw [Bool.not_eq_true']; exact ne_false_of_eq_true hd)).trans ?_
  refine (if_neg (mt bne_iff_ne.1 (not_not_intro hk))).trans ?_
  extract_lets n
  split
  · next hl => cases hp.symm.trans hl
  · rfl

end Matrix

/-- Settles O22: past its checks each row is the entry in the queue of its engine. -/
theorem matrixWordsQueue : Obligations.MatrixWordsQueue := by
  intro s core slot w0 w1 g f e hroom t ht
  have queued : (s.queueMat (.group core slot) g.ready w0 w1).pins = t :=
    (congrArg State.pins (s.queueMat_of_room core slot g.ready w0 w1 rfl hroom)).trans ht.symm
  rw [← queued]
  refine ⟨fun h hw hb hk hp => completes_of_effect h.1 hw rfl (State.doMma_queues rfl h hb hk hp),
    fun h hw hf0 hf4 hf15 hs hk => ⟨fun hr hp => ?single, fun hr h15 hlo hrole hspace hp => ?pair⟩,
    fun h hw ha hd hk hp => completes_of_effect h.1 hw rfl (State.doTcvt_queues rfl h ha hd hk hp)⟩
  case single =>
    exact completes_of_effect h.1 hw rfl (State.doAccw_queues (f := f) rfl h rfl rfl
      (by simp [hf0, hf4, hf15, hs, hr]) (by simp [hr]) hk (by simpa [hr] using hp))
  case pair =>
    exact completes_of_effect h.1 hw rfl (State.doAccw_queues (f := f) rfl h rfl rfl
      (by simp [hf0, hf4, hf15, hs, h15]) (by simp [hlo, hrole, hspace]) hk (by simpa [hr] using hp))

/-! ### The queue of the tile mover (04 R124) -/

@[simp] theorem State.retire2_core (s : State) (i : Issuer) (g : Group) (c : Nat) :
    (s.retire2 i g).core c = s.core c := by
  simp [State.core, State.retire2]

/-- A command in the queue of a core's tile mover under the next number, and its group past the instruction. -/
def State.enterTm (s : State) (core slot : Nat) (g : Group) (w0 w1 sc : W64) (total : Nat) : State :=
  let u := s.retire2 (.group core slot) g
  let u := { u with co := { u.co with nextCmd := s.co.nextCmd + 1 } }
  u.setCore core { s.core core with tm := (s.core core).tm ++ [mkCmd s.co.nextCmd slot g w0 w1 sc total] }

section Mover
variable {s : State} {core slot : Nat} {g : Group} {w0 w1 : W64} {f : TForm} (ef : tForm w0 w1 = f)

theorem State.queueTm_of_room (hr : (s.core core).room 6 = true) (g : Group) (w0 w1 sc : W64) (total : Nat) :
    s.queueTm (.group core slot) g w0 w1 sc total = s.enterTm core slot g w0 w1 sc total := by
  have kept := s.retire2_core (.group core slot) g core
  have number : (s.retire2 (.group core slot) g).co.nextCmd = s.co.nextCmd := by simp [State.retire2]
  refine (if_neg (by simp [hr])).trans ?_
  rw [State.enterTm, ← kept, ← number]
  rfl

include ef

/-- COPY and TRED past their handles, with a count, strides, a completion word and tiles that the checks pass. -/
theorem State.queueRuns_of_checked {n : Nat} (en : (g.s f.sa).toNat = n) {sc : W64} (hn : 1 ≤ n ∧ n ≤ 4096)
    (hstride : badStride (g.h f.ta) (g.h f.td) (g.s f.sb) sc = none) (hpost : s.postFault g w0 f = none)
    (hsrc : badTile n (mkCmd 0 0 g w0 w1 sc n).src = none) (hdst : badTile n (mkCmd 0 0 g w0 w1 sc n).dst = none)
    (i : Issuer) : s.queueRuns i g w0 w1 sc = s.queueTm i g w0 w1 sc n := by
  subst en ef
  obtain ⟨h1, h4096⟩ := hn
  unfold State.queueRuns
  refine (if_neg (by simp; omega)).trans ?_
  simp only [mkCmd] at hsrc hdst ⊢
  simp only [hstride, hpost, hsrc, hdst, Option.orElse_none]

end Mover

/-- A RANGE of an aligned address and a length above 0 is its entry in the queue: its completion is not posted yet. -/
theorem State.doRange_queues {s : State} {core slot : Nat} {g : Group} {w0 w1 : W64} {f : TForm}
    (ef : tForm w0 w1 = f) (h : s.Issues2 (.group core slot) w0 w1 [] g)
    (ha : (g.s f.sa).toNat % 128 = 0 ∧ (g.s f.sb).toNat % 128 = 0) (hn : (g.s f.sb).toNat ≠ 0)
    (hpost : s.postFault g.ready w0 f = none) :
    s.doRange (.group core slot) w0 w1 =
      s.queueTm (.group core slot) g.ready w0 w1 0 ((g.s f.sb).toNat / 128) := by
  subst ef
  refine (State.issue2Plain_eq _ h).trans ((if_neg (by simp [ha])).trans ?_)
  simp only [hpost]
  split
  · exact if_neg (by simp [hn])
  · rfl

/-- Settles O23: past its checks each row is the entry in the queue of its core's tile mover. -/
theorem moverWordsQueue : Obligations.MoverWordsQueue := by
  refine ⟨?tiles, ?range⟩
  case tiles =>
    intro s core slot w0 w1 g h f n hr queued hq
    have entry (sc : W64) (k : Nat) : (s.queueTm (.group core slot) g.ready w0 w1 sc k).pins = queued sc k := by
      rw [hq, State.queueTm_of_room hr]
      rfl
    refine ⟨fun hw hb h1 hn hstride hpost hsrc hdst => ?copy, fun hw hb h1 hn hstride hpost hsrc hdst => ?tred,
      fun hw ha hd => ?tatom⟩
    case copy =>
      rw [← entry]
      refine h.completes_plain hw rfl ?_
      extract_lets
      split
      · next bad => cases hb.symm.trans bad
      · exact State.queueRuns_of_checked (g := g.ready) rfl rfl ⟨h1, hn⟩ hstride hpost hsrc hdst _
    case tred =>
      rw [← entry]
      refine h.completes_plain hw rfl ?_
      split
      · next bad => cases hb.symm.trans bad
      · exact State.queueRuns_of_checked (g := g.ready) rfl rfl ⟨h1, hn⟩ hstride hpost hsrc hdst _
    case tatom =>
      rw [← entry]
      refine h.completes_plain hw rfl ((if_neg (by simpa using ha)).trans ?_)
      split
      · next bad => cases hd.symm.trans bad
      · rfl
  case range =>
    intro s core slot w0 w1 g c hc hw h f ha hb hn hpost hr
    have queued := (State.doRange_queues (f := f) rfl h ⟨ha, hb⟩ hn hpost).trans
      (State.queueTm_of_room hr _ _ _ _ _)
    rcases hc with rfl | rfl | rfl | rfl <;> exact completes_of_effect h.1 hw rfl queued

end Sys2Proof.Machine
end

section
/-!
PROOF. What the matrix engines and the tile mover do of themselves: attempts start, are abandoned and complete (06 R209,
R210, R215), transfers start and complete (06 R221 to R223, R229), and an engine's limit fences its core (15 R514).
-/
namespace Sys2Proof.Machine

/-- Operands that name a matrix engine of a core. -/
theorem engine_wf {core me : Nat} (hc : core < 256) (hme : me < 4) :
    (decide (core < 256) && decide (me < 4)) = true := by
  simp [hc, hme]

/-! ### The head of an engine's queue (06 R209, R210) -/

section Head
variable {s : State} {core me : Nat} {m : MatCmd} (hm : s.engineHead core me = some m)
include hm

theorem State.doStart_of_head : s.doStart core me = s.setEngineHead core me { m with started := true } := by
  rw [State.doStart, hm]

theorem State.canStart_of_head (hs : m.started = false) (hg : (s.matGroup m).isSome = true) (hi : s.issuing = true)
    (hc : s.coreClocked core = true) : s.canStart core me = true := by
  simp only [State.canStart, hm, hs, hg, hi, hc]
  rfl

/-- Once its result is held, the head has no attempt. -/
theorem State.headAttempt_of_held {h : MatHeld} (hh : m.held = some h) : s.headAttempt core me = none := by
  simp [State.headAttempt, hm, hh]

theorem State.headAttempt_of_gone (hg : s.groupOf m.gtag = none) : s.headAttempt core me = none := by
  simp [State.headAttempt, State.matGroup, hm, hg]

theorem State.headAttempt_of_group (hs : m.started = true) (hh : m.held = none) {i : Issuer} {g : Group}
    (hi : s.groupOf m.gtag = some i) (hg : s.group? i = some g) :
    s.headAttempt core me = some (m, g, s.attempt core g.part m) := by
  simp [State.headAttempt, State.matGroup, hm, hs, hh, hi, hg]

theorem State.canComplete_of_head (hs : m.started = true)
    (ha : (s.headAttempt core me).all (fun x => !x.2.2.dirty) = true) : s.canComplete core me = true := by
  simp only [State.canComplete, hm, hs, ha]
  rfl

theorem State.doEngineComplete_of_held {h : MatHeld} (hh : m.held = some h) :
    s.doEngineComplete core me = s.finishHeld core me m h := by
  simp only [State.doEngineComplete, hm, hh]

theorem State.doEngineComplete_of_gone (hh : m.held = none) (hg : s.groupOf m.gtag = none) :
    s.doEngineComplete core me = s.popEngine core me := by
  simp only [State.doEngineComplete, hm, hh, hg]

/-- A clean attempt: the result that `State.engineResult` gives is written, and the instruction leaves the queue. -/
theorem State.doEngineComplete_of_clean (hh : m.held = none) {i : Issuer} {g : Group} {ts : List TileImage}
    (hi : s.groupOf m.gtag = some i) (hg : s.group? i = some g) (ha : s.attempt core g.part m = .clean ts) :
    s.doEngineComplete core me =
      let r := s.engineResult core me m g ts
      let u := r.2.writeTargets core g.part (matTargets m) r.1.tiles []
      ((u.setGroup i (r.1.g.addFlags r.1.flags)).popEngine core me).retireWork m.gtag := by
  simp only [State.doEngineComplete, hm, hh, hi, hg, ha]

end Head

section Abandon
variable {s : State} {core me : Nat} {m : MatCmd} {g : Group} {a : Attempt}

theorem State.dirty_of_attempt (ha : s.headAttempt core me = some (m, g, a)) (hd : a.dirty = true) :
    (s.headAttempt core me).any (fun x => x.2.2.dirty) = true := by
  rw [ha]
  exact hd

theorem State.doAbandon_of_busy (ha : s.headAttempt core me = some (m, g, .busy)) :
    s.doAbandon core me = s.setEngineHead core me { m with started := false, wait := s.openWait m.wait } := by
  simp only [State.doAbandon, ha]

/-- A mismatch that is the first of its operand at its generation. -/
theorem State.doAbandon_of_mismatch {mark : Nat} {l : TLoc} (ha : s.headAttempt core me = some (m, g, .mismatch mark l))
    (hm : m.wait.mismatch ≠ some mark) :
    s.doAbandon core me =
      s.setEngineHead core me { m with started := false, wait := { m.wait with mismatch := some mark } } := by
  simp only [State.doAbandon, ha]
  exact if_neg (mt beq_iff_eq.1 hm)

end Abandon

/-- Settles O26: the head starts where it can; its attempt is abandoned where it is dirty and completes where it is
not. -/
theorem engineEvents : Obligations.EngineEvents := by
  intro s core me m hc hme hm
  have wf := engine_wf hc hme
  refine ⟨fun hs hg hi hclk => ?start, fun _ g ha => ?busy, fun _ g mark l ha hmark => ?mismatch,
    fun hs h hh => ?held, fun hs hh hgone => ?gone, fun hs hh i g ts hi hg ha => ?clean⟩
  case start =>
    exact completes_of_effect (State.canStart_of_head hm hs hg hi hclk) wf rfl (State.doStart_of_head hm)
  case busy => exact completes_of_effect (State.dirty_of_attempt ha rfl) wf rfl (State.doAbandon_of_busy ha)
  case mismatch =>
    exact completes_of_effect (State.dirty_of_attempt ha rfl) wf rfl (State.doAbandon_of_mismatch ha hmark)
  case held =>
    refine completes_of_effect (State.canComplete_of_head hm hs ?_) wf rfl (State.doEngineComplete_of_held hm hh)
    rw [State.headAttempt_of_held hm hh]
    rfl
  case gone =>
    refine completes_of_effect (State.canComplete_of_head hm hs ?_) wf rfl (State.doEngineComplete_of_gone hm hh hgone)
    rw [State.headAttempt_of_gone hm hgone]
    rfl
  case clean =>
    refine completes_of_effect (State.canComplete_of_head hm hs ?_) wf rfl
      (State.doEngineComplete_of_clean hm hh hi hg ha)
    rw [State.headAttempt_of_group hm hs hh hi hg, ha]
    rfl

/-! ### Transfers (06 R221 to R223, R229) -/

section Start
variable {s : State} {core : Nat}

theorem State.doTransferStart_of_held {c : TmCmd} {x : Xfer} (h : s.heldTatom core = some (c, x)) :
    s.doTransferStart core = s.openXfer core c x := by
  simp only [State.doTransferStart, h]

variable (h : s.heldTatom core = none) {c : TmCmd} (hc : s.nextTm core = some c)
include h hc

theorem State.doTransferStart_of_empty (ht : c.total = 0) : s.doTransferStart core = s.postCommand core c := by
  simp only [State.doTransferStart, h, hc, ht]
  rfl

/-- The next transfer of a command that has begun and whose tiles draw nothing. -/
theorem State.doTransferStart_of_begun (ht : c.total ≠ 0) (hd : c.tileDraws = 0) (hb : c.begun = true) :
    s.doTransferStart core =
      let x : Xfer := ⟨c.cursor, .reading, TileWait.fresh, c.draws, c.used, false⟩
      let d := { c with cursor := c.cursor + 1, xfers := c.xfers ++ [x] }
      let u := (s.setTm core d).openXfer core d x
      u.setCore core (drainTmSeeds (u.core core) (u.core core).tm) := by
  have begun : s.beginTm core c = (c, s) := if_pos hb
  simp only [State.doTransferStart, h, hc, begun, hd]
  exact if_neg (mt beq_iff_eq.1 ht)

end Start

section Finish
variable {s : State} {core cmd idx : Nat} {c : TmCmd}

theorem State.canFinish_of_posting (hx : s.xfer core cmd idx = none) (hc : s.tmCmd core cmd = some c)
    (hp : s.postable core c = true) : s.canFinish core cmd idx = true := by
  simp [State.canFinish, hx, hc, hp]

theorem State.doFinish_of_posting (hx : s.xfer core cmd idx = none) (hc : s.tmCmd core cmd = some c)
    (hp : s.postable core c = true) : s.doFinish core cmd idx = s.postCommand core c := by
  have kept : (s.tmCmd core cmd).filter (s.postable core) = some c := by
    rw [hc]
    exact if_pos hp
  simp only [State.doFinish, hx, kept]
  rfl

variable {x : Xfer} (h : s.xfer core cmd idx = some (c, x))
include h

/-- A transfer that has landed, or whose destination is being written, can end, unless it is a far atomic. -/
theorem State.canFinish_of_stage (hc : classOf c.w0 ≠ some .tatom)
    (hx : x.stage = .landed ∨ ∃ w p sc, x.stage = .writing w p sc) : s.canFinish core cmd idx = true := by
  simp only [State.canFinish, h]
  split
  case h_1 | h_4 | h_5 | h_6 | h_7 | h_8 => rfl
  case h_2 hk _ => exact absurd hk hc
  case h_3 hr => simp [hr] at hx
  case h_9 _ hw hl _ _ _ _ _ => exact (hx.elim hl fun ⟨w, p, sc, hx⟩ => hw w p sc hx).elim

/-- A far atomic can end once its old value has come. -/
theorem State.canFinish_of_read (hc : classOf c.w0 = some .tatom) {old : W64} {p sc : List Byte}
    (hx : x.stage = .read old p sc) : s.canFinish core cmd idx = true := by
  simp only [State.canFinish, h, hc, hx]

theorem State.doFinish_of_landed (hx : x.stage = .landed) : s.doFinish core cmd idx = s.endXfer core cmd idx := by
  simp only [State.doFinish, h, hx]

theorem State.doFinish_of_read {old : W64} {p sc : List Byte} (hx : x.stage = .read old p sc) :
    s.doFinish core cmd idx =
      (s.localWrite core c.part c.sd.toNat (leBytes 8 old.toNat)).endXfer core cmd idx := by
  simp only [State.doFinish, h, hx]

theorem State.doFinish_of_writing {w : W64} {p sc : List Byte} (hx : x.stage = .writing w p sc) {l : TLoc} {u : State}
    (hl : s.siteOf c.part (c.dst x.idx) .copyDestination = .ok (.here l))
    (hu : s.finishTile core c.part l w p sc .copyDestination = .ok u) :
    s.doFinish core cmd idx = u.endXfer core cmd idx := by
  simp only [State.doFinish, h, hx, hl, hu]

end Finish

/-- Settles O28: a transfer starts as the mover's queue gives it, and ends as its stage says; the limit of an engine's
instruction fences the core. -/
theorem transferEvents : Obligations.TransferEvents := by
  intro s core hc
  have wf : decide (core < 256) = true := decide_eq_true hc
  refine ⟨fun can c x hh => ?held, fun can hh c hn ht => ?empty, fun can hh c hn ht hd hb => ?begun,
    fun cmd idx c x h =>
      ⟨fun hx hk => ?landed, fun old p sc hx hk => ?read, fun w p sc l u hx hk hl hu => ?writing⟩,
    fun cmd idx c hx hn hp => ?posting, fun me m hme hm hs hsafe hcore => ?timeout⟩
  case held => exact completes_of_effect can wf rfl (State.doTransferStart_of_held hh)
  case empty => exact completes_of_effect can wf rfl (State.doTransferStart_of_empty hh hn ht)
  case begun => exact completes_of_effect can wf rfl (State.doTransferStart_of_begun hh hn ht hd hb)
  case landed =>
    exact completes_of_effect (State.canFinish_of_stage h hk (.inl hx)) wf rfl (State.doFinish_of_landed h hx)
  case read => exact completes_of_effect (State.canFinish_of_read h hk hx) wf rfl (State.doFinish_of_read h hx)
  case writing =>
    exact completes_of_effect (State.canFinish_of_stage h hk (.inr ⟨w, p, sc, hx⟩)) wf rfl
      (State.doFinish_of_writing h hx hl hu)
  case posting =>
    exact completes_of_effect (State.canFinish_of_posting hx hn hp) wf rfl (State.doFinish_of_posting hx hn hp)
  case timeout => exact completes_of_effect (by simp [hm, hs, hsafe, hcore]) (engine_wf hc hme) rfl rfl

end Sys2Proof.Machine
end

section
/-!
PROOF. The life of a region's VALID bit (07 R247 to R249; 09 R316): what the write of a descriptor, the drain and the
zero-fill leave in the descriptor, the list of operations and the memory.
-/
namespace Sys2Proof.Machine

/-! ### One-bit fields -/

theorem State.b_setF_self (s : State) (x : Fld) (i v : Nat) (h : x.lo + x.n ≤ 32) :
    (s.setF x i v).b x i = (v % 2 ^ x.n == 1) := by
  rw [State.b, State.f_setF_self s x i v h]

/-- Another field of the same word. -/
theorem State.b_setF_field (s : State) {x y : Fld} (i v : Nat) (h : x.lo + x.n ≤ 32) (hr : y.reg = x.reg)
    (hd : y.lo + y.n ≤ x.lo ∨ x.lo + x.n ≤ y.lo) : (s.setF x i v).b y i = s.b y i := by
  rw [State.b, State.f_setF_field s i v h hr hd, State.b]

/-- FILLING is no part of VALID. -/
theorem State.b_VALID_setF_FILLING (s : State) (n v : Nat) :
    (s.setF F.llmRgnDesc_FILLING n v).b F.llmRgnDesc_VALID n = s.b F.llmRgnDesc_VALID n :=
  s.b_setF_field n v (by decide) (by decide) (by decide)

/-! ### The record of the HBM subsystem -/

theorem State.b_withHbm (s : State) (h : HbmState) (x : Fld) (i : Nat) :
    ({ s with hbm := h } : State).b x i = s.b x i := rfl

theorem State.mem_withHbm (s : State) (h : HbmState) : ({ s with hbm := h } : State).mem = s.mem := rfl

/-! ### The Ploro tables (16 R551): of the state, an update changes their generations alone -/

theorem State.ploro_keeps {α : Sort _} (p : State → α) (hp : ∀ (s : State) ras, p { s with ras := ras } = p s)
    (s : State) (parts : List Nat) : p (s.ploro parts) = p s := by
  refine List.foldlRecOn (motive := fun t => p t = p s) _ _ rfl fun t ht k _ => ?_
  split
  · exact (hp t _).trans ht
  · exact ht

theorem State.noteRegion_keeps {α : Sort _} (p : State → α)
    (hp : ∀ (s : State) ras, p { s with ras := ras } = p s) (s t : State) (n : Nat) : p (s.noteRegion t n) = p t := by
  unfold State.noteRegion
  split
  · rfl
  · exact State.ploro_keeps p hp t _

@[simp] theorem State.noteRegion_hbm (s t : State) (n : Nat) : (s.noteRegion t n).hbm = t.hbm :=
  State.noteRegion_keeps State.hbm (fun _ _ => rfl) s t n

@[simp] theorem State.noteRegion_mem (s t : State) (n : Nat) : (s.noteRegion t n).mem = t.mem :=
  State.noteRegion_keeps State.mem (fun _ _ => rfl) s t n

@[simp] theorem State.noteRegion_b (s t : State) (n : Nat) (x : Fld) (i : Nat) : (s.noteRegion t n).b x i = t.b x i :=
  State.noteRegion_keeps (fun u => u.b x i) (fun _ _ => rfl) s t n

/-! ### Dropping lines leaves the operations of the HBM subsystem alone -/

@[simp] theorem State.recordPoison_hbm (s : State) (line cause agent : Nat) :
    (s.recordPoison line cause agent).hbm = s.hbm := by
  unfold State.recordPoison
  dsimp only
  rw [State.setF_hbm, State.setF_hbm, State.setF_hbm, State.setPair_hbm]
  split
  · exact s.setF_hbm _ _ _
  · rfl

@[simp] theorem State.poisonLine_hbm (s : State) (line cause agent : Nat) :
    (s.poisonLine line cause agent).hbm = s.hbm := by
  unfold State.poisonLine State.poisonMem
  rw [State.recordPoison_hbm]
  dsimp only
  split <;> rfl

@[simp] theorem State.writeMemLine_hbm (s : State) (line : Nat) (d : List Byte) :
    (s.writeMemLine line d).hbm = s.hbm := by
  unfold State.writeMemLine
  dsimp only
  split
  case h_1 | h_3 => rfl
  case h_2 part a _ =>
    refine List.foldlRecOn (motive := fun t : State => t.hbm = s.hbm) _ _ rfl fun (t : State) ht e _ => ?_
    split <;> exact ht

@[simp] theorem State.putHome_hbm (s : State) (line : Nat) (d : List Byte) : (s.putHome line d).hbm = s.hbm := by
  unfold State.putHome
  split
  · rfl
  · exact s.writeMemLine_hbm line d

@[simp] theorem State.surrender_hbm (s : State) (core line : Nat) (keepData : Bool) :
    (s.surrender core line keepData).hbm = s.hbm := by
  unfold State.surrender
  dsimp only
  split
  · split
    · split
      · exact State.putHome_hbm _ _ _
      · rfl
    · rfl
  · rfl

@[simp] theorem State.recallAll_hbm (s : State) (line : Nat) (keepData : Bool) :
    (s.recallAll line keepData).hbm = s.hbm := by
  unfold State.recallAll
  split
  · rfl
  · next e _ =>
    extract_lets lost s1 s2
    have recalled : s2.hbm = s.hbm := by
      refine List.foldlRecOn (motive := fun t : State => t.hbm = s.hbm) _ _ rfl fun t ht i _ => ?_
      split
      · rwa [State.surrender_hbm]
      · exact ht
    split
    · rwa [State.poisonLine_hbm]
    · exact recalled

@[simp] theorem State.dropSlot_hbm (s : State) (k : Nat) (writeBack : Bool) :
    (s.dropSlot k writeBack).hbm = s.hbm := by
  unfold State.dropSlot
  split
  · rfl
  · dsimp only
    split
    · split
      · exact State.writeMemLine_hbm _ _ _
      · rfl
    · rfl

@[simp] theorem State.dropLine_hbm (s : State) (line : Nat) (writeBack : Bool) :
    (s.dropLine line writeBack).hbm = s.hbm := by
  unfold State.dropLine
  extract_lets t u
  have hu : u.hbm = s.hbm := by
    simp only [u]
    split <;> simp [t]
  split <;> exact hu

@[simp] theorem State.dropRegion_hbm (s : State) (n : Nat) (writeBack : Bool) :
    (s.dropRegion n writeBack).hbm = s.hbm :=
  List.foldlRecOn (motive := fun t : State => t.hbm = s.hbm) _ _ rfl fun t ht l _ =>
    (t.dropLine_hbm l writeBack).trans ht

/-! ### A write of a descriptor (07 R247, R248) -/

/-- A descriptor after a write of all but its VALID bit (07 R247). -/
def State.writeLayout (s : State) (n : Nat) (v : W32) : State :=
  let old := s.rget .llmRgnDesc n
  let held := s.held .llmRgnDesc n || !descLegal v
  let t := s.rset .llmRgnDesc n (withBits (Reg.llmRgnDesc.written held old v) 0 1 (bitsOf old 0 1))
  if held && Reg.llmRgnDesc.touches old v then t.ignored .llmRgnDesc n else t

theorem State.writeDesc_eq (s : State) (n : Nat) (v : W32) :
    s.writeDesc n v = s.noteRegion ((s.writeLayout n v).writeValid n (bitsOf v 0 1 == 1)) n := rfl

/-- A refused write shows in WI alone (16 R543). -/
theorem State.b_ignored_desc (s : State) {x : Fld} (n : Nat) (hr : x.reg = .llmRgnDesc) (hx : x.lo + x.n ≤ 31) :
    (s.ignored .llmRgnDesc n).b x n = s.b x n :=
  s.b_setF_field (x := F.llmRgnDesc_WI) n 1 (by decide) hr (.inl hx)

theorem State.b_writeLayout_VALID (s : State) (n : Nat) (v : W32) :
    (s.writeLayout n v).b F.llmRgnDesc_VALID n = s.b F.llmRgnDesc_VALID n := by
  have kept (w : W32) : (s.rset .llmRgnDesc n (withBits w 0 1 (bitsOf (s.rget .llmRgnDesc n) 0 1))).b
      F.llmRgnDesc_VALID n = s.b F.llmRgnDesc_VALID n := by
    simp only [State.b, State.f, F.llmRgnDesc_VALID, State.rget_rset_self]
    rw [bitsOf_withBits_bitsOf _ _ (by decide)]
  unfold State.writeLayout
  dsimp only
  split
  · exact (State.b_ignored_desc _ n rfl (by decide)).trans (kept _)
  · exact kept _

theorem State.b_writeLayout_FILLING (s : State) (n : Nat) (v : W32) :
    (s.writeLayout n v).b F.llmRgnDesc_FILLING n = s.b F.llmRgnDesc_FILLING n := by
  have kept (held : Bool) (b : Nat) : (s.rset .llmRgnDesc n
      (withBits (Reg.llmRgnDesc.written held (s.rget .llmRgnDesc n) v) 0 1 b)).b F.llmRgnDesc_FILLING n =
        s.b F.llmRgnDesc_FILLING n := by
    have readOnly : (⟨22, 1, .ro, 0⟩ : RField) ∈ Reg.llmRgnDesc.info.fields := by decide
    simp only [State.b, State.f, F.llmRgnDesc_FILLING, State.rget_rset_self]
    rw [bitsOf_withBits_other _ _ (by decide) (by decide)]
    exact congrArg (· == 1) (Reg.bitsOf_written _ held _ v readOnly)
  unfold State.writeLayout
  dsimp only
  split
  · exact (State.b_ignored_desc _ n rfl (by decide)).trans (kept _ _)
  · exact kept _ _

/-- VALID 0 written to a region at rest starts its drain (07 R248). -/
theorem State.writeValid_drains {s : State} {n : Nat} (hv : s.b F.llmRgnDesc_VALID n = true)
    (hf : s.b F.llmRgnDesc_FILLING n = false) :
    s.writeValid n false =
      { s with hbm := { s.hbm with drains := n :: s.hbm.drains } }.setF F.llmRgnDesc_FILLING n 1 := by
  simp [State.writeValid, hv, hf]

theorem State.writeDesc_drains {s : State} {n : Nat} {v : W32} (h0 : bitsOf v 0 1 = 0)
    (hv : s.b F.llmRgnDesc_VALID n = true) (hf : s.b F.llmRgnDesc_FILLING n = false) :
    (s.writeDesc n v).b F.llmRgnDesc_FILLING n = true ∧ n ∈ (s.writeDesc n v).hbm.drains := by
  have zero : (bitsOf v 0 1 == 1) = false := by rw [h0]; rfl
  rw [State.writeDesc_eq, zero, State.writeValid_drains ((s.b_writeLayout_VALID n v).trans hv)
    ((s.b_writeLayout_FILLING n v).trans hf)]
  constructor
  · rw [State.noteRegion_b, State.b_setF_self _ _ _ _ (by decide)]; rfl
  · simp

/-! ### VALID 1 carried out (07 R249) -/

section Enable
variable {s : State} {n : Nat}

theorem State.enableRegion_again (h : s.oldAllotFits n = true) :
    s.enableRegion n = (s.setF F.llmRgnDesc_VALID n 1).setF F.llmRgnDesc_FILLING n 0 := by
  rw [State.enableRegion, if_pos h]

theorem State.enableRegion_full (h : s.oldAllotFits n = false) (hn : s.newAllot n = none) :
    s.enableRegion n = (s.setF F.llmRgnDesc_NOSPACE n 1).setF F.llmRgnDesc_FILLING n 0 := by
  rw [State.enableRegion, h, hn]; rfl

theorem State.enableRegion_fills (h : s.oldAllotFits n = false) {a : Allot} (hn : s.newAllot n = some a) :
    s.enableRegion n = { s with hbm := { s.hbm with
      allot := SMap.put (s.forgetOverlaps n a) n a
      fills := n :: s.hbm.fills } }.setF F.llmRgnDesc_FILLING n 1 := by
  rw [State.enableRegion, h, hn]; rfl

end Enable

/-! ### The ends of a drain and a zero-fill (07 R248; 09 R316) -/

section Ends
variable {s : State} {n : Nat}

/-- No destruction waits for a region. -/
theorem State.regionIdle_of_none (h : s.hbm.destroying = []) : s.regionIdle n = s := by
  rw [State.regionIdle, h]; rfl

/-- A region out of use, its drain off the list: what a drain whose lines are gone leaves. -/
def State.closeDrain (s : State) (n : Nat) : State :=
  let t := (s.setF F.llmRgnDesc_VALID n 0).setF F.llmRgnDesc_FILLING n 0
  { t with hbm := { t.hbm with drains := t.hbm.drains.filter (· != n) } }

theorem State.b_closeDrain_VALID : (s.closeDrain n).b F.llmRgnDesc_VALID n = false := by
  rw [State.closeDrain, State.b_withHbm, State.b_VALID_setF_FILLING, State.b_setF_self _ _ _ _ (by decide)]
  rfl

theorem State.b_closeDrain_FILLING : (s.closeDrain n).b F.llmRgnDesc_FILLING n = false := by
  rw [State.closeDrain, State.b_withHbm, State.b_setF_self _ _ _ _ (by decide)]
  rfl

theorem State.closeDrain_destroying : (s.closeDrain n).hbm.destroying = s.hbm.destroying := by
  rw [State.closeDrain, State.setF_hbm, State.setF_hbm]

theorem State.not_mem_closeDrain : n ∉ (s.closeDrain n).hbm.drains := by
  rw [State.closeDrain, State.setF_hbm, State.setF_hbm]
  simp

theorem State.endDrain_eq (h : s.hbm.destroying = []) :
    s.endDrain n = s.noteRegion ((s.dropRegion n true).closeDrain n) n := by
  have idle : ((s.dropRegion n true).closeDrain n).hbm.destroying = [] := by
    rwa [State.closeDrain_destroying, State.dropRegion_hbm]
  rw [← State.regionIdle_of_none (n := n) idle, State.endDrain, State.closeDrain]

/-- A region valid, its zero-fill off the list: what a zero-fill that ran to its end leaves. -/
def State.closeFill (s : State) (n : Nat) : State :=
  ({ s with hbm := { s.hbm with fills := s.hbm.fills.filter (· != n) } }.setF F.llmRgnDesc_VALID n 1).setF
    F.llmRgnDesc_FILLING n 0

theorem State.b_closeFill_VALID : (s.closeFill n).b F.llmRgnDesc_VALID n = true := by
  rw [State.closeFill, State.b_VALID_setF_FILLING, State.b_setF_self _ _ _ _ (by decide)]
  rfl

theorem State.b_closeFill_FILLING : (s.closeFill n).b F.llmRgnDesc_FILLING n = false := by
  rw [State.closeFill, State.b_setF_self _ _ _ _ (by decide)]
  rfl

theorem State.closeFill_destroying : (s.closeFill n).hbm.destroying = s.hbm.destroying := by
  rw [State.closeFill, State.setF_hbm, State.setF_hbm]

theorem State.closeFill_mem : (s.closeFill n).mem = s.mem := by
  rw [State.closeFill, State.setF_mem, State.setF_mem, State.mem_withHbm]

theorem State.not_mem_closeFill : n ∉ (s.closeFill n).hbm.fills := by
  rw [State.closeFill, State.setF_hbm, State.setF_hbm]
  simp

theorem State.zeroRegion_hbm : (s.zeroRegion n).hbm = s.hbm := rfl

theorem State.endFill_eq (h : s.hbm.destroying = []) (hw : s.hbm.wiping.contains n = false) :
    s.endFill n = s.noteRegion ((s.zeroRegion n).closeFill n) n := by
  have idle : ((s.zeroRegion n).closeFill n).hbm.destroying = [] := by
    rwa [State.closeFill_destroying, State.zeroRegion_hbm]
  rw [← State.regionIdle_of_none (n := n) idle, State.endFill, hw, State.closeFill]
  simp only [Bool.false_eq_true, if_false]

theorem State.read_zeroRegion {a : Nat} (hl : n * 2 ^ 30 ≤ a) (hu : a < (n + 1) * 2 ^ 30) :
    Memory.read (s.zeroRegion n).mem.hbm a = 0 :=
  (Memory.read_clear s.mem.hbm _ _ a).trans (if_pos ⟨hl, by omega⟩)

end Ends

/-- Settles O30: a write of VALID 0 starts the drain whatever else it carries, VALID 1 has the three outcomes of the
allotment, and where no destruction waits each operation ends in the descriptor it leaves. -/
theorem regionLife : Obligations.RegionLife := by
  refine ⟨fun s n v hn => ⟨fun h0 hv hf => ?disable, fun h1 => ?enable, fun hold => ?again, fun hold hnew => ?full,
    fun hold a hnew => ?fills⟩, fun s n hn hd => ⟨fun hc hm hq => ?drain, fun hc hw => ?fill⟩⟩
  case disable =>
    exact ⟨_, completes_of_effect (by simp [h0]) (decide_eq_true hn) rfl rfl, State.writeDesc_drains h0 hv hf⟩
  case enable => exact completes_of_effect (by simp [h1]) (decide_eq_true hn) rfl rfl
  case again =>
    rw [State.enableRegion_again hold, State.b_VALID_setF_FILLING, State.b_setF_self _ _ _ _ (by decide),
      State.b_setF_self _ _ _ _ (by decide)]
    exact ⟨rfl, rfl⟩
  case full =>
    rw [State.enableRegion_full hold hnew, State.b_VALID_setF_FILLING,
      State.b_setF_field _ _ _ (by decide) (by decide) (by decide), State.b_setF_self _ _ _ _ (by decide),
      State.b_setF_field _ _ _ (by decide) (by decide) (by decide)]
    exact ⟨rfl, rfl⟩
  case fills =>
    rw [State.enableRegion_fills hold hnew, State.b_setF_self _ _ _ _ (by decide)]
    exact ⟨rfl, by simp⟩
  case drain =>
    refine ⟨_, completes_of_effect (by rw [hc, hm, hq]; rfl) (decide_eq_true hn) rfl (State.endDrain_eq hd), ?_⟩
    rw [State.pins_b, State.pins_b, State.pins_hbm, State.noteRegion_b, State.noteRegion_b, State.noteRegion_hbm]
    exact ⟨State.b_closeDrain_VALID, State.b_closeDrain_FILLING, State.not_mem_closeDrain⟩
  case fill =>
    refine ⟨_, completes_of_effect hc (decide_eq_true hn) rfl (State.endFill_eq hd hw), ?_⟩
    rw [State.pins_b, State.pins_b, State.pins_hbm, State.pins_mem, State.noteRegion_b, State.noteRegion_b,
      State.noteRegion_hbm, State.noteRegion_mem, State.closeFill_mem]
    exact ⟨State.b_closeFill_VALID, State.b_closeFill_FILLING, State.not_mem_closeFill,
      fun a hl hu => State.read_zeroRegion hl hu⟩

end Sys2Proof.Machine
end

section
/-!
PROOF. The word of a slice way (08 R276, R300): what a write that is taken, one that waits for the way's lines and one
that is ignored leave in the word, and the word that a way takes in the end.
-/
namespace Sys2Proof.Machine

/-! ### Fields within a run of bits -/

/-- A field within the bits written at 0 is the one of the value. -/
theorem bitsOf_withBits_within (w : W32) {n lo n' : Nat} (v : Nat) (h : n ≤ 32) (hi : lo + n' ≤ n) :
    bitsOf (withBits w 0 n v) lo n' = v / 2 ^ lo % 2 ^ n' := by
  refine Nat.eq_of_testBit_eq fun i => ?_
  rw [bitsOf, Nat.testBit_mod_two_pow, Nat.testBit_mod_two_pow, Nat.testBit_div_two_pow, Nat.testBit_div_two_pow,
    withBits_testBit w v (by omega)]
  by_cases hn : i < n'
  · rw [if_neg (by omega), if_pos (by omega), Nat.sub_zero]
  · simp [hn]

theorem bitsOf_zero_within (w : W32) {n lo n' : Nat} (hi : lo + n' ≤ n) :
    bitsOf w 0 n / 2 ^ lo % 2 ^ n' = bitsOf w lo n' := by
  refine Nat.eq_of_testBit_eq fun i => ?_
  simp only [bitsOf, Nat.testBit_mod_two_pow, Nat.testBit_div_two_pow, pow_zero, Nat.div_one]
  by_cases hn : i < n'
  · simp [hn, show i + lo < n by omega]
  · simp [hn]

/-! ### The record of the memories -/

theorem State.f_withMem (s : State) (m : MemState) (x : Fld) (i : Nat) :
    ({ s with mem := m } : State).f x i = s.f x i := rfl

/-! ### A write that changes one word -/

section Same
variable {s t : State} {p : Reg → Nat → Prop}

theorem State.SameBut.refl (s : State) (p : Reg → Nat → Prop) : s.SameBut s p :=
  ⟨rfl, rfl, ⟨rfl, rfl, rfl, rfl, rfl, rfl, rfl, rfl, rfl, rfl, rfl, rfl, rfl⟩, fun _ _ _ _ => rfl⟩

/-- A field of a word that may change. -/
theorem State.SameBut.setF (h : s.SameBut t p) {x : Fld} {i : Nat} (v : Nat) (hi : i < 2 ^ 24) (hp : p x.reg i) :
    s.SameBut (t.setF x i v) p := by
  obtain ⟨hco, hviews, hrest, hregs⟩ := h
  refine ⟨hco, hviews, hrest, fun r j hj hn => (t.rget_rset_ne _ hi hj ?_).trans (hregs r j hj hn)⟩
  by_contra! hx
  obtain ⟨rfl, rfl⟩ := hx
  exact hn hp

theorem State.SameBut.pins (h : s.SameBut t p) : s.SameBut t.pins p := h

end Same

/-! ### The word that a way takes -/

/-- The bits of a word that a way keeps: NIDX in SCRATCH mode alone. -/
def wayBits (v : W32) : Nat := if bitsOf v 0 2 == 2 then bitsOf v 0 21 else bitsOf v 0 8

theorem wayBits_low (v : W32) {lo n : Nat} (h : lo + n ≤ 8) : wayBits v / 2 ^ lo % 2 ^ n = bitsOf v lo n := by
  unfold wayBits
  split
  · exact bitsOf_zero_within v (by omega)
  · exact bitsOf_zero_within v h

theorem wayBits_NIDX (v : W32) : wayBits v / 2 ^ 8 % 2 ^ 13 = if bitsOf v 0 2 = 2 then bitsOf v 8 13 else 0 := by
  unfold wayBits
  by_cases h : bitsOf v 0 2 = 2
  · simp only [h, BEq.rfl, if_true]
    exact bitsOf_zero_within v (by decide)
  · have below : bitsOf v 0 8 < 2 ^ 8 := bitsOf_lt v 0 8
    simp only [h, beq_iff_eq, if_false]
    omega

section Word
variable {s : State} {w : Nat} {v : W32}

theorem State.rget_takeWay :
    (s.takeWay w v).rget .sliceWay w = withBits (withBits (s.rget .sliceWay w) 0 21 (wayBits v)) 30 1 0 := by
  unfold State.takeWay
  rw [State.ploro_keeps (fun t => t.rget .sliceWay w) (fun _ _ => rfl)]
  simp only [State.setF, F.sliceWay_BUSY, State.rget_rset_self]
  rfl

/-- A field of MODE, OWNER or NIDX comes from the bits taken. -/
theorem State.f_takeWay {x : Fld} (hr : x.reg = .sliceWay) (hx : x.lo + x.n ≤ 21) :
    (s.takeWay w v).f x w = wayBits v / 2 ^ x.lo % 2 ^ x.n := by
  rw [State.f, hr, State.rget_takeWay, bitsOf_withBits_other _ _ (by decide) (.inl (by omega)),
    bitsOf_withBits_within _ _ (by decide) hx]

theorem State.f_takeWay_MODE : (s.takeWay w v).f F.sliceWay_MODE w = bitsOf v 0 2 :=
  (State.f_takeWay rfl (by decide)).trans (wayBits_low v (by decide))

theorem State.f_takeWay_OWNER : (s.takeWay w v).f F.sliceWay_OWNER w = bitsOf v 2 6 :=
  (State.f_takeWay rfl (by decide)).trans (wayBits_low v (by decide))

theorem State.f_takeWay_NIDX :
    (s.takeWay w v).f F.sliceWay_NIDX w = if bitsOf v 0 2 = 2 then bitsOf v 8 13 else 0 :=
  (State.f_takeWay rfl (by decide)).trans (wayBits_NIDX v)

theorem State.b_takeWay_BUSY : (s.takeWay w v).b F.sliceWay_BUSY w = false := by
  simp only [State.b, State.f, F.sliceWay_BUSY, State.rget_takeWay]
  rw [bitsOf_withBits_self _ _ (by decide)]
  rfl

/-! ### A write of the word -/

/-- WI as a write of its own word leaves it: a 1 clears it. -/
def State.clearWayWi (s : State) (w : Nat) (v : W32) : State :=
  s.setF F.sliceWay_WI w (bitsOf (s.rget .sliceWay w &&& ~~~v) 31 1)

/-- WI is no part of the bits below it. -/
theorem State.bitsOf_setF_WI {lo n x : Nat} (h : lo + n ≤ 31) :
    bitsOf ((s.setF F.sliceWay_WI w x).rget .sliceWay w) lo n = bitsOf (s.rget .sliceWay w) lo n := by
  simp only [State.setF, F.sliceWay_WI, State.rget_rset_self]
  exact bitsOf_withBits_other _ _ (by decide) (.inl h)

theorem State.bitsOf_clearWayWi {lo n : Nat} (h : lo + n ≤ 31) :
    bitsOf ((s.clearWayWi w v).rget .sliceWay w) lo n = bitsOf (s.rget .sliceWay w) lo n := State.bitsOf_setF_WI h

/-- A word that waits for its way's lines: it is kept, and the way is BUSY. -/
def State.awaitWay (s : State) (w : Nat) (v : W32) : State :=
  { s with mem := { s.mem with reassign := SMap.put s.mem.reassign w v } }.setF F.sliceWay_BUSY w 1

theorem State.b_awaitWay_BUSY : (s.awaitWay w v).b F.sliceWay_BUSY w = true := by
  rw [State.awaitWay, State.b_setF_self _ _ _ _ (by decide)]
  rfl

theorem State.f_awaitWay_MODE : (s.awaitWay w v).f F.sliceWay_MODE w = s.f F.sliceWay_MODE w := by
  rw [State.awaitWay, State.f_setF_field _ _ _ (by decide) (by decide) (by decide), State.f_withMem]

theorem State.find_reassign_awaitWay : SMap.find (s.awaitWay w v).mem.reassign w = some v :=
  SMap.find_put_self _ _ _

theorem State.canOwn_of {p : Nat} (h : p = 0 ∨ s.b F.partCfg_ENABLE p = true) : s.canOwn p = true := by
  rcases h with h | h <;> simp [State.canOwn, h]

theorem State.not_canOwn {p : Nat} (h : p ≠ 0) (hb : s.b F.partCfg_ENABLE p = false) : s.canOwn p = false := by
  simp [State.canOwn, h, hb]

theorem State.writeWay_ignored (h : s.b F.sliceWay_BUSY w = true ∨ bitsOf v 0 2 = 3 ∨ s.canOwn (bitsOf v 2 6) = false) :
    s.writeWay w v = (s.clearWayWi w v).setF F.sliceWay_WI w 1 := by
  refine if_pos ?_
  rcases h with h | h | h
  · exact Bool.or_eq_true_iff.2 (.inl (Bool.or_eq_true_iff.2 (.inl h)))
  · simp [h]
  · simp [h]

section Allowed
variable (hb : s.b F.sliceWay_BUSY w = false) (hm : bitsOf v 0 2 ≠ 3) (ho : s.canOwn (bitsOf v 2 6) = true)
include hb hm ho

theorem State.writeWay_allowed :
    s.writeWay w v =
      if s.f F.sliceWay_MODE w == 1 && bitsOf (s.rget .sliceWay w) 0 8 != bitsOf v 0 8 then
        (s.clearWayWi w v).awaitWay w v
      else (s.clearWayWi w v).takeWay w v := by
  refine if_neg ?_
  have free : (bitsOf (s.rget .sliceWay w) 30 1 == 1) = false := hb
  simp [free, hm, ho]

theorem State.writeWay_takes (h : s.f F.sliceWay_MODE w ≠ 1 ∨ bitsOf (s.rget .sliceWay w) 0 8 = bitsOf v 0 8) :
    s.writeWay w v = (s.clearWayWi w v).takeWay w v := by
  rw [State.writeWay_allowed hb hm ho]
  refine if_neg ?_
  rcases h with h | h <;> simp [h]

theorem State.writeWay_waits (hc : s.f F.sliceWay_MODE w = 1) (h : bitsOf (s.rget .sliceWay w) 0 8 ≠ bitsOf v 0 8) :
    s.writeWay w v = (s.clearWayWi w v).awaitWay w v := by
  rw [State.writeWay_allowed hb hm ho]
  exact if_pos (by simp [hc, h])

end Allowed

end Word

theorem way_wf {slice way : Nat} (hs : slice < 512) (hw : way < 16) :
    (decide (slice < 512) && decide (way < 16)) = true := by simp [hs, hw]

theorem State.endReassign_eq {s : State} {w : Nat} {v : W32} (h : SMap.find s.mem.reassign w = some v) :
    s.endReassign w = { s with mem := { s.mem with reassign := SMap.drop s.mem.reassign w } }.takeWay w v := by
  rw [State.endReassign, h]

/-- Settles O31: the write is ignored, waits with BUSY set or gives the way its word, as its premises say, and the end
of the wait gives the way the word that waited. -/
theorem wayWords : Obligations.WayWords := by
  intro s slice way v hs hw w
  have hw24 : w < 2 ^ 24 := by omega
  refine ⟨by rfl, fun hb hm ho => ⟨fun h => ?takes, fun hc h => ?waits⟩, fun h => ?ignored, fun hf hl => ?ends⟩
  case takes =>
    refine ⟨_, completes_of_effect rfl (way_wf hs hw) rfl (State.writeWay_takes hb hm (State.canOwn_of ho) h), ?_⟩
    rw [State.pins_f, State.pins_f, State.pins_f, State.pins_b]
    exact ⟨State.f_takeWay_MODE, State.f_takeWay_OWNER, State.f_takeWay_NIDX, State.b_takeWay_BUSY⟩
  case waits =>
    refine ⟨_, completes_of_effect rfl (way_wf hs hw) rfl (State.writeWay_waits hb hm (State.canOwn_of ho) hc h), ?_⟩
    rw [State.pins_b, State.pins_f, State.pins_mem, State.f_awaitWay_MODE]
    exact ⟨State.b_awaitWay_BUSY, (State.bitsOf_clearWayWi (by decide)).trans hc, State.find_reassign_awaitWay⟩
  case ignored =>
    have refused : s.b F.sliceWay_BUSY w = true ∨ bitsOf v 0 2 = 3 ∨ s.canOwn (bitsOf v 2 6) = false :=
      h.imp_right (Or.imp_right fun ⟨h0, he⟩ => State.not_canOwn h0 he)
    refine ⟨_, completes_of_effect rfl (way_wf hs hw) rfl (State.writeWay_ignored refused), ?_, ?_,
      (((State.SameBut.refl s _).setF _ hw24 ⟨rfl, rfl⟩).setF _ hw24 ⟨rfl, rfl⟩).pins⟩
    · rw [State.pins_b, State.b_setF_self _ _ _ _ (by decide)]
      rfl
    · rw [State.pins_rget, State.bitsOf_setF_WI (by decide), State.bitsOf_clearWayWi (by decide)]
  case ends =>
    refine ⟨_, completes_of_effect ?_ (way_wf hs hw) rfl (State.endReassign_eq hf), ?_⟩
    · rw [hf, hl]; rfl
    · rw [State.pins_f, State.pins_f, State.pins_b]
      exact ⟨State.f_takeWay_MODE, State.f_takeWay_OWNER, State.b_takeWay_BUSY⟩

end Sys2Proof.Machine
end

section
/-!
PROOF. Range operations of the host (08 R281, R302, R303): what a write of LLM_CTL_RANGE_OP with GO does where no
operation runs and where one does, and what the end of an operation leaves.
-/
namespace Sys2Proof.Machine

section Write
variable {s : State} {v : W32}

/-- LLM_CTL_RANGE_OP has no field that an enable protects, so a write of it is never ignored (16 R541). -/
theorem State.code_rangeOp (s : State) (v : W32) :
    s.code .llmCtlRangeOp 0 v =
      s.rset .llmCtlRangeOp 0 (Reg.llmCtlRangeOp.written (s.held .llmCtlRangeOp 0) (s.rget .llmCtlRangeOp 0) v) := by
  have free : Reg.llmCtlRangeOp.touches (s.rget .llmCtlRangeOp 0) v = false := rfl
  unfold State.code
  simp [free]

theorem State.code_rangeOp_hbm : (s.code .llmCtlRangeOp 0 v).hbm = s.hbm := by
  rw [State.code_rangeOp, State.rset_hbm]

theorem State.rangeNamed_code_fn : (s.code .llmCtlRangeOp 0 v).rangeNamed.fn = bitsOf v 0 2 := by
  have fn : (⟨0, 2, .rw, 0⟩ : RField) ∈ Reg.llmCtlRangeOp.info.fields := by decide
  simp only [State.rangeNamed, State.f, F.llmCtlRangeOp_FN, State.code_rangeOp, State.rget_rset_self]
  exact Reg.bitsOf_written _ _ _ _ fn

theorem State.writeRangeOp_starts (hg : bitsOf v 30 1 = 1) (hn : s.hbm.rangeOp = none)
    (hr : (s.code .llmCtlRangeOp 0 v).rangeRefusal (s.code .llmCtlRangeOp 0 v).rangeNamed = 0) :
    s.writeRangeOp v =
      { s.code .llmCtlRangeOp 0 v with hbm := { (s.code .llmCtlRangeOp 0 v).hbm with
        rangeOp := some (s.code .llmCtlRangeOp 0 v).rangeNamed } }.setF F.llmCtlRangeStatus_BUSY 0 1 := by
  simp [State.writeRangeOp, hg, State.code_rangeOp_hbm, hn, hr]

theorem State.writeRangeOp_refused (hg : bitsOf v 30 1 = 1) (hn : s.hbm.rangeOp = none)
    (hr : (s.code .llmCtlRangeOp 0 v).rangeRefusal (s.code .llmCtlRangeOp 0 v).rangeNamed ≠ 0) :
    s.writeRangeOp v =
      ((s.code .llmCtlRangeOp 0 v).setF F.llmCtlRangeStatus_ERR 0 1).setF F.llmCtlRangeStatus_CODE 0
        ((s.code .llmCtlRangeOp 0 v).rangeRefusal (s.code .llmCtlRangeOp 0 v).rangeNamed) := by
  simp [State.writeRangeOp, hg, State.code_rangeOp_hbm, hn, hr]

theorem State.writeRangeOp_ignored (hg : bitsOf v 30 1 = 1) (hs : s.hbm.rangeOp.isSome = true) :
    s.writeRangeOp v = s.setF F.llmCtlFlags_WRITE_IGNORED 0 1 := by
  simp only [State.writeRangeOp, hg, State.code_rangeOp_hbm, hs]
  rfl

/-- Each row is the write of the word whose FN it is. -/
theorem State.completes_writeRangeOp {c : Instr} {k : Nat} {t : State}
    (hc : (c = .hostRangeFlush v ∧ k = 1) ∨ (c = .hostRangeInvalidate v ∧ k = 2) ∨ (c = .hostRangeDraff v ∧ k = 3))
    (hg : bitsOf v 30 1 = 1) (hk : bitsOf v 0 2 = k) (ht : s.writeRangeOp v = t) : Completes c s t.pins := by
  have goes : goesRange k v = true := by simp [goesRange, hg, hk]
  obtain ⟨rfl, rfl⟩ | ⟨rfl, rfl⟩ | ⟨rfl, rfl⟩ := hc <;> exact completes_of_effect goes rfl rfl ht

end Write

/-! ### The end of an operation -/

section End
variable {s : State}

theorem State.rangeOp_of_done (h : s.rangeDone = true) : ∃ r, s.hbm.rangeOp = some r := by
  unfold State.rangeDone at h
  split at h
  · cases h
  · exact ⟨_, ‹_›⟩

/-- The state that an operation leaves: its lines are done, and no operation runs. -/
theorem State.endRange_ends (r : RangeOp) :
    (s.endRange r).hbm.rangeOp = none ∧ (s.endRange r).b F.llmCtlRangeStatus_BUSY 0 = false ∧
      (s.endRange r).b F.llmCtlRangeStatus_DONE 0 = true := by
  unfold State.endRange
  extract_lets t
  refine ⟨?_, ?_, ?_⟩
  · rw [State.setF_hbm, State.setF_hbm]
  · rw [State.b_setF_field _ _ _ (by decide) (by decide) (by decide), State.b_setF_self _ _ _ _ (by decide)]
    rfl
  · rw [State.b_setF_self _ _ _ _ (by decide)]
    rfl

end End

/-- Settles O32: with GO set the write starts the operation, notes its refusal or is ignored, and the end of the
operation frees the registers. -/
theorem hostRange : Obligations.HostRange := by
  refine ⟨fun s v c k hc hg hk => ⟨fun hn hr => ?starts, fun hn hr => ?refused, fun hs => ?ignored⟩, fun s hd => ?ends⟩
  case starts =>
    refine ⟨_, State.completes_writeRangeOp hc hg hk (State.writeRangeOp_starts hg hn hr), ?_⟩
    rw [State.pins_b, State.pins_hbm, State.b_setF_self _ _ _ _ (by decide), State.setF_hbm]
    exact ⟨rfl, rfl, State.rangeNamed_code_fn.trans hk⟩
  case refused =>
    refine ⟨_, State.completes_writeRangeOp hc hg hk (State.writeRangeOp_refused hg hn hr), ?_⟩
    rw [State.pins_b, State.pins_hbm, State.b_setF_field _ _ _ (by decide) (by decide) (by decide),
      State.b_setF_self _ _ _ _ (by decide), State.setF_hbm, State.setF_hbm, State.code_rangeOp_hbm]
    exact ⟨rfl, hn⟩
  case ignored =>
    refine ⟨_, State.completes_writeRangeOp hc hg hk (State.writeRangeOp_ignored hg hs), ?_⟩
    rw [State.pins_b, State.pins_hbm, State.b_setF_self _ _ _ _ (by decide), State.setF_hbm]
    exact ⟨rfl, rfl⟩
  case ends =>
    obtain ⟨r, hr⟩ := State.rangeOp_of_done hd
    refine ⟨_, completes_of_effect hd rfl rfl (by rw [hr]), ?_⟩
    rw [State.pins_b, State.pins_b, State.pins_hbm]
    exact State.endRange_ends r

end Sys2Proof.Machine
end

section
/-!
SUPPORT. The parts of the state that a line's data do not belong to: what is written at a home leaves the L1s' states,
the requests in progress and the registers alone, and what an L1 gives up is its own entry (08 R286, R287).
-/
namespace Sys2Proof.Machine

/-! ### The data of lines at their homes -/

/-- A part of the state that no line's data at its home belong to: memory, the scratch ways, the slices' lines and the
poison markers change without it. -/
def State.ApartFromData {α : Sort _} (p : State → α) : Prop :=
  ∀ (s : State) (hbm scratch : Memory) (tags : SMap ScratchTag) (remote : SMap (List Byte)) (poison : List Nat)
    (cache : SMap CacheLine),
    p { s with mem := { s.mem with
      hbm := hbm, scratch := scratch, scratchTags := tags, remote := remote, poison := poison, cache := cache } } = p s

theorem State.regs_apart : State.ApartFromData State.regs := fun _ _ _ _ _ _ _ => rfl

theorem State.l1_apart : State.ApartFromData (fun s => s.mem.l1) := fun _ _ _ _ _ _ _ => rfl

theorem State.l1data_apart : State.ApartFromData (fun s => s.mem.l1data) := fun _ _ _ _ _ _ _ => rfl

theorem State.txns_apart : State.ApartFromData (fun s => s.mem.txns) := fun _ _ _ _ _ _ _ => rfl

section Apart
variable {α : Sort _} {p : State → α} (hp : State.ApartFromData p)
include hp

theorem State.writeMemLine_keeps (s : State) (line : Nat) (d : List Byte) : p (s.writeMemLine line d) = p s := by
  unfold State.writeMemLine
  dsimp only
  split
  case h_1 | h_3 => exact hp s _ _ _ _ _ _
  case h_2 part a _ =>
    refine List.foldlRecOn (motive := fun t : State => p t = p s) _ _ (hp s _ _ _ _ _ _) fun (t : State) ht e _ => ?_
    split
    · exact (hp t _ _ _ _ _ _).trans ht
    · exact ht

theorem State.putHome_keeps (s : State) (line : Nat) (d : List Byte) : p (s.putHome line d) = p s := by
  unfold State.putHome
  split
  · exact hp s _ _ _ _ _ _
  · exact State.writeMemLine_keeps hp s line d

theorem State.dropSlot_keeps (s : State) (k : Nat) (writeBack : Bool) : p (s.dropSlot k writeBack) = p s := by
  unfold State.dropSlot
  split
  · rfl
  · dsimp only
    split
    · split
      · exact (State.writeMemLine_keeps hp _ _ _).trans (hp s _ _ _ _ _ _)
      · exact hp s _ _ _ _ _ _
    · exact hp s _ _ _ _ _ _

end Apart

/-! ### The L1s -/

theorem State.txn_of_txns {s t : State} (h : t.mem.txns = s.mem.txns) (line : Nat) : t.txn line = s.txn line := by
  rw [State.txn, h, State.txn]

/-- An L1 that has given a line up lists it no more. -/
theorem State.l1State_of_drop {s t : State} {core line : Nat}
    (h : t.mem.l1 = SMap.drop s.mem.l1 (l1Key core line)) : t.l1State core line = none := by
  rw [State.l1State, h, SMap.find_drop_self]

theorem State.l1State_of_drop_ne {s t : State} {core line k l : Nat}
    (h : t.mem.l1 = SMap.drop s.mem.l1 (l1Key core line)) (hne : l1Key k l ≠ l1Key core line) :
    t.l1State k l = s.l1State k l := by
  rw [State.l1State, h, SMap.find_drop_ne _ hne, State.l1State]

theorem State.l1State_setL1_some (s : State) (core line : Nat) (x : L1State) :
    (s.setL1 core line (some x)).l1State core line = some x := SMap.find_put_self _ _ _

/-- What an L1 gives up is its entry, and with M its data; those go home, or nowhere. -/
theorem State.surrender_keeps {α : Sort _} {p : State → α} (hp : State.ApartFromData p)
    (hd : ∀ (s : State) l1data, p { s with mem := { s.mem with l1data := l1data } } = p s) (s : State)
    (core line : Nat) (keepData : Bool) : p (s.surrender core line keepData) = p (s.setL1 core line none) := by
  unfold State.surrender
  dsimp only
  split
  · split
    · split
      · exact (State.putHome_keeps hp _ _ _).trans (hd _ _)
      · exact hd _ _
    · rfl
  · rfl

theorem State.surrender_l1 (s : State) (core line : Nat) (keepData : Bool) :
    (s.surrender core line keepData).mem.l1 = SMap.drop s.mem.l1 (l1Key core line) :=
  State.surrender_keeps State.l1_apart (fun _ _ => rfl) s core line keepData

theorem State.surrender_txns (s : State) (core line : Nat) (keepData : Bool) :
    (s.surrender core line keepData).mem.txns = s.mem.txns :=
  State.surrender_keeps State.txns_apart (fun _ _ => rfl) s core line keepData

@[simp] theorem State.sliceCount_mem (s : State) (line : Nat) (part : Option Nat) (n : Nat) :
    (s.sliceCount line part n).mem = s.mem :=
  (State.credit_mem _ _ _ _).trans (State.bump_mem _ _ _ _ _)

theorem State.lineLookup_l1 (s : State) (line : Nat) (part : Option Nat) :
    (s.lineLookup line part).mem.l1 = s.mem.l1 := by
  unfold State.lineLookup
  split
  · rfl
  · split <;> rw [State.sliceCount_mem]

/-- A line evicted leaves that L1, and no other (08 R286, R287). -/
theorem State.evictL1_l1 {s : State} {core line : Nat} {st : L1State} (h : s.l1State core line = some st) :
    (s.evictL1 core line).mem.l1 = SMap.drop s.mem.l1 (l1Key core line) := by
  unfold State.evictL1
  rw [h]
  cases st with
  | s => rfl
  | f =>
    dsimp only
    split
    · split <;> rfl
    · rfl
  | e | m =>
    dsimp only
    generalize ht : (if (_ && s.cacheable line) = true then s.lineLookup line none else s) = t
    have looked : t.mem.l1 = s.mem.l1 := by
      rw [← ht]
      split
      · exact State.lineLookup_l1 _ _ _
      · rfl
    have gone : (t.surrender core line true).mem.l1 = SMap.drop s.mem.l1 (l1Key core line) := by
      rw [State.surrender_l1, looked]
    split
    · split <;> exact gone
    · exact gone

/-- M data sent home as well touch no request. -/
theorem State.homeCopy_txns (s : State) (line : Nat) : (s.homeCopy line).mem.txns = s.mem.txns := by
  unfold State.homeCopy
  split
  · exact State.putHome_keeps State.txns_apart _ _ _
  · rfl

theorem State.find_l1data_homeCopy (s : State) (line : Nat) : SMap.find (s.homeCopy line).mem.l1data line = none := by
  unfold State.homeCopy
  split
  · rw [State.putHome_keeps State.l1data_apart]
    exact SMap.find_drop_self _ _
  · next h => exact h

end Sys2Proof.Machine
end

section
/-!
SUPPORT. Where a line lives, and the word that its way's array holds (08 R271, R278; 15 R523): a write of a register
that places no line moves none, and what a bad word leaves of the line.
-/
namespace Sys2Proof.Machine

/-! ### Entries of a map under a test that a key fails -/

section Filter
variable {α : Type} {p : Nat × α → Bool} {k : Nat} (hp : ∀ x, p (k, x) = false)
include hp

theorem SMap.filter_put (m : SMap α) (x : α) : (SMap.put m k x).filter p = m.filter p := by
  induction m with
  | nil => simp [SMap.put, hp]
  | cons e m ih =>
    obtain ⟨i, y⟩ := e
    rw [SMap.put]
    split
    · exact List.filter_cons_of_neg (by simp [hp])
    · split
      · next h => subst h; simp [hp]
      · simp [List.filter_cons, ih]

theorem SMap.filter_drop (m : SMap α) : (SMap.drop m k).filter p = m.filter p := by
  induction m with
  | nil => rfl
  | cons e m ih =>
    obtain ⟨i, y⟩ := e
    rw [SMap.drop]
    split
    · next h => subst h; simp [hp, ih]
    · simp [List.filter_cons, ih]

theorem SMap.filter_set [DecidableEq α] (d : α) (m : SMap α) (x : α) : (SMap.set d m k x).filter p = m.filter p := by
  unfold SMap.set
  split
  · exact SMap.filter_drop hp m
  · exact SMap.filter_put hp m x

end Filter

/-! ### Registers that place no line -/

theorem lineKind_global {line ofs : Nat} (h : lineKind line = .global ofs) : ofs < 2 ^ 40 := by
  unfold lineKind at h
  split at h
  · cases h; omega
  · split at h <;> cases h

/-- A field of another register. -/
theorem State.f_rset_ne (s : State) (v : W32) {r : Reg} {x : Fld} {i k : Nat} (hi : i < 2 ^ 24) (hk : k < 2 ^ 24)
    (h : x.reg ≠ r) : (s.rset r i v).f x k = s.f x k := by
  rw [State.f, State.rget_rset_ne _ _ hi hk (.inl h), State.f]

section Placed
variable {r : Reg} {i : Nat} (hi : i < 2 ^ 24) (hd : r ≠ .llmRgnDesc) (hw : r ≠ .sliceWay)

section Way
include hi hw

theorem State.scratchWays_rset (s : State) (v : W32) (part : Nat) :
    (s.rset r i v).scratchWays part = s.scratchWays part := by
  refine congrArg (List.map _) (SMap.filter_set (fun x => ?_) _ _ _)
  by_contra hin
  obtain ⟨hlo, hhi⟩ : Reg.sliceWay.key 0 ≤ r.key i ∧ r.key i < Reg.sliceWay.key 0 + 8192 := by
    simp only [Bool.and_eq_true, decide_eq_true_eq, Bool.not_eq_false] at hin
    obtain ⟨⟨range, -⟩, -⟩ := hin
    exact range
  refine Reg.key_ne (r := r) (q := .sliceWay) (j := r.key i - Reg.sliceWay.key 0) hi (by omega) (.inl hw) ?_
  simp only [Reg.key] at hlo ⊢
  omega

theorem State.nearPlace_rset (s : State) (v : W32) (part a : Nat) :
    (s.rset r i v).nearPlace part a = s.nearPlace part a := by
  rw [State.nearPlace, State.scratchWays_rset hi hw, State.nearPlace]

end Way

section Region
include hi hd

theorem State.f_rset_desc (s : State) (v : W32) {n : Nat} (hn : n < 2 ^ 24) {x : Fld} (hx : x.reg = .llmRgnDesc) :
    (s.rset r i v).f x n = s.f x n :=
  s.f_rset_ne v hi hn (hx ▸ hd.symm)

theorem State.spot_rset (s : State) (v : W32) {n : Nat} (hn : n < 2 ^ 24) (o : Nat) :
    (s.rset r i v).spot n o = s.spot n o := by
  have moved (share c : Nat) (old : Nat × Nat) : (s.rset r i v).movedSpot share c old = s.movedSpot share c old := rfl
  unfold State.spot
  simp only [State.b, moved, State.rset_hbm, s.f_rset_desc hi hd v hn (x := F.llmRgnDesc_INTERLEAVE) rfl,
    s.f_rset_desc hi hd v hn (x := F.llmRgnDesc_HASH) rfl, s.f_rset_desc hi hd v hn (x := F.llmRgnDesc_PLACE) rfl]

theorem State.chanByte_rset (s : State) (v : W32) {n : Nat} (hn : n < 2 ^ 24) (o : Nat) :
    (s.rset r i v).chanByte n o = s.chanByte n o := by
  rw [State.chanByte, s.spot_rset hi hd v hn, s.f_rset_desc hi hd v hn (x := F.llmRgnDesc_INTERLEAVE) rfl,
    State.chanByte]

end Region

include hi hd hw

theorem State.homeOf_rset (s : State) (v : W32) (line : Nat) : (s.rset r i v).homeOf line = s.homeOf line := by
  unfold State.homeOf
  split
  · next ofs h =>
    have hr : regionOf ofs < 2 ^ 24 := by
      have hofs : ofs < 2 ^ 40 := lineKind_global h
      unfold regionOf
      omega
    simp only [s.spot_rset hi hd v hr, s.chanByte_rset hi hd v hr]
  · rw [State.nearPlace_rset hi hw]
  · rfl

/-- The slot of a line whose home is one of the slices. -/
theorem State.cacheAt_rset (s : State) (v : W32) {line : Nat} (hs : (s.homeOf line).1 < 512) :
    (s.rset r i v).cacheAt line = s.cacheAt line := by
  have slot : (s.rset r i v).cacheSlot line = s.cacheSlot line := by
    unfold State.cacheSlot
    rw [s.homeOf_rset hi hd hw v line]
    dsimp only
    refine congrArg (Option.map _) (List.find?_congr fun way hway => ?_)
    have hk : (s.homeOf line).1 * 16 + way < 2 ^ 24 := by
      have := List.mem_range.1 hway
      omega
    rw [State.rset_mem, s.f_rset_ne v hi hk (x := F.sliceWay_MODE) hw.symm,
      s.f_rset_ne v hi hk (x := F.sliceWay_OWNER) hw.symm]
  rw [State.cacheAt, slot, State.rset_mem, State.cacheAt]

end Placed

/-! ### Poison, and the word of a way's array -/

section Poison
variable {s : State} {line : Nat}

theorem State.homeOf_withMem (s : State) (m : MemState) (line : Nat) :
    ({ s with mem := m } : State).homeOf line = s.homeOf line := rfl

theorem State.rget_withMem (s : State) (m : MemState) (r : Reg) (i : Nat) :
    ({ s with mem := m } : State).rget r i = s.rget r i := rfl

@[simp] theorem State.recordPoison_mem (s : State) (line cause agent : Nat) :
    (s.recordPoison line cause agent).mem = s.mem := by
  unfold State.recordPoison
  dsimp only
  rw [State.setF_mem, State.setF_mem, State.setF_mem, State.setPair_mem]
  split
  · exact s.setF_mem _ _ _
  · rfl

/-- The record of a poisoning stands in three registers of the line's slice (08 R299). -/
theorem State.rget_recordPoison (cause agent : Nat) {r : Reg} {j : Nat} (hs : (s.homeOf line).1 < 2 ^ 24)
    (hj : j < 2 ^ 24) (hl : r ≠ .slicePoisonLo) (hh : r ≠ .slicePoisonHi) (hi : r ≠ .slicePoisonInfo) :
    (s.recordPoison line cause agent).rget r j = s.rget r j := by
  unfold State.recordPoison
  dsimp only
  rw [State.rget_setF_ne _ _ hs hj hi, State.rget_setF_ne _ _ hs hj hi, State.rget_setF_ne _ _ hs hj hi,
    State.rget_setPair_ne _ _ hs hj hl hh]
  split
  · exact s.rget_setF_ne _ hs hj hi
  · rfl

/-- A line poisoned is a record of the poisoning over memories that list it, with no request changed. -/
theorem State.poisonLine_cases (s : State) (line cause agent : Nat) :
    ∃ m : MemState, s.poisonLine line cause agent = { s with mem := m }.recordPoison line cause agent ∧
      m.txns = s.mem.txns ∧ m.poison.contains line = true := by
  unfold State.poisonLine State.poisonMem
  dsimp only
  split <;> exact ⟨_, rfl, rfl, by simp⟩

theorem State.poisonLine_txns (s : State) (line cause agent : Nat) :
    (s.poisonLine line cause agent).mem.txns = s.mem.txns := by
  obtain ⟨m, h, ht, -⟩ := s.poisonLine_cases line cause agent
  rw [h, State.recordPoison_mem, ht]

theorem State.poison_poisonLine (s : State) (line cause agent : Nat) :
    (s.poisonLine line cause agent).mem.poison.contains line = true := by
  obtain ⟨m, h, -, hp⟩ := s.poisonLine_cases line cause agent
  rw [h, State.recordPoison_mem, hp]

theorem State.find_cache_dropSlot (s : State) (k : Nat) : SMap.find (s.dropSlot k false).mem.cache k = none := by
  unfold State.dropSlot
  split
  · assumption
  · dsimp only
    split <;> exact SMap.find_drop_self _ _

/-- An uncorrectable word drops a clean line that nothing keeps busy, and poisons any other. -/
theorem State.loseArrayLine_cases (s : State) (line : Nat) :
    (∃ k c, s.cacheAt line = some (k, c) ∧ c.data = none ∧ c.busy = 0 ∧ s.loseArrayLine line = s.dropSlot k false) ∨
      s.loseArrayLine line = s.poisonLine line 1 0x1FF := by
  unfold State.loseArrayLine
  split
  · next k c h =>
    split
    · next hc =>
      simp only [Bool.and_eq_true, Option.isNone_iff_eq_none, beq_iff_eq] at hc
      obtain ⟨clean, idle⟩ := hc
      exact .inl ⟨k, c, h, clean, idle, rfl⟩
    · exact .inr rfl
  · exact .inr rfl

theorem State.loseArrayLine_txns (s : State) (line : Nat) : (s.loseArrayLine line).mem.txns = s.mem.txns := by
  obtain ⟨k, _, -, -, -, h⟩ | h := s.loseArrayLine_cases line <;> rw [h]
  · exact State.dropSlot_keeps State.txns_apart s k false
  · exact s.poisonLine_txns line 1 0x1FF

/-- The advice on a way outlives what becomes of its line. -/
theorem State.advise_loseArrayLine {j : Nat} (hs : (s.homeOf line).1 < 2 ^ 24) (hj : j < 2 ^ 24) :
    (s.loseArrayLine line).rget .rasWayAdvise j = s.rget .rasWayAdvise j := by
  obtain ⟨k, _, -, -, -, h⟩ | h := s.loseArrayLine_cases line <;> rw [h]
  · exact State.rget_of_regs (State.dropSlot_keeps State.regs_apart s k false) _ _
  · obtain ⟨m, hm, -, -⟩ := s.poisonLine_cases line 1 0x1FF
    rw [hm, State.rget_recordPoison 1 0x1FF (by rwa [State.homeOf_withMem]) hj (by decide) (by decide) (by decide),
      State.rget_withMem]

theorem getLsbD_bit32 {i : Nat} (h : i < 32) : (bit32 i).getLsbD i = true := by
  have small : 2 ^ i < 2 ^ 32 := Nat.pow_lt_pow_right (by decide) h
  rw [bit32, BitVec.getLsbD, BitVec.toNat_ofNat, Nat.mod_eq_of_lt small, Nat.testBit_two_pow_self]

/-- A way advised has its bit of RAS_WAY_ADVISE. -/
theorem State.advise_adviseWay (s : State) (w : Nat) :
    ((s.adviseWay w).rget .rasWayAdvise (w / 32)).getLsbD (w % 32) = true := by
  rw [State.adviseWay, State.rget_rset_self, BitVec.getLsbD_or, getLsbD_bit32 (Nat.mod_lt _ (by decide)), Bool.or_true]

@[simp] theorem State.adviseWay_mem (s : State) (w : Nat) : (s.adviseWay w).mem = s.mem := s.rset_mem _ _ _

@[simp] theorem State.rasCount_mem (s : State) (n : Nat) : (s.rasCount n).mem = s.mem :=
  s.bump_mem .rasEvtLo .rasEvtHi n 1

theorem State.mem_withRas (s : State) (r : RasState) : ({ s with ras := r } : State).mem = s.mem := rfl

/-- A corrected word is counted, and past the limit the way is advised. -/
theorem State.countWayCe_cases (s : State) (w : Nat) :
    ∃ r : RasState, s.countWayCe w = { s.rasCount 8 with ras := r }.adviseWay w ∨
      s.countWayCe w = { s.rasCount 8 with ras := r } := by
  unfold State.countWayCe
  extract_lets t bs r u
  refine ⟨u.ras, ?_⟩
  split
  · exact .inl rfl
  · exact .inr rfl

theorem State.countWayCe_mem (s : State) (w : Nat) : (s.countWayCe w).mem = s.mem := by
  obtain ⟨r, h | h⟩ := s.countWayCe_cases w <;> rw [h]
  · rw [State.adviseWay_mem, State.mem_withRas, State.rasCount_mem]
  · rw [State.mem_withRas, State.rasCount_mem]

theorem State.readArray_txns (s : State) (line : Nat) (r : ArrayReport) :
    (s.readArray line r).mem.txns = s.mem.txns := by
  cases r with
  | good => rfl
  | corrected => rw [State.readArray, State.service_mem, State.countWayCe_mem]
  | uncorrectable => rw [State.readArray, State.service_mem, State.loseArrayLine_txns, State.adviseWay_mem]

end Poison

section Array
variable {s : State} {line w : Nat} (hw : w < 8192) (hs : (s.homeOf line).1 < 512)
include hw hs

theorem State.advise_lost :
    (((s.adviseWay w).loseArrayLine line).rget .rasWayAdvise (w / 32)).getLsbD (w % 32) = true := by
  have home : ((s.adviseWay w).homeOf line).1 < 2 ^ 24 := by
    rw [State.adviseWay, s.homeOf_rset (by omega) (by decide) (by decide)]
    omega
  rw [State.advise_loseArrayLine home (by omega), s.advise_adviseWay]

/-- The line of an uncorrectable word is dropped where it is clean, else poisoned. -/
theorem State.adviseWay_loses :
    (∃ k c, s.cacheAt line = some (k, c) ∧ c.data = none ∧ c.busy = 0 ∧
        SMap.find ((s.adviseWay w).loseArrayLine line).mem.cache k = none) ∨
      ((s.adviseWay w).loseArrayLine line).mem.poison.contains line = true := by
  have slot : (s.adviseWay w).cacheAt line = s.cacheAt line := by
    rw [State.adviseWay, s.cacheAt_rset (by omega) (by decide) (by decide) _ hs]
  obtain ⟨k, c, hc, hd, hb, h⟩ | h := (s.adviseWay w).loseArrayLine_cases line <;> rw [h]
  · exact .inl ⟨k, c, slot.symm.trans hc, hd, hb, State.find_cache_dropSlot _ _⟩
  · exact .inr (State.poison_poisonLine _ _ _ _)

end Array

end Sys2Proof.Machine
end

section
/-!
PROOF. Requests at the home of a line (08 R285 to R289; 15 R523): how one begins where none is in progress, the grant of
the first reader, the wait for a directory entry, and what an L1's eviction leaves.
-/
namespace Sys2Proof.Machine

section Home
variable {s : State} {line : Nat}

theorem State.requestAt_of_txn {q : HomeTxn} (h : s.txn line = some q) (r : HomeReq) :
    s.requestAt line r = s.setTxn line (some { q with queue := q.queue ++ [r] }) := by
  rw [State.requestAt, h]

theorem State.requestAt_of_none (h : s.txn line = none) (r : HomeReq) :
    s.requestAt line r = State.serveQueue line [r] s := by
  rw [State.requestAt, h]

theorem State.txn_setTxn_some (s : State) (line : Nat) (t : HomeTxn) : (s.setTxn line (some t)).txn line = some t :=
  SMap.find_put_self _ _ _

theorem State.setTxn_grants (s : State) (line : Nat) (t : Option HomeTxn) :
    (s.setTxn line t).mem.grants = s.mem.grants := rfl

theorem State.serveQueue_of_begins {r : HomeReq} {q : List HomeReq} {u : State} {t : HomeTxn}
    (h : s.beginReq line r q = (u, some t)) : State.serveQueue line (r :: q) s = u.setTxn line (some t) := by
  rw [State.serveQueue, h]

theorem State.find_grant (s : State) (core line : Nat) (st : L1State) :
    SMap.find (s.grant core line st).mem.grants (l1Key core line) = some st := SMap.find_put_self _ _ _

/-! ### The first reader of a line (08 R287, R289) -/

section First
variable {core slot : Nat} (hp : s.poisoned line = false) (hf : s.chanFailed line = false)
include hp hf

/-- A reader that finds no entry to be had waits for one. -/
theorem State.beginReq_waits (hr : (s.makeRoom line (.gets core slot)).2 = true) (q : List HomeReq) :
    s.beginReq line (.gets core slot) q =
      ((s.makeRoom line (.gets core slot)).1, some ⟨.gets core slot, [], [], false, q, true⟩) := by
  simp [State.beginReq, hp, hf, hr]

variable (hd : s.dirEntry line = none)
include hd

omit hp hf in
theorem State.makeRoom_of_room (hv : s.dirVictim (s.homeOf line).1 ((s.homeOf line).2 % 256) = none)
    (hn : s.dirFull line = false) : s.makeRoom line (.gets core slot) = (s, false) := by
  simp [State.makeRoom, HomeReq.core, hd, hv, hn]

omit hp hf in
/-- With no message to wait for, a reader's request comes to its grant. -/
theorem State.resolve_first (q : List HomeReq) :
    s.resolve line ⟨.gets core slot, [], [], false, q, false⟩ =
      (s.grantS line core (s.reqPart (.gets core slot)) ⟨.gets core slot, [], [], false, q, false⟩, false) := by
  simp [State.resolve, State.lostOwner, hd]

/-- The first reader of a line is granted it as its entry has room. -/
theorem State.beginReq_first (hm : s.makeRoom line (.gets core slot) = (s, false)) (q : List HomeReq) :
    s.beginReq line (.gets core slot) q =
      (s.grantS line core (s.reqPart (.gets core slot)) ⟨.gets core slot, [], [], false, q, false⟩,
        some ⟨.gets core slot, [], [], false, q, false⟩) := by
  simp [State.beginReq, hp, hf, hm, hd, State.resolve_first hd]

omit hp hf in
theorem State.grantS_first (hl : line < 2 ^ 40) (part : Nat) (t : HomeTxn) :
    SMap.find (s.grantS line core part t).mem.grants (l1Key core line) = some .e := by
  rw [State.grantS, hd]
  dsimp only
  rw [if_pos hl]
  exact State.find_grant _ _ _ _

end First

end Home

/-! ### The rows -/

section Rows
variable {s : State} {core slot line : Nat}

theorem State.completes_gets (hw : (Instr.gets core slot line .good).wf = true) (ha : s.mayAsk core slot line = true)
    (hn : s.l1State core line = none) :
    Completes (.gets core slot line .good) s (s.requestAt line (.gets core slot)).pins :=
  completes_of_effect (by rw [ha, hn]; rfl) hw rfl rfl

theorem State.completes_getm (hw : (Instr.getm core slot line).wf = true) (ha : s.mayAsk core slot line = true)
    (hl : line < 2 ^ 40)
    (h : s.l1State core line = none ∨ s.l1State core line = some .s ∨ s.l1State core line = some .f) :
    Completes (.getm core slot line) s (s.requestAt line (.getm core slot)).pins := by
  have asks : (s.l1State core line == none || s.l1State core line == some .s ||
      s.l1State core line == some .f) = true := by
    obtain h | h | h := h <;> rw [h] <;> rfl
  exact completes_of_effect (by rw [ha, asks, decide_eq_true hl]; rfl) hw rfl rfl

/-- The home reads its array for no request behind another. -/
theorem State.txn_of_arrayRead (h : s.arrayRead core slot line = true) : s.txn line = none := by
  simp only [State.arrayRead, Bool.and_eq_true, Option.isNone_iff_eq_none] at h
  obtain ⟨⟨⟨idle, -⟩, -⟩, -⟩ := h
  exact idle

/-- A first reader's row is the service of its request. -/
theorem State.completes_gets_idle (hw : (Instr.gets core slot line .good).wf = true)
    (ha : s.mayAsk core slot line = true) (hn : s.l1State core line = none) (ht : s.txn line = none) :
    Completes (.gets core slot line .good) s (State.serveQueue line [.gets core slot] s).pins :=
  State.requestAt_of_none ht _ ▸ State.completes_gets hw ha hn

end Rows

/-- Settles O43: an arrival queues or begins, the first reader's request goes by the room of its directory set, a bad
word of the array is dealt with before the request is served, and an eviction drops one entry of one L1. -/
theorem lineRequests : Obligations.LineRequests := by
  refine ⟨fun s line c r hw h => ?arrival,
    fun s core slot line hw ha hn ht hl hd hp hf => ⟨fun hv hfull => ?granted, fun hr => ?waits⟩,
    fun s core slot line rep hrep hw ha hn harr => ?array, fun s line w hway hw hs => ?lost,
    fun s core line c hw hf h => ?evicted⟩
  case arrival =>
    have arrives : Completes c s (s.requestAt line r).pins := by
      obtain ⟨core, slot, rfl, rfl, ha, hn⟩ | ⟨core, slot, rfl, rfl, ha, hl, hst⟩ | ⟨who, rfl, rfl, hv⟩ |
        ⟨who, mask, data, rfl, rfl, hv, hl⟩ := h
      · exact State.completes_gets hw ha hn
      · exact State.completes_getm hw ha hl hst
      · exact completes_of_effect hv hw rfl rfl
      · exact completes_of_effect (by rw [hv, decide_eq_true hl]; rfl) hw rfl rfl
    exact ⟨fun q hq => ⟨State.requestAt_of_txn hq r ▸ arrives, State.txn_setTxn_some _ _ _⟩,
      fun hn => State.requestAt_of_none hn r ▸ arrives⟩
  case granted =>
    refine ⟨_, State.completes_gets_idle hw ha hn ht, ?_⟩
    have begins := State.beginReq_first (core := core) (slot := slot) hp hf hd (State.makeRoom_of_room hd hv hfull) []
    rw [State.pins_mem, State.serveQueue_of_begins begins, State.setTxn_grants]
    exact State.grantS_first hd hl _ _
  case waits =>
    rw [← State.serveQueue_of_begins (State.beginReq_waits hp hf hr [])]
    exact State.completes_gets_idle hw ha hn ht
  case array =>
    have idle : (s.readArray line rep).txn line = none := by
      rw [State.txn_of_txns (s.readArray_txns line rep)]
      exact State.txn_of_arrayRead harr
    rw [← State.requestAt_of_none idle]
    exact completes_of_effect (by rw [ha, hn, harr, Bool.or_true]; rfl) hw rfl rfl
  case lost =>
    rw [State.readArray, hway, Option.getD_some, State.service_rget, State.service_mem]
    exact ⟨State.advise_lost hw hs, State.adviseWay_loses hw hs⟩
  case evicted =>
    have completes : Completes c s (s.evictL1 core line).pins := by
      obtain ⟨rfl, hst⟩ | ⟨rfl, hst⟩ | ⟨rfl, hst⟩ := h <;>
        exact completes_of_effect (by rw [hf, hst]; rfl) hw rfl rfl
    obtain ⟨st, hst⟩ : ∃ st, s.l1State core line = some st := by
      obtain ⟨-, hst⟩ | ⟨-, hst⟩ | ⟨-, hst⟩ := h <;> exact ⟨_, hst⟩
    have gone : (s.evictL1 core line).pins.mem.l1 = SMap.drop s.mem.l1 (l1Key core line) := State.evictL1_l1 hst
    exact ⟨_, completes, State.l1State_of_drop gone, fun k l hne => State.l1State_of_drop_ne gone hne⟩

end Sys2Proof.Machine
end

section
/-!
PROOF. Messages of a home to an L1 (08 R286 to R290): what the L1 that acts on one keeps of the line, the answer that
travels, and what a flush, a grant and an answer's arrival come to.
-/
namespace Sys2Proof.Machine

section Acted
variable {s u : State} {core line : Nat} {q : HomeTxn} {m : HomeMsg} {data : Bool}

/-- A request after a core has acted on one of its messages. -/
def HomeTxn.answer (q : HomeTxn) (core : Nat) (m : HomeMsg) (data : Bool) : HomeTxn :=
  { q with sent := q.sent.erase (core, m), answering := q.answering ++ [core], noData := q.noData || !data }

theorem State.acted_of_txn (h : u.txn line = some q) :
    u.acted core line m data = u.setTxn line (some (q.answer core m data)) := by
  rw [State.acted, h]
  rfl

theorem State.l1State_setTxn (s : State) (l : Nat) (t : Option HomeTxn) (core line : Nat) :
    (s.setTxn l t).l1State core line = s.l1State core line := rfl

theorem State.pins_l1State (s : State) (core line : Nat) : s.pins.l1State core line = s.l1State core line := rfl

theorem State.pins_txn (s : State) (line : Nat) : s.pins.txn line = s.txn line := rfl

theorem State.asked_of_txn (hf : s.fenced core = false) (hq : s.txn line = some q)
    (hm : q.sent.contains (core, m) = true) : s.asked core line m = true := by
  rw [State.asked, hf, hq, Option.any_some, hm]
  rfl

/-- A row of a message is what it does to the L1, `u`, and the answer. -/
theorem State.completes_acted {c : Instr} {after : Option L1State} (hf : s.fenced core = false)
    (hq : s.txn line = some q) (hm : q.sent.contains (core, m) = true) (hw : c.wf = true) {v : State}
    (hc : exec c s = command c (s.asked core line m) s v) (hv : v = u.acted core line m data)
    (ht : u.mem.txns = s.mem.txns) (hl : u.l1State core line = after) :
    ∃ t, Completes c s t ∧ t.l1State core line = after ∧ t.txn line = some (q.answer core m data) := by
  have acted : v = u.setTxn line (some (q.answer core m data)) :=
    hv.trans (State.acted_of_txn ((State.txn_of_txns ht line).trans hq))
  refine ⟨_, completes_of_effect (State.asked_of_txn hf hq hm) hw hc acted, ?_⟩
  rw [State.pins_l1State, State.pins_txn, State.l1State_setTxn, State.txn_setTxn_some]
  exact ⟨hl, rfl⟩

end Acted

section Messages
variable (s : State) (core line : Nat)

/-- FWDS leaves a shared copy where there was one. -/
theorem State.doFwds_cases :
    ∃ u : State, s.doFwds core line = u.acted core line .fwds (s.l1State core line).isSome ∧
      u.mem.txns = s.mem.txns ∧ u.l1State core line = (s.l1State core line).map (fun _ => L1State.s) := by
  unfold State.doFwds
  split
  · next h =>
    rw [h]
    exact ⟨(s.homeCopy line).setL1 core line (some .s), rfl, s.homeCopy_txns line, State.l1State_setL1_some _ _ _ _⟩
  · next h =>
    rw [h]
    exact ⟨s.setL1 core line (some .s), rfl, rfl, State.l1State_setL1_some _ _ _ _⟩
  · next h => exact ⟨s, by rw [h]; rfl, rfl, by rw [h]; rfl⟩

/-- FWDM leaves no copy. -/
theorem State.doFwdm_cases :
    ∃ u : State, s.doFwdm core line = u.acted core line .fwdm (s.l1State core line).isSome ∧
      u.mem.txns = s.mem.txns ∧ u.l1State core line = none := by
  unfold State.doFwdm
  split
  · next h => exact ⟨s.setL1 core line none, by rw [h]; rfl, rfl, SMap.find_drop_self _ _⟩
  · next h => exact ⟨s, by rw [h]; rfl, rfl, h⟩

theorem State.surrender_none (keepData : Bool) : (s.surrender core line keepData).l1State core line = none :=
  State.l1State_of_drop (s.surrender_l1 core line keepData)

variable {s core line}

theorem State.l1State_takeGrant (st : L1State) : (s.takeGrant core line st).l1State core line = some st := by
  unfold State.takeGrant
  dsimp only
  split <;> exact SMap.find_put_self _ _ _

theorem State.find_grants_takeGrant (st : L1State) :
    SMap.find (s.takeGrant core line st).mem.grants (l1Key core line) = none := by
  unfold State.takeGrant
  dsimp only
  split <;> exact SMap.find_drop_self _ _

theorem State.answered_of_answering {q : HomeTxn} (hq : s.txn line = some q) (ha : q.answering.contains core = true) :
    s.answered core line = (s.forget core line).settle line { q with answering := q.answering.erase core } := by
  rw [State.answered, hq]
  exact if_pos ha

end Messages

/-- Settles O44: each message leaves the L1 the copy it names and its answer on the way, and a flush, a grant and an
answer that arrives do what they are for. -/
theorem lineMessages : Obligations.LineMessages := by
  refine ⟨fun s core line q hf hq c m after data hw hm h => ?message, fun s core line =>
    ⟨fun hw hf hl hfl => ?flush, fun st hw hg => ⟨?grant, State.l1State_takeGrant st, State.find_grants_takeGrant st⟩,
      fun q hw hq ha => ?response⟩⟩
  case message =>
    obtain ⟨rfl, rfl, rfl, rfl⟩ | ⟨rfl, rfl, rfl, rfl⟩ | ⟨rfl, rfl, rfl, rfl⟩ | ⟨rfl, rfl, rfl, rfl⟩ |
      ⟨rfl, rfl, rfl, rfl⟩ := h
    · exact State.completes_acted hf hq hm hw rfl rfl (s.surrender_txns core line false)
        (s.surrender_none core line false)
    · obtain ⟨u, hu, ht, hl⟩ := s.doFwds_cases core line
      exact State.completes_acted hf hq hm hw rfl hu ht hl
    · obtain ⟨u, hu, ht, hl⟩ := s.doFwdm_cases core line
      exact State.completes_acted hf hq hm hw rfl hu ht hl
    · exact State.completes_acted hf hq hm hw rfl rfl rfl rfl
    · exact State.completes_acted hf hq hm hw rfl rfl (s.surrender_txns core line true)
        (s.surrender_none core line true)
  case flush =>
    refine ⟨_, completes_of_effect (by rw [hf, hl, hfl]; rfl) hw rfl rfl, ?_, ?_⟩
    · exact State.l1State_setL1_some (s.homeCopy line) core line .e
    · exact s.find_l1data_homeCopy line
  case grant => exact completes_of_effect (by rw [hg]; rfl) hw rfl (by rw [hg])
  case response =>
    exact completes_of_effect (by rw [hq, Option.any_some, ha]; rfl) hw rfl
      (by rw [State.answered_of_answering hq ha])

end Sys2Proof.Machine
end

section
/-!
PROOF. Far operations of a slice (08 R293, R294) and the home that waits for an L1 too long (08 R296).
-/
namespace Sys2Proof.Machine

/-- An operation that has not stalled runs as it is. -/
theorem State.runFar_atomic (s : State) {o : FarOp} {fn : Nat} {w64 sat : Bool} {a b c : W64}
    (hk : o.kind = .atomic fn w64 sat a b c) (hs : o.stalled = false) :
    s.runFar o = s.farAtomic o fn w64 sat a b c := by
  have same : { o with stalled := false } = o := by rw [← hs]
  rw [State.runFar, same, hk]

/-- Settles O45: the slice runs the operation that is next, a sound atomic has its two effects, and the timeout is the
model's at the core that is silent. -/
theorem farOperations : Obligations.FarOperations := by
  refine ⟨fun s slice o => ⟨fun hw hn => ?runs, fun hw hn hr => ?resumes⟩,
    fun s u o fn w64 sat a b c hk hs hp hr hu => ?atomic, fun s line core hw hsafe hc => ?timeout⟩
  case runs => exact completes_of_effect (by rw [hn]; rfl) hw rfl (by rw [hn])
  case resumes => exact completes_of_effect (by rw [hn, Option.any_some, hr]) hw rfl (by rw [hn])
  case atomic =>
    rw [s.runFar_atomic hk hs, State.farAtomic]
    dsimp only
    rw [hp, hr, hu]
    rfl
  case timeout => exact completes_of_effect (by rw [hc, hsafe]; rfl) hw rfl (by rw [hc])

end Sys2Proof.Machine
end

section
/-!
PROOF. Retirement of a pseudo-channel (09 R321 to R324; 15 R530): what a write of HBM_CTL_RETIRE with GO does, and what
the end of the move leaves of it, VALID writes that waited for the end included.
-/
namespace Sys2Proof.Machine

/-! ### A write of HBM_CTL_RETIRE -/

section Write
variable {s : State} {v : W32} {pc : Nat}

/-- A retirement that has begun: the move of its shares runs from line 0 (09 R323). -/
def State.startRetire (s : State) (m : RetireMove) : State :=
  (((({ s with hbm := { s.hbm with move := some m } } : State).setF F.hbmCtlRetire_STATE 0 1).setF
    F.hbmCtlRetire_REASON 0 0).setF F.hbmCtlRetireMoved_LINES 0 0).setF F.hbmCtlRetireTotal_LINES 0 m.total

theorem State.startRetire_hbm (s : State) (m : RetireMove) :
    (s.startRetire m).hbm = { s.hbm with move := some m } := by
  simp only [State.startRetire, State.setF_hbm]

theorem State.f_startRetire_STATE (s : State) (m : RetireMove) : (s.startRetire m).f F.hbmCtlRetire_STATE 0 = 1 := by
  rw [State.startRetire, State.f_setF_ne _ _ (by decide) (by decide) (by decide),
    State.f_setF_ne _ _ (by decide) (by decide) (by decide),
    State.f_setF_field _ _ _ (by decide) (by decide) (by decide), State.f_setF_self _ _ _ _ (by decide)]
  rfl

theorem State.f_refuseRetire_STATE (s : State) (reason : Nat) :
    (s.refuseRetire reason).f F.hbmCtlRetire_STATE 0 = 3 := by
  rw [State.refuseRetire, State.f_setF_field _ _ _ (by decide) (by decide) (by decide),
    State.f_setF_self _ _ _ _ (by decide)]
  rfl

theorem State.f_refuseRetire_REASON (s : State) (reason : Nat) :
    (s.refuseRetire reason).f F.hbmCtlRetire_REASON 0 = reason % 16 := by
  rw [State.refuseRetire, State.f_setF_self _ _ _ _ (by decide)]
  rfl

/-- HBM_CTL_RETIRE has no field that an enable protects, so a write of it is never ignored (16 R541). -/
theorem State.code_retire (s : State) (v : W32) :
    s.code .hbmCtlRetire 0 v =
      s.rset .hbmCtlRetire 0 (Reg.hbmCtlRetire.written (s.held .hbmCtlRetire 0) (s.rget .hbmCtlRetire 0) v) := by
  have free : Reg.hbmCtlRetire.touches (s.rget .hbmCtlRetire 0) v = false := rfl
  unfold State.code
  simp [free]

theorem State.code_retire_ras : (s.code .hbmCtlRetire 0 v).ras = s.ras := by
  rw [State.code_retire, State.rset_ras]

section Go
variable (hg : bitsOf v 9 1 = 1) (hs : s.f F.hbmCtlRetire_STATE 0 ≠ 1) (hpc : bitsOf v 0 9 = pc)
include hg hs hpc

theorem State.writeRetire_retired (hr : (s.code .hbmCtlRetire 0 v).retiredPc pc = true) :
    s.writeRetire v = (s.code .hbmCtlRetire 0 v).refuseRetire 1 := by
  simp [State.writeRetire, hg, hs, hpc, hr]

variable (hr : (s.code .hbmCtlRetire 0 v).retiredPc pc = false)
include hr

theorem State.writeRetire_filling (hf : (s.code .hbmCtlRetire 0 v).fillingOn pc = true) :
    s.writeRetire v = (s.code .hbmCtlRetire 0 v).refuseRetire 3 := by
  simp [State.writeRetire, hg, hs, hpc, hr, hf]

variable (hf : (s.code .hbmCtlRetire 0 v).fillingOn pc = false)
include hf

theorem State.writeRetire_full
    (hm : (s.code .hbmCtlRetire 0 v).moveShares pc 0 ((s.code .hbmCtlRetire 0 v).pieces 1024)
      ((s.code .hbmCtlRetire 0 v).sharesOn pc) = none) :
    s.writeRetire v = (s.code .hbmCtlRetire 0 v).refuseRetire 2 := by
  simp [State.writeRetire, hg, hs, hpc, hr, hf, hm]

variable {ts : List MoveShare}
  (hm : (s.code .hbmCtlRetire 0 v).moveShares pc 0 ((s.code .hbmCtlRetire 0 v).pieces 1024)
    ((s.code .hbmCtlRetire 0 v).sharesOn pc) = some ts)
include hm

theorem State.writeRetire_placed :
    s.writeRetire v =
      if s.ras.isolated.contains (pc / 64) then
        ((s.code .hbmCtlRetire 0 v).startRetire ⟨pc, ts, 0⟩).endMove ⟨pc, ts, 0⟩
      else (s.code .hbmCtlRetire 0 v).startRetire ⟨pc, ts, 0⟩ := by
  rw [← State.code_retire_ras (v := v)]
  simp [State.writeRetire, hg, hs, hpc, hr, hf, hm, State.startRetire]

theorem State.writeRetire_starts (hi : s.ras.isolated.contains (pc / 64) = false) :
    s.writeRetire v = (s.code .hbmCtlRetire 0 v).startRetire ⟨pc, ts, 0⟩ :=
  (State.writeRetire_placed hg hs hpc hr hf hm).trans (if_neg (Bool.eq_false_iff.1 hi))

theorem State.writeRetire_isolated (hi : s.ras.isolated.contains (pc / 64) = true) :
    s.writeRetire v = ((s.code .hbmCtlRetire 0 v).startRetire ⟨pc, ts, 0⟩).endMove ⟨pc, ts, 0⟩ :=
  (State.writeRetire_placed hg hs hpc hr hf hm).trans (if_pos hi)

end Go

/-- The row is the write, with the service request as it follows. -/
theorem State.completes_writeRetire {t : State} (hg : bitsOf v 9 1 = 1) (ht : s.writeRetire v = t) :
    Completes (.pseudoChannelRetire v) s (State.service s t).pins :=
  completes_of_effect (by rw [hg]; rfl) rfl rfl (congrArg (State.service s) ht)

theorem State.completes_refuseRetire {u : State} {reason : Nat} (hg : bitsOf v 9 1 = 1)
    (h : s.writeRetire v = u.refuseRetire reason) :
    ∃ t, Completes (.pseudoChannelRetire v) s t ∧ t.f F.hbmCtlRetire_STATE 0 = 3 ∧
      t.f F.hbmCtlRetire_REASON 0 = reason % 16 := by
  refine ⟨_, State.completes_writeRetire hg h, ?_⟩
  rw [State.pins_f, State.pins_f, State.service_f, State.service_f]
  exact ⟨u.f_refuseRetire_STATE reason, u.f_refuseRetire_REASON reason⟩

end Write

/-! ### VALID writes that waited for the move leave the retirement alone -/

/-- Two fields at different bits, of words that are the same after reset: a write of one leaves the other alone even
where an index past its register's last word makes the words one. -/
theorem State.f_setF_bits (s : State) {x y : Fld} {i j : Nat} (v : Nat) (h : x.lo + x.n ≤ 32)
    (hd : y.lo + y.n ≤ x.lo ∨ x.lo + x.n ≤ y.lo) (hw : x.reg.resetWord i = y.reg.resetWord j) :
    (s.setF x i v).f y j = s.f y j := by
  by_cases hk : y.reg.key j = x.reg.key i
  · have word (t : State) : t.rget y.reg j = t.rget x.reg i := by rw [State.rget, State.rget, hk, hw]
    rw [State.f, State.f, word, word, State.setF, State.rget_rset_self, bitsOf_withBits_other _ _ h hd]
  · rw [State.f, State.setF, State.rget_rset_key s _ hk, State.f]

/-- What shows of a retirement: STATE, and the move that runs. -/
def State.retirement (s : State) : Nat × Option RetireMove := (s.f F.hbmCtlRetire_STATE 0, s.hbm.move)

theorem State.retirement_of {s t : State} (hr : t.regs = s.regs) (hh : t.hbm.move = s.hbm.move) :
    t.retirement = s.retirement := by
  rw [State.retirement, State.f_of_regs hr, hh, State.retirement]

theorem State.retirement_withHbm (s : State) (h : HbmState) (hm : h.move = s.hbm.move) :
    ({ s with hbm := h } : State).retirement = s.retirement := State.retirement_of rfl hm

/-- A bit of a descriptor. -/
theorem State.retirement_setF_desc (s : State) {x : Fld} (n v : Nat) (hx : x.reg = .llmRgnDesc)
    (hd : x.lo + x.n ≤ 10 ∨ 12 ≤ x.lo ∧ x.lo + x.n ≤ 32) : (s.setF x n v).retirement = s.retirement := by
  have state : (s.setF x n v).f F.hbmCtlRetire_STATE 0 = s.f F.hbmCtlRetire_STATE 0 :=
    s.f_setF_bits v (by omega) (hd.symm.imp And.left id) (by rw [hx]; rfl)
  rw [State.retirement, state, State.setF_hbm, State.retirement]

theorem State.retirement_setF_OWNER (s : State) (n v : Nat) :
    (s.setF F.rgnown_OWNER n v).retirement = s.retirement := by
  have state : (s.setF F.rgnown_OWNER n v).f F.hbmCtlRetire_STATE 0 = s.f F.hbmCtlRetire_STATE 0 :=
    s.f_setF_bits v (by decide) (by decide) rfl
  rw [State.retirement, state, State.setF_hbm, State.retirement]

/-- Copies recalled without their data poison nothing. -/
theorem State.recallAll_lost_regs (s : State) (line : Nat) : (s.recallAll line false).regs = s.regs := by
  unfold State.recallAll
  split
  · rfl
  · simp only [Bool.and_false, Bool.false_eq_true, if_false, Bool.false_and]
    refine List.foldlRecOn (motive := fun t : State => t.regs = s.regs) _ _ rfl fun t ht i _ => ?_
    split
    · exact (State.surrender_keeps State.regs_apart (fun _ _ => rfl) t _ line false).trans ht
    · exact ht

theorem State.dropLine_lost_regs (s : State) (line : Nat) : (s.dropLine line false).regs = s.regs := by
  unfold State.dropLine
  extract_lets t u
  have hu : u.regs = s.regs := by
    simp only [u]
    split
    · exact (State.dropSlot_keeps State.regs_apart t _ false).trans (s.recallAll_lost_regs line)
    · exact s.recallAll_lost_regs line
  split <;> exact hu

theorem State.dropRegion_lost_retirement (s : State) (n : Nat) : (s.dropRegion n false).retirement = s.retirement :=
  State.retirement_of
    (List.foldlRecOn (motive := fun t : State => t.regs = s.regs) _ _ rfl fun t ht l _ =>
      (t.dropLine_lost_regs l).trans ht)
    (congrArg HbmState.move (s.dropRegion_hbm n false))

theorem State.releaseRegion_retirement (s : State) (n : Nat) : (s.releaseRegion n).retirement = s.retirement := by
  refine (State.retirement_withHbm _ _ rfl).trans ?_
  rw [State.retirement_setF_OWNER, State.retirement_setF_desc _ _ _ rfl (by decide),
    State.retirement_setF_desc _ _ _ rfl (by decide)]

theorem State.wipeRegion_retirement (s : State) (n : Nat) : (s.wipeRegion n).retirement = s.retirement := by
  unfold State.wipeRegion
  split
  · refine (State.retirement_withHbm _ _ rfl).trans ?_
    rw [State.retirement_setF_desc _ _ _ rfl (by decide), s.dropRegion_lost_retirement n]
  · exact s.releaseRegion_retirement n

theorem State.regionIdle_retirement (s : State) (n : Nat) : (s.regionIdle n).retirement = s.retirement := by
  unfold State.regionIdle
  split
  · exact s.wipeRegion_retirement n
  · rfl

theorem State.enableRegion_retirement (s : State) (n : Nat) : (s.enableRegion n).retirement = s.retirement := by
  cases hold : s.oldAllotFits n with
  | true =>
    rw [State.enableRegion_again hold, State.retirement_setF_desc _ _ _ rfl (by decide),
      State.retirement_setF_desc _ _ _ rfl (by decide)]
  | false =>
    cases hnew : s.newAllot n with
    | none =>
      rw [State.enableRegion_full hold hnew, State.retirement_setF_desc _ _ _ rfl (by decide),
        State.retirement_setF_desc _ _ _ rfl (by decide)]
    | some a =>
      rw [State.enableRegion_fills hold hnew, State.retirement_setF_desc _ _ _ rfl (by decide)]
      exact State.retirement_withHbm _ _ rfl

/-- The VALID writes that waited, carried out in turn (09 R324). -/
def State.enableWaiting (s : State) (ns : List Nat) : State :=
  ns.foldl (fun s n => (s.enableRegion n).regionIdle n) s

theorem State.enableWaiting_retirement (s : State) (ns : List Nat) : (s.enableWaiting ns).retirement = s.retirement :=
  List.foldlRecOn (motive := fun t : State => t.retirement = s.retirement) _ _ rfl fun t ht n _ =>
    ((t.enableRegion n).regionIdle_retirement n).trans ((t.enableRegion_retirement n).trans ht)

/-! ### The end of the move -/

/-- A retirement that is done: the pseudo-channel in the retired set, and every line counted as moved (09 R323). -/
def State.closeRetire (s : State) (pc : Nat) : State :=
  let t := (s.markRetired pc).setF F.hbmCtlRetire_STATE 0 2
  t.setF F.hbmCtlRetireMoved_LINES 0 (t.f F.hbmCtlRetireTotal_LINES 0)

theorem State.markRetired_hbm (s : State) (pc : Nat) : (s.markRetired pc).hbm = s.hbm := rfl

theorem State.closeRetire_retirement (s : State) (pc : Nat) : (s.closeRetire pc).retirement = (2, s.hbm.move) := by
  unfold State.closeRetire State.retirement
  rw [State.f_setF_ne _ _ (by decide) (by decide) (by decide), State.f_setF_self _ _ _ _ (by decide),
    State.setF_hbm, State.setF_hbm, State.markRetired_hbm]
  rfl

/-- The bit of the retired set stays as the words of the other registers are written. -/
theorem State.retiredPc_closeRetire (s : State) {pc : Nat} (h : pc < 512) : (s.closeRetire pc).retiredPc pc = true := by
  have hi : pc / 32 < 2 ^ 24 := by omega
  have marked : (s.markRetired pc).rget .hbmCtlRetired (pc / 32) =
      s.rget .hbmCtlRetired (pc / 32) ||| bit32 (pc % 32) := by
    calc _ = (((s.rset .hbmCtlRetired (pc / 32) (s.rget .hbmCtlRetired (pc / 32) ||| bit32 (pc % 32))).setF
            F.hbmCtlStatus_RETIRED 0 _).setF F.stackPcStatus_RETIRED pc 1).rget .hbmCtlRetired (pc / 32) :=
          State.rget_of_regs rfl _ _
      _ = _ := by
        rw [State.rget_setF_ne _ _ (by omega) hi (by decide), State.rget_setF_ne _ _ (by decide) hi (by decide),
          State.rget_rset_self]
  unfold State.closeRetire State.retiredPc
  rw [State.rget_setF_ne _ _ (by decide) hi (by decide), State.rget_setF_ne _ _ (by decide) hi (by decide), marked,
    BitVec.getLsbD_or, getLsbD_bit32 (Nat.mod_lt _ (by decide)), Bool.or_true]

/-- The end of a move: over a state in which no move runs the retirement is closed, then the VALID writes that waited
are carried out. -/
theorem State.endMove_cases (s : State) (m : RetireMove) :
    ∃ u : State, u.hbm.move = none ∧
      s.endMove m = ((u.closeRetire m.pc).enableWaiting s.hbm.deferred).ploro (List.range 64) := by
  unfold State.endMove
  extract_lets t moved forgotten kept waits hbm u
  have dropped : t.hbm = s.hbm :=
    List.foldlRecOn (motive := fun t : State => t.hbm = s.hbm) _ _ rfl fun t ht l _ => (t.dropLine_hbm l true).trans ht
  have waiting : waits = s.hbm.deferred := congrArg HbmState.deferred dropped
  exact ⟨u, rfl, by rw [waiting]; rfl⟩

theorem State.endMove_retirement (s : State) (m : RetireMove) : (s.endMove m).retirement = (2, none) := by
  obtain ⟨u, hu, h⟩ := s.endMove_cases m
  rw [h, State.ploro_keeps State.retirement (fun _ _ => rfl), State.enableWaiting_retirement,
    State.closeRetire_retirement, hu]

theorem State.retiredPc_endMove (s : State) {m : RetireMove} (hd : s.hbm.deferred = []) (h : m.pc < 512) :
    (s.endMove m).retiredPc m.pc = true := by
  obtain ⟨u, -, he⟩ := s.endMove_cases m
  rw [he, hd, State.ploro_keeps (fun t => t.retiredPc m.pc) (fun _ _ => rfl)]
  exact u.retiredPc_closeRetire h

/-- Settles O33: the write is refused, starts the move or, where nothing is to be read, ends it at once; the end leaves
STATE 2 and no move whatever waited for it, and the pseudo-channel retired. -/
theorem retirement : Obligations.Retirement := by
  refine ⟨fun s v hg hs => ⟨fun hr => ?retired, fun hr hf hm => ?full, fun hr hf => ?filling,
    fun hr hf ts hm => ⟨fun hi => ?starts, fun hi => ?isolated⟩⟩, fun s m hpc hm hruns hfar hd => ?ends⟩
  case retired => exact State.completes_refuseRetire hg (State.writeRetire_retired hg hs rfl hr)
  case full => exact State.completes_refuseRetire hg (State.writeRetire_full hg hs rfl hr hf hm)
  case filling => exact State.completes_refuseRetire hg (State.writeRetire_filling hg hs rfl hr hf)
  case starts =>
    refine ⟨_, State.completes_writeRetire hg (State.writeRetire_starts hg hs rfl hr hf hm hi), ?_⟩
    rw [State.pins_f, State.pins_hbm, State.service_f, State.service_hbm, State.startRetire_hbm]
    exact ⟨State.f_startRetire_STATE _ _, rfl⟩
  case isolated =>
    refine ⟨_, State.completes_writeRetire hg (State.writeRetire_isolated hg hs rfl hr hf hm hi), ?_⟩
    rw [State.pins_f, State.pins_hbm, State.service_f, State.service_hbm]
    exact Prod.mk.inj (State.endMove_retirement _ _)
  case ends =>
    refine ⟨_, completes_of_effect (by rw [hruns, hfar]; rfl) rfl rfl (by rw [hm]), ?_⟩
    obtain ⟨state, move⟩ := Prod.mk.inj (s.endMove_retirement m)
    rw [State.pins_f, State.pins_hbm, State.service_f, State.service_hbm]
    exact ⟨state, move, by
      simpa only [State.retiredPc, State.pins_rget, State.service_rget] using s.retiredPc_endMove hd hpc⟩

end Sys2Proof.Machine
end

section
/-!
PROOF. Channel and burst events of a stack (09 R307, R310, R314, R318): what a retry, a retrain and a soft repair leave
in the stack's words and in the lists of what is under way.
-/
namespace Sys2Proof.Machine

section Stack
variable {s : State} {stack chan : Nat}

theorem stackChannel_wf (hs : stack < 16) (hc : chan < 16) : (decide (stack < 16) && decide (chan < 16)) = true := by
  simp [hs, hc]

/-- A parity error is met where the channel serves (09 R310). -/
theorem State.completes_caParityError {t : State} (hs : stack < 16) (hc : chan < 16)
    (ht : s.b F.stackStatus_TRAINED stack = true) (hn : s.hbm.training.contains (stack * 16 + chan) = false)
    (hf : s.f F.stackStatus_FAILED_CH stack / 2 ^ chan % 2 = 0) (ok : Bool) (h : s.doParity stack chan ok = t) :
    Completes (.caParityError stack chan ok) s t.pins :=
  completes_of_effect (by rw [ht, hn, hf]; rfl) (stackChannel_wf hs hc) rfl h

theorem State.doParity_training :
    (s.doParity stack chan false).hbm.training = (stack * 16 + chan) :: s.hbm.training :=
  congrArg (fun h : HbmState => (stack * 16 + chan) :: h.training) (s.bump_hbm .stackEvtLo .stackEvtHi _ 1)

/-! ### The failure of a channel -/

theorem State.recordHbm_hbm (s : State) (pc line kind : Nat) (scrub : Bool) :
    (s.recordHbm pc line kind scrub).hbm = s.hbm := by
  unfold State.recordHbm
  dsimp only
  split
  · exact State.setF_hbm _ _ _ _
  · rw [State.setF_hbm, State.rset_hbm]

/-- The record of a memory error is in two registers of its stack (09 R326). -/
theorem State.f_recordHbm (s : State) {pc : Nat} (line kind : Nat) (scrub : Bool) {x : Fld} {i : Nat}
    (hpc : pc < 512) (hi : i < 2 ^ 24) (hx : x.reg ≠ .stackErrInfo) (hl : x.reg ≠ .stackErrLine) :
    (s.recordHbm pc line kind scrub).f x i = s.f x i := by
  have hk : pc / 32 < 2 ^ 24 := by omega
  unfold State.recordHbm
  dsimp only
  split
  · exact s.f_setF_ne _ hk hi (.inl hx)
  · rw [State.f_setF_ne _ _ hk hi (.inl hl), s.f_rset_ne _ hk hi hx]

/-- A channel whose retraining failed: out of service, and its two pseudo-channels advised (09 R310, R320). -/
def State.failChannel (s : State) (stack chan : Nat) : State :=
  let t := s.setF F.stackStatus_FAILED_CH stack (s.f F.stackStatus_FAILED_CH stack ||| 2 ^ chan)
  (t.advise (32 * stack + 2 * chan)).advise (32 * stack + 2 * chan + 1)

theorem State.f_failChannel (hs : stack < 16) (hc : chan < 16) :
    (s.failChannel stack chan).f F.stackStatus_FAILED_CH stack =
      (s.f F.stackStatus_FAILED_CH stack ||| 2 ^ chan) := by
  have fits : s.f F.stackStatus_FAILED_CH stack ||| 2 ^ chan < 2 ^ 16 :=
    Nat.or_lt_two_pow (bitsOf_lt _ _ _) (Nat.pow_lt_pow_right (by decide) hc)
  unfold State.failChannel State.advise
  rw [State.f_setF_ne _ _ (by omega) (by omega) (.inl (by decide)),
    State.f_setF_ne _ _ (by omega) (by omega) (.inl (by decide)),
    State.f_setF_self _ _ _ _ (by decide)]
  exact Nat.mod_eq_of_lt fits

/-- A retraining taken off the list. -/
def State.leaveTraining (s : State) (stack chan : Nat) : State :=
  { s with hbm := { s.hbm with training := s.hbm.training.filter (· != stack * 16 + chan) } }

theorem State.endRetrain_failed (s : State) (stack chan : Nat) :
    s.endRetrain stack chan false =
      s.service ((((s.leaveTraining stack chan).draw.2.failChannel stack chan).recordHbm (32 * stack + 2 * chan)
        (s.leaveTraining stack chan).draw.1.toNat 2 false).ploro (List.range 64)) := by
  unfold State.endRetrain State.failChannel
  rw [if_neg (by decide)]
  rfl

theorem State.f_endRetrain_failed (hs : stack < 16) (hc : chan < 16) :
    (s.endRetrain stack chan false).f F.stackStatus_FAILED_CH stack =
      (s.f F.stackStatus_FAILED_CH stack ||| 2 ^ chan) := by
  rw [State.endRetrain_failed, State.service_f,
    State.ploro_keeps (fun t => t.f F.stackStatus_FAILED_CH stack) (fun _ _ => rfl),
    State.f_recordHbm _ _ _ _ (by omega) (by omega) (by decide) (by decide), State.f_failChannel hs hc]
  rfl

theorem State.endRetrain_failed_training :
    (s.endRetrain stack chan false).hbm.training = s.hbm.training.filter (· != stack * 16 + chan) := by
  rw [State.endRetrain_failed, State.service_hbm, State.ploro_keeps State.hbm (fun _ _ => rfl), State.recordHbm_hbm]
  rfl

end Stack

/-! ### The end of a soft repair -/

section Repair
variable {s : State} {pc row : Nat}

/-- A soft repair taken off the list: the repair of its row is one of the records, and one fewer is left. -/
def State.leaveRepair (s : State) (pc row : Nat) : State :=
  { s with
    hbm := { s.hbm with
      pprStall := s.hbm.pprStall.erase (pc, row)
      pprLeft := SMap.set 0 s.hbm.pprLeft pc (SMap.get 0 s.hbm.pprLeft pc - 1) }
    sec := { s.sec with repairs := s.sec.repairs ++ [BitVec.ofNat 32 (pc + 512 * row)] } }

theorem State.endPpr_eq (h : s.hbm.pprStall.find? (fun x => x.1 == pc) = some (pc, row)) :
    s.endPpr pc = (((s.leaveRepair pc row).stackCount (pc / 32) 4).setF F.stackPcStatus_PPR_PENDING pc 1).setF
      F.stackPcStatus_PPR_LEFT pc (min 15 (SMap.get 0 s.hbm.pprLeft pc - 1)) := by
  rw [State.endPpr, h]
  rfl

variable (h : s.hbm.pprStall.find? (fun x => x.1 == pc) = some (pc, row))
include h

theorem State.b_endPpr_PENDING : (s.endPpr pc).b F.stackPcStatus_PPR_PENDING pc = true := by
  rw [State.endPpr_eq h, State.b_setF_field _ _ _ (by decide) (by decide) (by decide),
    State.b_setF_self _ _ _ _ (by decide)]
  rfl

theorem State.f_endPpr_LEFT :
    (s.endPpr pc).f F.stackPcStatus_PPR_LEFT pc = min 15 (SMap.get 0 s.hbm.pprLeft pc - 1) := by
  rw [State.endPpr_eq h, State.f_setF_self _ _ _ _ (by decide)]
  exact Nat.mod_eq_of_lt (Nat.lt_of_le_of_lt (Nat.min_le_left _ _) (by decide))

theorem State.endPpr_pprStall : (s.endPpr pc).hbm.pprStall = s.hbm.pprStall.erase (pc, row) := by
  rw [State.endPpr_eq h, State.setF_hbm, State.setF_hbm, State.stackCount, State.bump_hbm]
  rfl

theorem State.completes_softPprComplete (hpc : pc < 512) (hn : s.hbm.training.contains (pc / 2) = false) :
    Completes (.softPprComplete pc) s (s.endPpr pc).pins := by
  have stalls : s.hbm.pprStall.any (fun x => x.1 == pc) = true :=
    List.any_eq_true.2 ⟨_, List.mem_of_find?_eq_some h, beq_self_eq_true pc⟩
  exact completes_of_effect (by rw [stalls, hn]; rfl) (decide_eq_true hpc) rfl rfl

end Repair

/-- Settles O34: each event takes place where its premises say, a failed retrain and the end of a repair write the
stack's words as named, and the checks of a burst are the model's. -/
theorem hbmEvents : Obligations.HbmEvents := by
  refine ⟨fun s stack chan hs hc => ⟨fun ht hn hf => ⟨?retried, ?retrains⟩, fun htr => ⟨?passed, ?failed⟩⟩,
    fun s pc hpc => ⟨fun row hrow hn => ?repaired, fun r hdue hst => ?scrub, fun line who r hw hl ht hst hf => ?read⟩⟩
  case retried => exact State.completes_caParityError hs hc ht hn hf true rfl
  case retrains =>
    refine ⟨_, State.completes_caParityError hs hc ht hn hf false rfl, ?_⟩
    rw [State.pins_hbm, State.doParity_training]
    exact List.mem_cons_self
  case passed => exact completes_of_effect htr (stackChannel_wf hs hc) rfl rfl
  case failed =>
    refine ⟨_, completes_of_effect htr (stackChannel_wf hs hc) rfl rfl, ?_⟩
    rw [State.pins_f, State.pins_hbm, State.endRetrain_failed_training]
    exact ⟨State.f_endRetrain_failed hs hc, by simp⟩
  case repaired =>
    refine ⟨_, State.completes_softPprComplete hrow hpc hn, ?_⟩
    rw [State.pins_b, State.pins_f, State.pins_hbm]
    exact ⟨State.b_endPpr_PENDING hrow, State.f_endPpr_LEFT hrow, State.endPpr_pprStall hrow⟩
  case scrub => exact completes_of_effect (by rw [hdue, hst]; rfl) (decide_eq_true hpc) rfl rfl
  case read => exact completes_of_effect (by rw [ht, hst, hf, decide_eq_true hl]; rfl) hw rfl rfl

end Sys2Proof.Machine
end

section
/-!
PROOF. Messages that come in on an up port (10 R335, R345, R348): what a port does with one, and the rows that a message
for this device acts by.
-/
namespace Sys2Proof.Machine

/-! ### What a port does with a message -/

section Arrive
variable {s : State} {port : Nat} {m : Msg} (act : State → Option State)

/-- A message of a reserved type, or on another channel than its type's (10 R335). -/
theorem State.arrive_of_wrongChannel (h : m.vcOf ≠ some m.vc) :
    s.arrive port m act = (s.portCount port 1 m.flits).portCount port 5 1 :=
  if_pos (bne_iff_ne.2 h)

variable (hv : m.vcOf = some m.vc)
include hv

theorem State.arrive_of_noNode (hn : (s.portCount port 1 m.flits).nodeId = none) :
    s.arrive port m act = s.portCount port 1 m.flits := by
  simp [State.arrive, hv, hn]

theorem State.arrive_of_otherNode (hs : (s.portCount port 1 m.flits).nodeId.isSome = true)
    (hn : (s.portCount port 1 m.flits).nodeId ≠ some m.dnode.toNat) :
    s.arrive port m act = (s.portCount port 1 m.flits).transit port m := by
  obtain ⟨me, hme⟩ := Option.isSome_iff_exists.1 hs
  have hne : m.dnode.toNat ≠ me := fun h => hn (hme.trans (congrArg some h.symm))
  simp [State.arrive, hv, hme, hne]

section Here
variable (hn : (s.portCount port 1 m.flits).nodeId = some m.dnode.toNat)
include hn

theorem State.arrive_of_channelWaits (hw : (s.portCount port 1 m.flits).channelWaits port m = true) :
    s.arrive port m act = (s.portCount port 1 m.flits).bufferMsg port m := by
  simp [State.arrive, hv, hn, hw]

theorem State.arrive_of_served (hw : (s.portCount port 1 m.flits).channelWaits port m = false) :
    s.arrive port m act =
      (act (s.portCount port 1 m.flits)).getD ((s.portCount port 1 m.flits).bufferMsg port m) := by
  simp [State.arrive, hv, hn, hw]

end Here

end Arrive

/-! ### The rows -/

/-- A message on its type's channel is of its row's type. -/
theorem State.type_of_comesIn {s : State} {port : Nat} {m : Msg} {type : BitVec 6}
    (h : s.comesIn port m type = true) (hv : m.vcOf = some m.vc) : m.type = type := by
  simp only [State.comesIn, hv, Option.isNone_some, Bool.or_false, Bool.and_eq_true, beq_iff_eq] at h
  exact h.1.2

theorem completes_served {c : Instr} {s t : State} {port : Nat} {m : Msg} {type : BitVec 6}
    (he : exec c s = served c s port m type) (hw : c.wf = true) (hc : s.comesIn port m type = true)
    (ht : s.arrive port m (fun s => s.serve port m) = t) : Completes c s t.retryBuffers.pins :=
  completes_of_effect hc hw he (congrArg State.retryBuffers ht)

theorem completes_fromPort {c : Instr} {s t : State} {port : Nat} {m : Msg} {type : BitVec 6}
    {act : State → Option State} (he : exec c s = fromPort c s port m type act) (hw : c.wf = true)
    (hc : s.comesIn port m type = true) (ht : s.arrive port m act = t) : Completes c s t.pins :=
  completes_of_effect hc hw he ht

/-! ### The obligation -/

/-- Settles O46: each row is what its port does with the message, by the message's type; after a message of VC 1 to VC 3
the buffers are tried again. -/
theorem fabricMessages : Obligations.FabricMessages := by
  refine ⟨fun s port m c type act hrow hw hc => ?_, fun s port m c type act hrow hw hc => ?_⟩
  · have row : exec c s = fromPort c s port m type act := by
      simp only [List.mem_cons, List.not_mem_nil, or_false, Prod.mk.injEq] at hrow
      rcases hrow with ⟨rfl, rfl, rfl⟩ | ⟨rfl, rfl, rfl⟩ | ⟨rfl, rfl, rfl⟩ | ⟨rfl, rfl, rfl⟩ | ⟨rfl, rfl, rfl⟩ |
        ⟨rfl, rfl, rfl⟩ <;> rfl
    exact ⟨fun hv => completes_fromPort row hw hc (State.arrive_of_wrongChannel act hv),
      fun hv hn => completes_fromPort row hw hc (State.arrive_of_noNode act hv hn),
      fun hv hs hn => completes_fromPort row hw hc (State.arrive_of_otherNode act hv hs hn),
      fun hv hn hq => completes_fromPort row hw hc (State.arrive_of_served act hv hn hq)⟩
  · have row : exec c s = served c s port m type ∧ (m.type = type → ∀ u : State, u.serve port m = act u) := by
      unfold State.serve
      simp only [List.mem_cons, List.not_mem_nil, or_false, Prod.mk.injEq] at hrow
      rcases hrow with ⟨rfl, rfl, rfl⟩ | ⟨rfl, rfl, rfl⟩ | ⟨rfl, rfl, rfl⟩ | ⟨rfl, rfl, rfl⟩ | ⟨rfl, rfl, rfl⟩ |
        ⟨rfl, rfl, rfl⟩ | ⟨rfl, rfl, rfl⟩ | ⟨rfl, rfl, rfl⟩ | ⟨rfl, rfl, rfl⟩ | ⟨rfl, rfl, rfl⟩ | ⟨rfl, rfl, rfl⟩ |
        ⟨rfl, rfl, rfl⟩ | ⟨rfl, rfl, rfl⟩ <;> exact ⟨rfl, fun ht u => by rw [ht]; rfl⟩
    obtain ⟨row, serves⟩ := row
    refine ⟨fun hv => completes_served row hw hc (State.arrive_of_wrongChannel _ hv),
      fun hv hn => completes_served row hw hc (State.arrive_of_noNode _ hv hn),
      fun hv hs hn => completes_served row hw hc (State.arrive_of_otherNode _ hv hs hn),
      fun hv hn hq => completes_served row hw hc (State.arrive_of_channelWaits _ hv hn hq), fun hv hn hq => ?_⟩
    rw [← serves (State.type_of_comesIn hc hv)]
    exact completes_served row hw hc (State.arrive_of_served _ hv hn hq)

end Sys2Proof.Machine
end

section
/-!
PROOF. What the homes of this device answer to requests of other nodes (10 R337, R349, R351, R353), and a response that
no request waits for (10 R350).
-/
namespace Sys2Proof.Machine

section Served
variable {s : State} {m : Msg} {p k ofs : Nat}

/-- A request whose line is here is the row's to serve. The body of `homeLine` comes in as an equation of functions: the
kernel, asked for an equation of their values, would evaluate the translation of `m.here`. -/
theorem State.homeLine_of_own {u : Use} (ht : s.translate p m.here u = .at (.own k ofs)) (type : BitVec 6)
    (act : State → Nat → Option State) : s.homeLine p m u type act = act (s.noteXlat p m.here) ofs := by
  have body := @rfl _ @State.homeLine
  conv at body => rhs; delta State.homeLine
  simp only [body, ht]

/-- A request that no key admits is refused, whatever it asks (10 R349). -/
theorem State.serve_of_noKey (hk : s.keyPart m = none) (port : Nat) :
    s.serveRd m = s.refuseIn m 1 0x10 ∧ s.serveWr m = s.refuseIn m 1 0x11 ∧ s.serveAtom port m = s.refuseIn m 1 0x12 ∧
      s.serveTrd m = s.refuseIn m 1 0x14 ∧ s.checkLanding m = fun _ => s.refuseIn m 1 0x13 := by
  refine ⟨?_, ?_, ?_, ?_, funext fun _ => ?_⟩
  · rw [State.serveRd, hk]
  · rw [State.serveWr, hk]
  · rw [State.serveAtom, hk]
  · rw [State.serveTrd, hk]
  · rw [State.checkLanding, hk]

theorem State.mgmt_of_notOk (h : s.mgmtOk m = false) :
    s.mgmtRead m = s.refuseIn m 0 0x08 ∧ s.mgmtWrite m = s.refuseIn m 0 0x08 := by
  simp [State.mgmtRead, State.mgmtWrite, h]

variable (hk : s.keyPart m = some p)
include hk

/-- A tile whose checksum fails lands nowhere, whatever was to be done with it (10 R337). -/
theorem State.checkLanding_of_broken (hi : m.intact = false) (act : Nat → Option State) :
    s.checkLanding m act =
      (s.ctlCount 6).answer p m { Msg.empty with vc := 1, type := 0x13, status := 5 } := by
  simp [State.checkLanding, hk, hi]

section Read
variable (ht : s.translate p m.here .load = .at (.own k ofs))
include ht

theorem State.serveRd_behind (hf : (s.noteXlat p m.here).farFrom m.snode (gLine ofs) = true) : s.serveRd m = none := by
  rw [State.serveRd, hk]
  exact (State.homeLine_of_own ht _ _).trans (if_pos hf)

theorem State.serveRd_of_line (hf : (s.noteXlat p m.here).farFrom m.snode (gLine ofs) = false) {d : List Byte} {u : State}
    (hr : (s.noteXlat p m.here).naRead (gLine ofs) = .ok (d, u)) :
    s.serveRd m = u.answer p m { Msg.empty with
      vc := 1, type := 0x10, rc := u.b F.llmRgnDesc_RCACHE (regionOf ofs) && u.cacheable (gLine ofs),
      head := zeros 32 ++ d } := by
  rw [State.serveRd, hk]
  refine (State.homeLine_of_own ht _ _).trans ((if_neg (Bool.eq_false_iff.1 hf)).trans ?_)
  rw [hr]

end Read

section Write
variable (ht : s.translate p m.here .store = .at (.own k ofs))
include ht

theorem State.serveWr_behind (hf : (s.noteXlat p m.here).farFrom m.snode (gLine ofs) = true) : s.serveWr m = none := by
  rw [State.serveWr, hk]
  exact (State.homeLine_of_own ht _ _).trans (if_pos hf)

theorem State.serveWr_of_merged (hf : (s.noteXlat p m.here).farFrom m.snode (gLine ofs) = false) {u : State}
    (hw : (s.noteXlat p m.here).naMerge (gLine ofs) (BitVec.ofNat 128 (leNat ((m.head.drop 8).take 16)))
      ((m.head.drop 32).take 128) = .ok u) :
    s.serveWr m = u.answer p m { Msg.empty with vc := 1, type := 0x11 } := by
  rw [State.serveWr, hk]
  refine (State.homeLine_of_own ht _ _).trans ((if_neg (Bool.eq_false_iff.1 hf)).trans ?_)
  rw [hw]

end Write

end Served

/-! ### The obligation -/

/-- Settles O47: the key is looked at first, then a tile's checksum, then the line with the far operations that wait on
it. -/
theorem requestsServed : Obligations.RequestsServed := by
  refine ⟨fun s port m hk => ?noKey, fun s port p m hk hi => ?broken,
    fun s u p k ofs m d hk => ⟨State.serveRd_behind hk, State.serveWr_behind hk,
      fun ht hf hr => State.serveRd_of_line hk ht hf hr, fun ht hf hw => State.serveWr_of_merged hk ht hf hw⟩,
    fun s m hn => by rw [State.takeResponse, hn]⟩
  case noKey =>
    obtain ⟨rd, wr, atom, trd, landing⟩ := State.serve_of_noKey hk port
    exact ⟨rd, wr, atom, trd, congrFun landing _, congrFun landing _, State.mgmt_of_notOk⟩
  case broken =>
    have landing (act : Nat → Option State) := State.checkLanding_of_broken hk hi act
    exact ⟨landing _, (landing _).trans (landing _).symm⟩

end Sys2Proof.Machine
end

section
/-!
SUPPORT. Registers that no enable protects, and ports: what a write leaves in the word, what a change of the tables and
of the service request leaves alone, and the state of one port.
-/
namespace Sys2Proof.Machine

/-! ### Registers that no enable protects (16 R541) -/

section Free
variable {r : Reg} (h : ∀ x ∈ r.info.fields, x.acc ≠ .rwd) (s : State) (i : Nat) (v : W32)
include h

/-- No write of such a register is ignored. -/
theorem State.code_of_free : s.code r i v = s.rset r i (r.written (s.held r i) (s.rget r i) v) := by
  have free : r.touches (s.rget r i) v = false :=
    List.any_eq_false.2 fun x hx => by simp [h x hx]
  simp [State.code, free]

theorem State.rget_code_self : (s.code r i v).rget r i = r.written (s.held r i) (s.rget r i) v := by
  rw [State.code_of_free h, State.rget_rset_self]

/-- A field of another register. -/
theorem State.f_code_ne {x : Fld} {j : Nat} (hi : i < 2 ^ 24) (hj : j < 2 ^ 24) (hx : x.reg ≠ r) :
    (s.code r i v).f x j = s.f x j := by
  rw [State.code_of_free h, State.f_rset_ne _ _ hi hj hx]

/-- A read-write field takes its bits of the word. -/
theorem State.f_code_rw {x : Fld} {reset : Nat} (hr : x.reg = r) (hx : ⟨x.lo, x.n, .rw, reset⟩ ∈ r.info.fields) :
    (s.code r i v).f x i = bitsOf v x.lo x.n := by
  rw [State.f, hr, State.rget_code_self h]
  exact r.bitsOf_written _ _ v hx

end Free

/-- A one-bit field that is set. -/
theorem State.b_setF_one (s : State) {x : Fld} (i : Nat) (h : x.lo + x.n ≤ 32) (hn : x.n = 1) :
    (s.setF x i 1).b x i = true := by
  rw [State.b_setF_self _ _ _ _ h, hn]
  rfl

/-! ### Words that show in a table (16 R551, R557) -/

/-- A write of a word that a table shows changes the table's generation beside it. -/
theorem State.rget_ifChanged (s t : State) (ps : List Nat) (r : Reg) (i : Nat) :
    (if t.regs == s.regs then s else t.ploro ps).rget r i = t.rget r i := by
  split
  · next h => exact (State.rget_of_regs (eq_of_beq h) r i).symm
  · exact State.ploro_keeps (fun u => u.rget r i) (fun _ _ => rfl) t ps

theorem State.showPorts_keeps {α : Sort _} (p : State → α) (hp : ∀ (s : State) ras, p { s with ras := ras } = p s)
    (a b : State) : p (State.showPorts a b) = p b := by
  unfold State.showPorts
  split
  · rfl
  · exact State.ploro_keeps p hp b _

@[simp] theorem State.portsChanged_regs (a b : State) : (State.portsChanged a b).regs = b.regs :=
  (State.service_regs _ _).trans (State.showPorts_keeps State.regs (fun _ _ => rfl) a b)

@[simp] theorem State.portsChanged_fab (a b : State) : (State.portsChanged a b).fab = b.fab :=
  (State.service_fab _ _).trans (State.showPorts_keeps State.fab (fun _ _ => rfl) a b)

@[simp] theorem State.portsChanged_f (a b : State) (x : Fld) (i : Nat) : (State.portsChanged a b).f x i = b.f x i :=
  State.f_of_regs (State.portsChanged_regs a b) x i

/-! ### One port -/

theorem State.port_of_fab {s t : State} (h : t.fab = s.fab) (p : Nat) : t.port p = s.port p := by
  rw [State.port, h, State.port]

@[simp] theorem State.port_setPort_self (s : State) (p : Nat) (x : PortSt) : (s.setPort p x).port p = x :=
  SMap.get_set_self _ _ _ _

@[simp] theorem State.port_setF (s : State) (x : Fld) (i v p : Nat) : (s.setF x i v).port p = s.port p := rfl

@[simp] theorem State.port_portCount (s : State) (q n k p : Nat) : (s.portCount q n k).port p = s.port p :=
  State.port_of_fab (State.bump_fab _ _ _ _ _) p

@[simp] theorem State.port_pins (s : State) (p : Nat) : s.pins.port p = s.port p := rfl

@[simp] theorem State.port_portsChanged (a b : State) (p : Nat) : (State.portsChanged a b).port p = b.port p :=
  State.port_of_fab (State.portsChanged_fab a b) p

@[simp] theorem State.f_setPort (s : State) (p : Nat) (y : PortSt) (x : Fld) (i : Nat) :
    (s.setPort p y).f x i = s.f x i := rfl

/-- A counter of a port leaves the fields of other registers alone. -/
theorem State.f_portCount (s : State) {port n : Nat} (k : Nat) {x : Fld} {i : Nat} (hp : port < 8) (hn : n < 6)
    (hi : i < 2 ^ 24) (hl : x.reg ≠ .portEvtLo) (hh : x.reg ≠ .portEvtHi) :
    (s.portCount port n k).f x i = s.f x i := by
  rw [State.f, State.portCount, State.rget_bump_ne s k (by omega) hi (.inr ⟨hl, hh⟩), State.f]

/-- A link that starts its retrain (10 R329). -/
theorem State.port_retrain (s : State) (port : Nat) :
    (s.retrain port).port port = { s.port port with training := true, replay := 0 } :=
  State.port_setPort_self _ _ _

theorem State.linked_iff (s : State) (port : Nat) :
    s.linked port = true ↔ s.f F.portStatus_STATE port = 2 ∨ s.f F.portStatus_STATE port = 3 := by
  simp [State.linked]

theorem State.linked_of_state {s t : State} {port : Nat} (h : t.f F.portStatus_STATE port = s.f F.portStatus_STATE port) :
    t.linked port = s.linked port := by
  rw [State.linked, h, State.linked]

end Sys2Proof.Machine
end

section
/-!
PROOF. Writes of a port's control word (10 R331, R372), of the route table (10 R369), of the partition keys (10 R370) and
of the span windows (10 R356).
-/
namespace Sys2Proof.Machine

/-! ### The control word of a port -/

section Ctrl
variable {s : State} {port : Nat} {v : W32}

theorem portCtrl_free : ∀ x ∈ Reg.portCtrl.info.fields, x.acc ≠ .rwd := by decide

theorem State.b_code_portCtrl_ENABLE :
    (s.code .portCtrl port v).b F.portCtrl_ENABLE port = (bitsOf v 0 1 == 1) :=
  congrArg (· == 1) (s.f_code_rw portCtrl_free port v (x := F.portCtrl_ENABLE) (reset := 0) rfl (by decide))

theorem State.f_code_portCtrl_STATE (hp : port < 8) :
    (s.code .portCtrl port v).f F.portStatus_STATE port = s.f F.portStatus_STATE port :=
  s.f_code_ne portCtrl_free port v (by omega) (by omega) (by decide)

variable (h0 : bitsOf v 0 1 = 1)
include h0

theorem State.writePortCtrl_enables (hs : s.b F.portCtrl_ENABLE port = false) :
    s.writePortCtrl port v = (s.code .portCtrl port v).setF F.portStatus_STATE port 1 := by
  simp [State.writePortCtrl, h0, hs]

theorem State.writePortCtrl_retrains (h1 : bitsOf v 1 1 = 1) (hs : s.b F.portCtrl_ENABLE port = true) :
    s.writePortCtrl port v = (s.code .portCtrl port v).askRetrain port := by
  simp [State.writePortCtrl, h0, h1, hs]

theorem State.writePortCtrl_inTraining (hp : port < 8) (hs : s.b F.portCtrl_ENABLE port = false) :
    (s.writePortCtrl port v).f F.portStatus_STATE port = 1 ∧ (s.writePortCtrl port v).b F.portCtrl_ENABLE port = true := by
  rw [State.writePortCtrl_enables h0 hs, State.f_setF_self _ _ _ _ (by decide), State.b,
    State.f_setF_ne _ _ (by omega) (by omega) (.inl (by decide))]
  exact ⟨rfl, State.b_code_portCtrl_ENABLE.trans (beq_iff_eq.2 h0)⟩

omit h0 in
/-- A link in service that is asked to retrain is in training, whether it was before or not. -/
theorem State.askRetrain_training {t : State} (hc : t.b F.portCtrl_ENABLE port = true) (hl : t.linked port = true) :
    ((t.askRetrain port).port port).training = true := by
  have can : t.canRetrain port = true := by
    rcases (t.linked_iff port).1 hl with h | h <;> simp [State.canRetrain, hc, h]
  simp only [State.askRetrain, can, hl]
  by_cases ht : (t.port port).training = true
  · simp [ht]
  · simp [ht, State.port_retrain]

theorem State.writePortCtrl_training (hp : port < 8) (h1 : bitsOf v 1 1 = 1) (hs : s.b F.portCtrl_ENABLE port = true)
    (hu : s.portUp port = true) : ((s.writePortCtrl port v).port port).training = true := by
  rw [State.writePortCtrl_retrains h0 h1 hs]
  refine State.askRetrain_training (State.b_code_portCtrl_ENABLE.trans (beq_iff_eq.2 h0)) ?_
  rw [State.linked_of_state (State.f_code_portCtrl_STATE hp)]
  exact (Bool.and_eq_true_iff.1 hu).2

end Ctrl

/-! ### The tables of the fabric -/

section Tables
variable {s : State} {n : Nat} {v : W32}

theorem State.rget_writeRoute (s : State) (v : W32) :
    (s.writeRoute v).rget .bxfCtlRouteData (s.f F.bxfCtlRouteSel_DNODE 0) =
      Reg.bxfCtlRouteData.written (s.held .bxfCtlRouteData (s.f F.bxfCtlRouteSel_DNODE 0))
        (s.rget .bxfCtlRouteData (s.f F.bxfCtlRouteSel_DNODE 0)) v :=
  (s.rget_ifChanged _ _ _ _).trans (State.rget_code_self (by decide) _ _ _)

theorem State.writeKey_refused (h : s.keyRefused n v = true) :
    s.writeKey n v = (s.setF F.bxfCtlFlags_PKEY_DUP 0 1).setF F.bxfCtlFlags_WRITE_IGNORED 0 1 := if_pos h

theorem State.rget_writeKey (h : s.keyRefused n v = false) :
    (s.writeKey n v).rget .bxfCtlPkey n = Reg.bxfCtlPkey.written (s.held .bxfCtlPkey n) (s.rget .bxfCtlPkey n) v := by
  rw [State.writeKey, if_neg (Bool.eq_false_iff.1 h)]
  exact (s.rget_ifChanged _ _ _ _).trans (State.rget_code_self (by decide) _ _ _)

theorem State.writeSpan_ignored (h : s.b F.bxfCtlSpanwinB_VALID n = true) (wordB : Bool) :
    s.writeSpan n wordB v = s.setF F.bxfCtlFlags_WRITE_IGNORED 0 1 := if_pos h

theorem State.writeSpan_bad (h : s.b F.bxfCtlSpanwinB_VALID n = false) (hv : bitsOf v 31 1 = 1)
    (hs : s.spanOk n v = false) : s.writeSpan n true v = s.setF F.bxfCtlFlags_SPAN_BAD 0 1 := by
  simp [State.writeSpan, h, hv, hs]

/-- A flag of the fabric's controller set, and nothing else. -/
theorem State.SameBut.setFlag {t : State} (h : s.SameBut t (fun r j => r = .bxfCtlFlags ∧ j = 0)) {x : Fld}
    (hx : x.reg = .bxfCtlFlags) : s.SameBut (t.setF x 0 1) (fun r j => r = .bxfCtlFlags ∧ j = 0) :=
  h.setF 1 (by decide) ⟨hx, rfl⟩

end Tables

/-! ### The obligation -/

/-- Settles O48: no enable protects these words, so each takes what is written to it; a refused write sets its flags and
nothing else. -/
theorem portAndTableWords : Obligations.PortAndTableWords := by
  refine ⟨fun s port v hp => ⟨fun h0 => ⟨?_, State.writePortCtrl_inTraining h0 hp⟩,
    fun h1 => ⟨?_, fun h0 => State.writePortCtrl_training h0 hp h1⟩, fun hc => ?cleared⟩,
    fun s v => ⟨_, completes_of_effect rfl rfl rfl rfl, s.rget_writeRoute v⟩,
    fun s n v => ⟨fun hn hr => ?refused, fun hn hr => ?taken, fun wordB hw hv => ?valid, fun hw hv h31 hs => ?bad⟩⟩
  · exact completes_of_effect (beq_iff_eq.2 h0) (decide_eq_true hp) rfl rfl
  · exact completes_of_effect (beq_iff_eq.2 h1) (decide_eq_true hp) rfl rfl
  case cleared =>
    refine ⟨_, completes_of_effect (beq_iff_eq.2 hc) (decide_eq_true hp) rfl rfl, ?_, ?_⟩
    · rw [State.pins_f, State.f_setF_self _ _ _ _ (by decide)]
      rfl
    · exact ((State.SameBut.refl s _).setF 0 (by omega) ⟨rfl, rfl⟩).pins
  case refused =>
    refine ⟨_, completes_of_effect rfl (decide_eq_true hn) rfl (State.writeKey_refused hr), ?_,
      State.b_setF_one _ 0 (by decide) rfl, (((State.SameBut.refl s _).setFlag rfl).setFlag rfl).pins⟩
    exact (State.b_setF_field (x := F.bxfCtlFlags_WRITE_IGNORED) (y := F.bxfCtlFlags_PKEY_DUP) _ 0 1 (by decide) rfl
      (by decide)).trans (s.b_setF_one 0 (by decide) rfl)
  case taken => exact ⟨_, completes_of_effect rfl (decide_eq_true hn) rfl rfl, State.rget_writeKey hr⟩
  case valid =>
    exact ⟨_, completes_of_effect rfl hw rfl (State.writeSpan_ignored hv wordB), s.b_setF_one 0 (by decide) rfl,
      ((State.SameBut.refl s _).setFlag rfl).pins⟩
  case bad =>
    exact ⟨_, completes_of_effect rfl hw rfl (State.writeSpan_bad hv h31 hs), s.b_setF_one 0 (by decide) rfl,
      ((State.SameBut.refl s _).setFlag rfl).pins⟩

end Sys2Proof.Machine
end

section
/-!
PROOF. Barrier units (10 R357, R358, R373, R374): a unit put into service, and an arrival that leaves its round open.
-/
namespace Sys2Proof.Machine

section Unit
variable {s : State} {b : Nat}

/-! ### A round that stays open -/

theorem State.barSettle_of_below (h : s.f F.barStatus_LCOUNT b < s.f F.barCfg_LOCAL b) : s.barSettle b = s := by
  have notFull : s.barFull b = false := by simp [State.barFull, Nat.not_le.2 h]
  simp [State.barSettle, State.barRounds, State.barCheck, notFull]

/-! ### A unit put into service (10 R373) -/

/-- No arrival is held for a later round. -/
def State.holdNone (s : State) (b : Nat) : State :=
  { s with fab := { s.fab with early := SMap.set 0 s.fab.early b 0 } }

theorem State.rget_holdNone (s : State) (r : Reg) (i : Nat) : (s.holdNone b).rget r i = s.rget r i := rfl

/-- A unit whose counts are cleared. -/
def State.clearCounts (s : State) (b : Nat) : State :=
  ((s.setF F.barStatus_LCOUNT b 0).setF F.barStatus_CCOUNT b 0).setF F.barStatus_UP b 0

/-- A unit at the start of its first round: no arrival counted or held, round 0. -/
def State.firstRound (s : State) (b : Nat) : State :=
  (((s.clearCounts b).setPair .barRoundLo .barRoundHi b 0).setF F.barStatus_ROUND b 0).holdNone b

variable (hb : b < 64)

section First
include hb

/-- The low bits of the round count in BAR_STATUS are apart from the counts. -/
theorem State.f_firstRound_count {x : Fld} (hr : x.reg = .barStatus) (hx : x.lo + x.n ≤ 16) :
    (s.firstRound b).f x b = (s.clearCounts b).f x b := by
  rw [State.firstRound, State.f, State.rget_holdNone, ← State.f,
    State.f_setF_field (x := F.barStatus_ROUND) _ b 0 (by decide) hr (.inl hx), State.f,
    State.rget_setPair_ne _ _ (by omega) (by omega) (by rw [hr]; decide) (by rw [hr]; decide), State.f]

theorem State.f_firstRound_LCOUNT : (s.firstRound b).f F.barStatus_LCOUNT b = 0 := by
  rw [State.f_firstRound_count hb rfl (by decide), State.clearCounts,
    State.f_setF_field (x := F.barStatus_UP) (y := F.barStatus_LCOUNT) _ b 0 (by decide) rfl (by decide),
    State.f_setF_field (x := F.barStatus_CCOUNT) (y := F.barStatus_LCOUNT) _ b 0 (by decide) rfl (by decide),
    State.f_setF_self _ _ _ _ (by decide)]
  rfl

theorem State.f_firstRound_CCOUNT : (s.firstRound b).f F.barStatus_CCOUNT b = 0 := by
  rw [State.f_firstRound_count hb rfl (by decide), State.clearCounts,
    State.f_setF_field (x := F.barStatus_UP) (y := F.barStatus_CCOUNT) _ b 0 (by decide) rfl (by decide),
    State.f_setF_self _ _ _ _ (by decide)]
  rfl

theorem State.round_firstRound : (s.firstRound b).round b = 0 := by
  rw [State.firstRound, State.round, State.pair, State.rget_holdNone, State.rget_holdNone,
    State.rget_setF_ne _ _ (by omega) (by omega) (by decide), State.rget_setF_ne _ _ (by omega) (by omega) (by decide)]
  exact State.pair_setPair _ _ (by omega) (by decide)

/-- The layout of the unit is no part of its counts. -/
theorem State.f_firstRound_cfg {x : Fld} (hr : x.reg = .barCfg) : (s.firstRound b).f x b = s.f x b := by
  have status (t : State) (y : Fld) (hy : y.reg = .barStatus) : (t.setF y b 0).f x b = t.f x b :=
    t.f_setF_ne 0 (by omega) (by omega) (.inl (by rw [hr, hy]; decide))
  rw [State.firstRound, State.f, State.rget_holdNone, ← State.f, status _ _ rfl, State.f,
    State.rget_setPair_ne _ _ (by omega) (by omega) (by rw [hr]; decide) (by rw [hr]; decide), ← State.f,
    State.clearCounts, status _ _ rfl, status _ _ rfl, status _ _ rfl]

end First

section Write
variable {v : W32} (h31 : bitsOf v 31 1 = 1) (hs : s.b F.barCfg_ENABLE b = false)
include h31 hs

theorem State.writeBarCfg_enables : s.writeBarCfg b v = ((s.code .barCfg b v).firstRound b).barSettle b := by
  have on : ¬(bitsOf v 31 1 == 0) = true := by rw [h31]; decide
  exact (if_neg (Bool.eq_false_iff.1 hs)).trans (if_neg on)

include hb

/-- A unit that local arrivals are to reach settles nothing before the first (10 R373). -/
theorem State.writeBarCfg_opens (hl : 0 < bitsOf v 21 10) : s.writeBarCfg b v = (s.code .barCfg b v).firstRound b := by
  rw [State.writeBarCfg_enables h31 hs]
  refine State.barSettle_of_below ?_
  rw [State.f_firstRound_LCOUNT hb, State.f_firstRound_cfg hb rfl]
  exact lt_of_lt_of_eq hl
    (s.f_code_rw (by decide) b v (x := F.barCfg_LOCAL) (reset := 0) rfl (by decide)).symm

end Write

/-! ### An arrival (10 R357, R358) -/

section Arrival
variable (hl : s.f F.barStatus_LCOUNT b + 1 < s.f F.barCfg_LOCAL b)
include hl

theorem State.f_count_LCOUNT :
    (s.setF F.barStatus_LCOUNT b (s.f F.barStatus_LCOUNT b + 1)).f F.barStatus_LCOUNT b =
      s.f F.barStatus_LCOUNT b + 1 := by
  rw [State.f_setF_self _ _ _ _ (by decide)]
  exact Nat.mod_eq_of_lt (hl.trans (bitsOf_lt _ _ _))

include hb

/-- An arrival before the last is counted, and nothing else. -/
theorem State.barArrived_counts :
    s.barArrived b = s.setF F.barStatus_LCOUNT b (s.f F.barStatus_LCOUNT b + 1) := by
  rw [State.barArrived, if_pos (Nat.lt_of_succ_lt hl)]
  refine State.barSettle_of_below ?_
  rw [State.f_count_LCOUNT hl, State.f_setF_ne _ _ (by omega) (by omega) (.inl (by decide))]
  exact hl

theorem State.round_barArrived : (s.barArrived b).round b = s.round b := by
  rw [State.barArrived_counts hb hl, State.round, State.pair, s.rget_setF_ne _ (by omega) (by omega) (by decide),
    s.rget_setF_ne _ (by omega) (by omega) (by decide)]
  rfl

end Arrival

/-! ### Who may arrive (10 R374) -/

theorem State.completes_bxfArrive {who : Issuer} {v : W32} {g : Group} {t : State}
    (hw : (Instr.bxfArrive who b v).wf = true) (hg : s.group? who = some g) (ht : s.partArrive g.part b = t) :
    Completes (.bxfArrive who b v) s t.pins :=
  completes_of_effect (by rw [hg]; rfl) hw rfl (by rw [hg]; exact ht)

theorem State.partArrive_counts {part : Nat} (ho : s.f F.barOwner_PARTITION b = part)
    (he : s.b F.barCfg_ENABLE b = true) : s.partArrive part b = s.barArrived b := by
  simp [State.partArrive, State.arrivalOk, ho, he]

theorem State.partArrive_dropped {part : Nat}
    (h : s.f F.barOwner_PARTITION b ≠ part ∨ s.b F.barCfg_ENABLE b = false) : s.partArrive part b = s := by
  rcases h with h | h <;> simp [State.partArrive, State.arrivalOk, h]

end Unit

/-! ### The obligation -/

/-- Settles O50: a unit put into service starts its first round with LOCAL still to be reached, and an arrival below
LOCAL settles nothing. -/
theorem barrierUnits : Obligations.BarrierUnits := by
  refine fun s b v hb => ⟨fun h31 => ⟨?_, fun hs _ hl => ?opened⟩, fun he => ?_, fun he => ?_,
    fun who g hw hg => ⟨fun ho he => State.completes_bxfArrive hw hg (State.partArrive_counts ho he),
      fun h => State.completes_bxfArrive hw hg (State.partArrive_dropped h)⟩,
    fun hl => ⟨?_, State.round_barArrived hb hl⟩⟩
  · exact completes_of_effect (beq_iff_eq.2 h31) (decide_eq_true hb) rfl rfl
  case opened =>
    rw [State.writeBarCfg_opens hb h31 hs hl]
    refine ⟨State.f_firstRound_LCOUNT hb, State.f_firstRound_CCOUNT hb, State.round_firstRound hb, ?_⟩
    rw [State.b, State.f_firstRound_cfg hb rfl]
    exact beq_iff_eq.2
      ((s.f_code_rw (by decide) b v (x := F.barCfg_ENABLE) (reset := 0) rfl (by decide)).trans h31)
  · exact completes_of_effect rfl (decide_eq_true hb) rfl (if_pos he)
  · exact completes_of_effect rfl (decide_eq_true hb) rfl (if_neg (Bool.eq_false_iff.1 he))
  · rw [State.barArrived_counts hb hl]
    exact State.f_count_LCOUNT hl

end Sys2Proof.Machine
end

section
/-!
PROOF. Beat marks (10 R360, R362; 17 R573), link delays (10 R361), the digest (10 R365) and the beat boundary (11 R377;
14 R496).
-/
namespace Sys2Proof.Machine

section Link
variable {s : State} {port : Nat} {m : Msg} (act : State → State)

/-! ### Messages of the link itself -/

theorem State.linkMessage_of_wrongChannel (h : m.vcOf ≠ some m.vc) :
    s.linkMessage port m act = (s.portCount port 1 m.flits).portCount port 5 1 :=
  if_pos (bne_iff_ne.2 h)

theorem State.linkMessage_of_channel (h : m.vcOf = some m.vc) :
    s.linkMessage port m act = act (s.portCount port 1 m.flits) :=
  if_neg (by simp [h])

/-- Delay requests and responses belong on VC 0 (10 R335). -/
theorem Msg.vcOf_delay (hv : m.vc = 0) (ht : m.type = 0x02 ∨ m.type = 0x03) : m.vcOf = some m.vc := by
  rw [hv, Msg.vcOf]
  rcases ht with h | h <;> rw [h] <;> rfl

/-! ### Marks -/

theorem State.b_portCount_MARKS (hp : port < 8) (k : Nat) :
    (s.portCount port 1 k).b F.portCfg_MARKS port = s.b F.portCfg_MARKS port :=
  congrArg (· == 1) (s.f_portCount k hp (by decide) (by omega) (by decide) (by decide))

theorem State.completes_beatMark {arrival : W64} {t : State} (hw : (Instr.beatMark port m arrival).wf = true)
    (hc : s.comesIn port m 0x01 = true)
    (ht : s.linkMessage port m
      (fun t => if t.b F.portCfg_MARKS port then t.takeMark port (markOf m.head) arrival else t) = t) : Completes (.beatMark port m arrival) s t.pins :=
  completes_of_effect hc hw rfl ht

/-! ### Delays (10 R361) -/

/-- The response that answers the port's last request leaves half the round trip as the port's delay. -/
theorem State.noteDelay_answers {t4 : W64} (h : (s.port port).t1 = some (m.word 0)) :
    s.noteDelay port m t4 = (s.setPort port { s.port port with t1 := none }).setF F.portDelay_DELAY port
      (((t4 - m.word 0) - (m.word 16 - m.word 8)).toNat / 2 % 2 ^ 16) :=
  if_pos (beq_iff_eq.2 h)

theorem State.noteDelay_port {t4 : W64} (h : (s.port port).t1 = some (m.word 0)) :
    ((s.noteDelay port m t4).port port).t1 = none := by
  rw [State.noteDelay_answers h, State.port_setF, State.port_setPort_self]

theorem State.f_noteDelay {t4 : W64} (h : (s.port port).t1 = some (m.word 0)) :
    (s.noteDelay port m t4).f F.portDelay_DELAY port =
      ((t4 - m.word 0) - (m.word 16 - m.word 8)).toNat / 2 % 2 ^ 16 := by
  rw [State.noteDelay_answers h, State.f_setF_self _ _ _ _ (by decide)]
  exact Nat.mod_mod _ _

theorem State.completes_dlyrsp {t4 : W64} (hw : (Instr.dlyrsp port m t4).wf = true) (hv : m.vc = 0) (ht : m.type = 0x03)
    (hc : s.comesIn port m 0x03 = true) :
    Completes (.dlyrsp port m t4) s
      (State.portsChanged s ((s.portCount port 1 m.flits).noteDelay port m t4)).pins :=
  completes_of_effect hc hw rfl
    (congrArg (State.portsChanged s) (State.linkMessage_of_channel _ (Msg.vcOf_delay hv (.inr ht))))

end Link

/-! ### The boundary (11 R377; 14 R496) -/

theorem State.completes_beatBoundary {s t : State} {m : Measure} (hb : s.beats = true) (hk : s.keepsBudget m = true)
    (ht : s.doBoundary m = t) : Completes (.beatBoundary m) s t.pins :=
  completes_of_effect (by rw [hb, hk]; rfl) rfl rfl ht

/-! ### The obligation -/

/-- Settles O51: a message of the link is counted before its port looks at it, and a boundary moves TIMEBASE before all
else. -/
theorem marksAndBoundary : Obligations.MarksAndBoundary := by
  refine ⟨fun s port m arrival hw hc => ?marks, fun s frame arrival hw => ⟨fun hn => ?bad, fun b hb => ?good⟩,
    fun s port m hp hv => ⟨fun t2 t3 hw ht hc => ?asked, fun t4 hw ht hc h1 => ?answered⟩,
    fun s => ⟨fun hd => completes_of_effect hd rfl rfl rfl, fun hb m _ hk => ?boundary, rfl⟩⟩
  case marks =>
    have hp : port < 8 := of_decide_eq_true hw
    refine ⟨fun h => State.completes_beatMark hw hc (State.linkMessage_of_wrongChannel _ h), fun h hm => ?_,
      fun h hm => ?_⟩ <;>
      refine State.completes_beatMark hw hc ((State.linkMessage_of_channel _ h).trans ?_)
    · exact if_pos ((State.b_portCount_MARKS hp _).trans hm)
    · exact if_neg (Bool.eq_false_iff.1 ((State.b_portCount_MARKS hp _).trans hm))
  case bad => exact completes_of_effect rfl hw rfl (by rw [hn])
  case good => exact completes_of_effect rfl hw rfl (by rw [hb])
  case asked =>
    exact completes_of_effect hc hw rfl (State.linkMessage_of_channel _ (Msg.vcOf_delay hv (.inl ht)))
  case answered =>
    have h1' : ((s.portCount port 1 m.flits).port port).t1 = some (m.word 0) := by rw [State.port_portCount, h1]
    refine ⟨_, State.completes_dlyrsp hw hv ht hc, ?_, ?_⟩
    · rw [State.port_pins, State.port_portsChanged, State.noteDelay_port h1']
    · rw [State.pins_f, State.portsChanged_f, State.f_noteDelay h1']
  case boundary =>
    exact ⟨fun hs => State.completes_beatBoundary hb hk (if_pos hs),
      fun hs => State.completes_beatBoundary hb hk (if_neg (Bool.eq_false_iff.1 hs))⟩

end Sys2Proof.Machine
end

section
/-!
SUPPORT. What a port's transmitter, its lanes and its leaving service change of the registers: the longest wait, the
port's counters, its flags, its state and the spares of its lanes.
-/
namespace Sys2Proof.Machine

/-! ### Time -/

@[simp] theorem State.tick_regs (s : State) : s.tick.regs = s.regs := rfl

@[simp] theorem State.f_tick (s : State) (x : Fld) (i : Nat) : s.tick.f x i = s.f x i := rfl

@[simp] theorem State.port_tick (s : State) (p : Nat) : s.tick.port p = s.port p := rfl

/-! ### The transmitter (10 R340, R341, R372) -/

@[simp] theorem State.creditBack_regs (s : State) (p vc : Nat) : (s.creditBack p vc).regs = s.regs := by
  unfold State.creditBack
  dsimp only
  split <;> rfl

@[simp] theorem State.acknowledge_regs (s : State) (p : Nat) : (s.acknowledge p).regs = s.regs := by
  unfold State.acknowledge
  dsimp only
  split <;> rfl

@[simp] theorem State.stamp_regs (s : State) (p : Nat) (m : Msg) : (s.stamp p m).2.regs = s.regs := by
  unfold State.stamp
  split
  · dsimp only
    split <;> rfl
  · rfl

section Transmitter
variable {port : Nat} {x : Fld} {i : Nat} (hp : port < 8) (hi : i < 2 ^ 24) (hw : x.reg ≠ .portVc0Wait)
  (hl : x.reg ≠ .portEvtLo) (hh : x.reg ≠ .portEvtHi)

include hp hi hw in
theorem State.f_noteWait (s : State) (m : Msg) : (s.noteWait port m).f x i = s.f x i := by
  unfold State.noteWait
  split
  · rfl
  · rw [State.f_setF_ne _ _ (by omega) hi (.inl hw), State.f_of_regs s.draw_regs]

include hp hi hw hl hh

theorem State.f_sendFlit (s : State) (vc : Nat) : (s.sendFlit port vc).f x i = s.f x i := by
  unfold State.sendFlit
  split
  · rfl
  · split
    · rfl
    · next q _ =>
      have stamped : ((s.noteWait port q.msg).stamp port q.msg).2.f x i = s.f x i := by
        rw [State.f_of_regs (State.stamp_regs _ _ _), State.f_noteWait hp hi hw]
      revert stamped
      obtain ⟨m, t⟩ := (s.noteWait port q.msg).stamp port q.msg
      intro stamped
      have counted (k : Nat) : (t.bump .portEvtLo .portEvtHi (port * 6) k).f x i = s.f x i :=
        (t.f_portCount k hp (n := 0) (by decide) hi hl hh).trans stamped
      dsimp only
      split
      · rw [State.f_of_regs (State.emit_regs _ _), State.f_setPort, counted]
      · rw [State.f_setPort, counted]

theorem State.f_sendFlits (n : Nat) (s : State) : (State.sendFlits n port s).f x i = s.f x i := by
  induction n generalizing s with
  | zero => rfl
  | succ n ih =>
    unfold State.sendFlits
    split
    · rfl
    · rw [ih, State.f_sendFlit hp hi hw hl hh]

theorem State.f_pump (s : State) : (s.pump port).f x i = s.f x i := by
  unfold State.pump
  split
  · rfl
  · rw [State.f_sendFlits hp hi hw hl hh, State.f_of_regs (State.acknowledge_regs _ _)]
    simp only [List.foldl_cons, List.foldl_nil]
    rw [State.f_of_regs (State.creditBack_regs _ _ _), State.f_of_regs (State.creditBack_regs _ _ _),
      State.f_of_regs (State.creditBack_regs _ _ _), State.f_of_regs (State.creditBack_regs _ _ _)]

theorem State.f_sendQueued (s : State) : (s.sendQueued port).f x i = s.f x i := by
  rw [State.sendQueued, State.f_pump hp hi hw hl hh, State.f_setPort]

theorem State.f_sendDelay (s : State) : (s.sendDelay port).f x i = s.f x i := by
  rw [State.sendDelay, State.transmit, State.f_pump hp hi hw hl hh, State.f_setPort]

end Transmitter

/-! ### A port's state -/

section Port
variable {s : State} {port : Nat} (hp : port < 8)
include hp

theorem State.f_retrain {x : Fld} {i : Nat} (hi : i < 2 ^ 24) (hl : x.reg ≠ .portEvtLo) (hh : x.reg ≠ .portEvtHi) :
    (s.retrain port).f x i = s.f x i := by
  rw [State.retrain, State.f_setPort, State.f_portCount _ _ hp (by decide) hi hl hh]

omit hp in
theorem State.f_portDown_STATE {st : Nat} (h : st < 8) : (s.portDown port st).f F.portStatus_STATE port = st := by
  unfold State.portDown
  rw [State.f_setF_field (x := F.portStatus_WIDTH) (y := F.portStatus_STATE) _ port 0 (by decide) rfl (by decide),
    State.f_setF_self _ _ _ _ (by decide)]
  exact Nat.mod_eq_of_lt h

/-- A port that leaves service shows it in its state and its flags. -/
theorem State.f_portDown_ne {st : Nat} {x : Fld} {i : Nat} (hi : i < 2 ^ 24) (hs : x.reg ≠ .portStatus)
    (hf : x.reg ≠ .portFlags) : (s.portDown port st).f x i = s.f x i := by
  unfold State.portDown
  rw [State.f_setF_ne _ _ (by omega) hi (.inl hs), State.f_setF_ne _ _ (by omega) hi (.inl hs)]
  split
  · rw [State.f_setF_ne _ _ (by omega) hi (.inl hf), State.f_setPort]
  · rfl

/-! ### A lane that is lost (10 R329, R330) -/

/-- What replaces a lane leaves the lanes that have failed as they are. -/
theorem State.f_loseLane_FAILED (engine l : Nat) :
    (s.loseLane engine port l).f F.portLanes_FAILED port = s.f F.portLanes_FAILED port := by
  have hi : port < 2 ^ 24 := by omega
  have flagged : (s.setF F.portFlags_LANE_LOST port 1).f F.portLanes_FAILED port = s.f F.portLanes_FAILED port :=
    s.f_setF_ne 1 hi hi (.inl (by decide))
  have retrained (t : State) : (t.retrain port).f F.portLanes_FAILED port = t.f F.portLanes_FAILED port :=
    State.f_retrain hp hi (by decide) (by decide)
  unfold State.loseLane
  dsimp only
  split
  · rw [retrained, State.f_setF_field (x := F.portLanes_SPA) (y := F.portLanes_FAILED) _ port l (by decide) rfl
      (by decide), flagged]
  · rw [retrained, State.f_setF_field (x := F.portLanes_SPB) (y := F.portLanes_FAILED) _ port l (by decide) rfl
      (by decide), flagged]
  · split
    · rw [State.f_portDown_ne hp hi (by decide) (by decide), flagged]
    · split
      · exact flagged
      · rw [retrained, State.f_setF_ne _ _ hi hi (.inl (by decide)), State.f_setF_ne _ _ hi hi (.inl (by decide)),
          flagged]

end Port

/-- A lane of an engine's two ports that fails is noted at its port. -/
theorem State.f_doLaneFailure {s : State} {engine lane : Nat} (he : engine < 4) (hl : lane < 32) :
    (s.doLaneFailure engine lane).f F.portLanes_FAILED (2 * engine + lane / 16) =
      (s.f F.portLanes_FAILED (2 * engine + lane / 16) ||| 2 ^ (lane % 16)) := by
  have fits : s.f F.portLanes_FAILED (2 * engine + lane / 16) ||| 2 ^ (lane % 16) < 2 ^ 16 :=
    Nat.or_lt_two_pow (bitsOf_lt _ _ _) (Nat.pow_lt_pow_right (by decide) (Nat.mod_lt _ (by decide)))
  rw [State.doLaneFailure, if_pos hl, State.f_loseLane_FAILED (by omega), State.f_setF_self _ _ _ _ (by decide)]
  exact Nat.mod_eq_of_lt fits

theorem State.laneAlive_of_low {s t : State} {engine lane : Nat} (hl : lane < 32)
    (he : t.b F.portCtrl_ENABLE (2 * engine + lane / 16) = s.b F.portCtrl_ENABLE (2 * engine + lane / 16))
    (hf : t.f F.portLanes_FAILED (2 * engine + lane / 16) = s.f F.portLanes_FAILED (2 * engine + lane / 16)) :
    t.laneAlive engine lane = s.laneAlive engine lane := by
  rw [State.laneAlive, if_pos hl, he, hf, State.laneAlive, if_pos hl]

/-- The lanes that an end can receive depend on the word of its lanes alone. -/
theorem State.ownLanes_of_lanes {s t : State} {port : Nat} (h : t.rget .portLanes port = s.rget .portLanes port) :
    t.ownLanes port = s.ownLanes port := by
  have ok : t.laneOk port = s.laneOk port := by
    funext l
    simp only [State.laneOk, State.f, F.portLanes_FAILED, F.portLanes_SPA, F.portLanes_SPB, h]
  rw [State.ownLanes, ok, State.ownLanes]

theorem State.ownLanes_le (s : State) (port : Nat) : s.ownLanes port ≤ 16 := by
  unfold State.ownLanes
  split
  · exact le_refl _
  · split <;> decide

end Sys2Proof.Machine
end

section
/-!
PROOF. Events of a port: trainings and retrains (10 R331, R332), CRC errors and the lanes they are attributed to (10
R329), timeouts (10 R347, R354) and SPDM fragments (13 R468).
-/
namespace Sys2Proof.Machine

section Port
variable {s : State} {port : Nat} (hp : port < 8)

/-! ### Trainings (10 R331) -/

section Trained
variable {peer : Option W16} {peerLanes : Nat} {delay : W16}

theorem State.f_notePeer_STATE : (s.notePeer port peer).f F.portStatus_STATE port = s.f F.portStatus_STATE port := by
  rw [State.notePeer,
    State.f_setF_field (x := F.portStatus_PEER_VALID) (y := F.portStatus_STATE) _ port _ (by decide) rfl (by decide),
    State.f_setF_field (x := F.portStatus_PEER) (y := F.portStatus_STATE) _ port _ (by decide) rfl (by decide)]

include hp

theorem State.ownLanes_notePeer : (s.notePeer port peer).ownLanes port = s.ownLanes port := by
  refine State.ownLanes_of_lanes ?_
  rw [State.notePeer, State.rget_setF_ne _ _ (by omega) (by omega) (by decide),
    State.rget_setF_ne _ _ (by omega) (by omega) (by decide)]

theorem State.f_doTrained_refused (hm : (s.notePeer port peer).miswired port peer = true) :
    (s.doTrained port peer peerLanes delay).f F.portStatus_STATE port = 5 := by
  have refused : s.doTrained port peer peerLanes delay =
      (((s.notePeer port peer).portDown port 5).notePeer port peer).setF F.portFlags_MISWIRED port 1 := if_pos hm
  rw [refused, State.f_setF_ne _ _ (by omega) (by omega) (.inl (by decide)), State.f_notePeer_STATE,
    State.f_portDown_STATE (by decide)]

/-- A link that comes up at a width, with the delay that its ends measured. -/
def State.linkUp (s : State) (port w peerLanes : Nat) (delay : W16) : State :=
  let s := (s.setF F.portStatus_STATE port (if w == 16 then 2 else 3)).setF F.portStatus_WIDTH port (if w == 16 then 2 else 1)
  let s := s.setF F.portDelay_DELAY port delay.toNat
  (s.setPort port { s.port port with peerLanes := peerLanes }).sendQueued port

theorem State.f_linkUp_STATE (w : Nat) :
    (s.linkUp port w peerLanes delay).f F.portStatus_STATE port = if w = 16 then 2 else 3 := by
  have hi : port < 2 ^ 24 := by omega
  unfold State.linkUp
  dsimp only
  rw [State.f_sendQueued hp hi (by decide) (by decide) (by decide), State.f_setPort,
    State.f_setF_ne _ _ hi hi (.inl (by decide)),
    State.f_setF_field (x := F.portStatus_WIDTH) (y := F.portStatus_STATE) _ port _ (by decide) rfl (by decide),
    State.f_setF_self _ _ _ _ (by decide)]
  by_cases h : w = 16 <;> simp [h, F.portStatus_STATE]

/-- A link is up at its full width where both ends have all lanes. -/
theorem State.f_doTrained_up (hm : (s.notePeer port peer).miswired port peer = false) (hl : peerLanes ≤ 16) :
    (s.doTrained port peer peerLanes delay).f F.portStatus_STATE port =
      if s.ownLanes port = 16 ∧ peerLanes = 16 then 2 else 3 := by
  have up : s.doTrained port peer peerLanes delay =
      let t := (s.notePeer port peer).linkUp port (min ((s.notePeer port peer).ownLanes port) peerLanes) peerLanes delay
      if !(s.notePeer port peer).linked port then t.sendDelay port else t := if_neg (Bool.eq_false_iff.1 hm)
  have width : min (s.ownLanes port) peerLanes = 16 ↔ s.ownLanes port = 16 ∧ peerLanes = 16 := by
    have own := s.ownLanes_le port
    omega
  rw [up, State.ownLanes_notePeer hp]
  simp only [← width]
  split
  · rw [State.f_sendDelay hp (by omega) (by decide) (by decide) (by decide), State.f_linkUp_STATE hp]
  · exact State.f_linkUp_STATE hp _

theorem State.f_doTrained (hl : peerLanes = 8 ∨ peerLanes = 16) :
    (s.doTrained port peer peerLanes delay).f F.portStatus_STATE port =
      (if (s.notePeer port peer).miswired port peer = true then 5
       else if s.ownLanes port = 16 ∧ peerLanes = 16 then 2 else 3) := by
  split
  · next hm => exact State.f_doTrained_refused hp hm
  · next hm => exact State.f_doTrained_up hp (Bool.eq_false_iff.2 hm) (by omega)

end Trained

/-! ### Failed retrains (10 R332) -/

theorem State.f_doRetrainFailure_third (h : 2 ≤ (s.port port).retrainFails) :
    (s.doRetrainFailure port true).f F.portStatus_STATE port = 4 := by
  have third : 3 ≤ (if true then (s.port port).retrainFails + 1 else 1) := Nat.succ_le_succ h
  rw [State.doRetrainFailure]
  dsimp only
  rw [if_pos third]
  exact State.f_portDown_STATE (by decide)

/-! ### Replays (10 R329, R332) -/

/-- A replay counted, at the port and for the flit. -/
def State.countReplay (s : State) (port : Nat) : State :=
  (s.portCount port 2 1).setPort port { s.port port with replay := (s.port port).replay + 1 }

/-- The eighth replay of a flit starts a retrain, `n` being those before it. -/
def State.endReplay (s : State) (port n : Nat) : State :=
  if 7 ≤ n && s.linked port && !(s.port port).training then s.retrain port else s

theorem State.doCrcError_eq (s : State) (port lane : Nat) :
    s.doCrcError port lane = ((s.countReplay port).blameLane port lane).endReplay port (s.port port).replay := by
  unfold State.doCrcError
  dsimp only
  rw [State.port_portCount]
  rfl

/-- The lane keeps service where no more than 16 replays within 1 ms are attributed to it. -/
theorem State.blameLane_keeps {lane : Nat} (h : (SMap.get [] (s.port port).laneReplays lane).length < 16) :
    ∃ l, s.blameLane port lane = s.tick.setPort port { s.port port with laneReplays := l } := by
  have few (p : Nat → Bool) (now : Nat) :
      ¬16 < (now :: (SMap.get [] (s.port port).laneReplays lane).filter p).length := by
    have := List.length_filter_le p (SMap.get [] (s.port port).laneReplays lane)
    rw [List.length_cons]
    omega
  unfold State.blameLane
  simp only [State.port_tick, few, decide_false, Bool.false_and, Bool.false_eq_true, if_false]
  exact ⟨_, rfl⟩

/-- The 17th of them fails a lane that can still fail. -/
theorem State.blameLane_fails {lane : Nat}
    (hw : ∀ x ∈ SMap.get [] (s.port port).laneReplays lane, s.tick.tun.tb.toNat ≤ x + 1000000)
    (hn : 16 ≤ (SMap.get [] (s.port port).laneReplays lane).length) (ha : s.tick.laneAlive (port / 2) lane = true) :
    ∃ l, s.blameLane port lane =
      (s.tick.setPort port { s.port port with laneReplays := l }).doLaneFailure (port / 2) lane := by
  have all : (SMap.get [] (s.port port).laneReplays lane).filter (fun t => s.tick.tun.tb.toNat ≤ t + 1000000) =
      SMap.get [] (s.port port).laneReplays lane := List.filter_eq_self.2 fun x hx => decide_eq_true (hw x hx)
  unfold State.blameLane
  simp only [State.port_tick, all, ha, List.length_cons, Nat.lt_succ_of_le hn, decide_true, Bool.and_self, if_true]
  exact ⟨_, rfl⟩

@[simp] theorem State.port_countReplay (s : State) (port : Nat) :
    (s.countReplay port).port port = { s.port port with replay := (s.port port).replay + 1 } :=
  State.port_setPort_self _ _ _

include hp in
theorem State.f_countReplay {x : Fld} {i : Nat} (hi : i < 2 ^ 24) (hl : x.reg ≠ .portEvtLo) (hh : x.reg ≠ .portEvtHi) :
    (s.countReplay port).f x i = s.f x i := by
  rw [State.countReplay, State.f_setPort, State.f_portCount _ _ hp (by decide) hi hl hh]

/-! ### The end of a replay -/

theorem State.endReplay_cases (s : State) (port n : Nat) :
    s.endReplay port n = s ∨ s.endReplay port n = s.retrain port := by
  unfold State.endReplay
  split
  · exact .inr rfl
  · exact .inl rfl

theorem State.endReplay_early {n : Nat} (h : n < 7) : s.endReplay port n = s := by
  simp [State.endReplay, Nat.not_le.2 h]

theorem State.endReplay_eighth {n : Nat} (h : 7 ≤ n) (hl : s.linked port = true) (ht : (s.port port).training = false) :
    s.endReplay port n = s.retrain port := by
  simp [State.endReplay, h, hl, ht]

include hp in
/-- A retrain is counted beside the replays, in a counter of its own (10 R372). -/
theorem State.replays_endReplay (n : Nat) :
    (s.endReplay port n).eventCount .portEvtLo .portEvtHi (port * 6 + 2) =
      s.eventCount .portEvtLo .portEvtHi (port * 6 + 2) := by
  have kept (r : Reg) : (s.portCount port 3 1).rget r (port * 6 + 2) = s.rget r (port * 6 + 2) :=
    s.rget_bump_ne 1 (by omega) (by omega) (.inl (by omega))
  rcases s.endReplay_cases port n with h | h
  · rw [h]
  · rw [h, State.retrain, State.eventCount_of_regs (State.setPort_regs _ _ _), State.eventCount, kept, kept,
      State.eventCount]

include hp in
theorem State.f_endReplay_FAILED (n : Nat) :
    (s.endReplay port n).f F.portLanes_FAILED port = s.f F.portLanes_FAILED port := by
  rcases s.endReplay_cases port n with h | h
  · rw [h]
  · rw [h, State.f_retrain hp (by omega) (by decide) (by decide)]

/-! ### CRC errors -/

section Crc
variable {lane : Nat}

/-- A port after a replay that leaves its lane in service. -/
def State.keepLane (s : State) (port : Nat) (l : SMap (List Nat)) : State :=
  (s.countReplay port).tick.setPort port { s.port port with replay := (s.port port).replay + 1, laneReplays := l }

theorem State.doCrcError_keeps (h : (SMap.get [] (s.port port).laneReplays lane).length < 16) :
    ∃ l, s.doCrcError port lane = (s.keepLane port l).endReplay port (s.port port).replay := by
  obtain ⟨l, hb⟩ := State.blameLane_keeps (s := s.countReplay port) (port := port) (lane := lane)
    (by rw [State.port_countReplay]; exact h)
  exact ⟨l, by rw [State.doCrcError_eq, hb, State.port_countReplay, State.keepLane]⟩

@[simp] theorem State.port_keepLane (l : SMap (List Nat)) :
    (s.keepLane port l).port port = { s.port port with replay := (s.port port).replay + 1, laneReplays := l } :=
  State.port_setPort_self _ _ _

include hp

theorem State.linked_keepLane (l : SMap (List Nat)) : (s.keepLane port l).linked port = s.linked port := by
  refine State.linked_of_state ?_
  rw [State.keepLane, State.f_setPort, State.f_tick, State.f_countReplay hp (by omega) (by decide) (by decide)]

theorem State.replays_keepLane (l : SMap (List Nat)) :
    (s.keepLane port l).eventCount .portEvtLo .portEvtHi (port * 6 + 2) =
      (s.eventCount .portEvtLo .portEvtHi (port * 6 + 2) + 1) % 2 ^ 48 := by
  rw [State.keepLane, State.eventCount_of_regs (State.setPort_regs _ _ _), State.eventCount_of_regs (State.tick_regs _),
    State.countReplay, State.eventCount_of_regs (State.setPort_regs _ _ _), State.portCount,
    State.eventCount_bump _ _ (by decide) (by omega)]

/-- A lane of the port that fails on its replays is noted. -/
theorem State.f_doCrcError_fails (hl : lane < 32) (hc : s.carries port lane = true)
    (hw : ∀ x ∈ SMap.get [] (s.port port).laneReplays lane, (s.countReplay port).tick.tun.tb.toNat ≤ x + 1000000)
    (hn : 16 ≤ (SMap.get [] (s.port port).laneReplays lane).length) (ha : s.laneAlive (port / 2) lane = true) :
    (s.doCrcError port lane).f F.portLanes_FAILED port = (s.f F.portLanes_FAILED port ||| 2 ^ (lane % 16)) := by
  have own : lane / 16 = port % 2 := by
    rw [State.carries, if_pos hl] at hc
    exact eq_of_beq hc
  have place : 2 * (port / 2) + lane / 16 = port := by omega
  have counted {x : Fld} (hl : x.reg ≠ .portEvtLo) (hh : x.reg ≠ .portEvtHi) :
      (s.countReplay port).tick.f x port = s.f x port := by
    rw [State.f_tick, State.f_countReplay hp (by omega) hl hh]
  have alive : (s.countReplay port).tick.laneAlive (port / 2) lane = true := by
    rw [State.laneAlive_of_low (s := s) hl, ha] <;> rw [place]
    · rw [State.b, counted (by decide) (by decide), State.b]
    · exact counted (by decide) (by decide)
  obtain ⟨l, hb⟩ := State.blameLane_fails (s := s.countReplay port) (port := port) (lane := lane)
    (by rw [State.port_countReplay]; exact hw) (by rw [State.port_countReplay]; exact hn) alive
  have noted := State.f_doLaneFailure (engine := port / 2) (by omega) hl
    (s := (s.countReplay port).tick.setPort port { (s.countReplay port).port port with laneReplays := l })
  rw [place, State.f_setPort, counted (by decide) (by decide)] at noted
  rw [State.doCrcError_eq, hb, State.f_endReplay_FAILED hp, noted]

end Crc

/-! ### The rows -/

theorem State.completes_flitCrcError {lane : Nat} {t : State} (hw : (Instr.flitCrcError port lane).wf = true)
    (hl : s.linked port = true) (ht : (s.port port).training = false) (hc : s.carries port lane = true)
    (h : s.doCrcError port lane = t) :
    Completes (.flitCrcError port lane) s (State.portsChanged s t).pins :=
  completes_of_effect (by rw [hl, ht, hc]; rfl) hw rfl (congrArg (State.portsChanged s) h)

theorem State.completes_trainingComplete {peer : Option W16} {peerLanes : Nat} {delay : W16}
    (hw : (Instr.trainingComplete port peer peerLanes delay).wf = true)
    (ht : s.f F.portStatus_STATE port = 1 ∨ (s.port port).training = true) (hs : s.b F.clkStatus_SAFE 0 = false)
    (hl : peerLanes = 8 ∨ peerLanes = 16) (ho : s.ownLanes port ≠ 0) :
    Completes (.trainingComplete port peer peerLanes delay) s
      (State.portsChanged s (s.doTrained port peer peerLanes delay)).pins := by
  refine completes_of_effect ?_ hw rfl rfl
  simpa [hs, ho] using ⟨ht, hl⟩

theorem State.completes_trainingRetry (hp : port < 8) (he : s.b F.portCtrl_ENABLE port = true)
    (ht : s.f F.portStatus_STATE port = 1 ∨ s.f F.portStatus_STATE port = 5) :
    Completes (.trainingRetry port) s (State.portsChanged s (s.setF F.portStatus_STATE port 1)).pins := by
  refine completes_of_effect ?_ (decide_eq_true hp) rfl rfl
  simpa [he] using ht

end Port

/-! ### Timeouts -/

theorem State.completes_respTimeout {s : State} {tag : Nat} {r : FabReq} (hs : s.b F.clkStatus_SAFE 0 = false)
    (hr : s.sentReq tag = some r) : Completes (.respTimeout tag) s ((((((s.ctlCount 0).tick.restTag tag).dropReq tag).failReq
      r 0x0601 (routeInfo r.msg.dnode.toNat r.msg.type.toNat)).releaseHeld).pins) :=
  completes_of_effect (by rw [hr, hs]; rfl) rfl rfl (by rw [State.doRespTimeout, hr])

/-- Fragments of another message, or of another node, stay (13 R468). -/
theorem mem_otherFragments {l : List Fragments} {snode msgno : Nat} {f : Fragments} :
    f ∈ l.filter (fun f => !(f.snode == snode && f.msgno == msgno)) ↔ f ∈ l ∧ ¬(f.snode = snode ∧ f.msgno = msgno) := by
  rw [List.mem_filter, Bool.not_eq_true', ← Bool.not_eq_true, Bool.and_eq_true, beq_iff_eq, beq_iff_eq]

/-! ### The obligation -/

/-- Settles O49: a training ends at the smaller width or REFUSED, the third failed retrain ends the port's service, a
flit's replays end in a retrain or in the failure of a lane, and what has waited too long is dropped. -/
theorem portEvents : Obligations.PortEvents := by
  refine ⟨fun s port hp => ⟨fun peer peerLanes delay hw ht hs hl ho => ?trained, fun he ht => ?again,
      fun ht => ⟨fun within => ?failure, State.f_doRetrainFailure_third⟩,
      fun lane hw hl ht hc => ⟨State.completes_flitCrcError hw hl ht hc rfl, fun hn => ?kept,
        fun u hu hwin hn hlow ha => ?fails⟩,
      fun vc hw hst hs => ?stalled⟩,
    fun s engine lane hw ha => ⟨completes_of_effect ha hw rfl rfl, State.f_doLaneFailure⟩,
    fun s hs => ⟨fun tag r _ hr => State.completes_respTimeout hs hr, fun snode msgno hw hf => ?fragments⟩⟩
  case trained =>
    refine ⟨_, State.completes_trainingComplete hw ht hs hl ho, ?_⟩
    rw [State.pins_f, State.portsChanged_f, State.f_doTrained hp hl]
  case again =>
    refine ⟨_, State.completes_trainingRetry hp he ht, ?_⟩
    rw [State.pins_f, State.portsChanged_f, State.f_setF_self _ _ _ _ (by decide)]
    rfl
  case failure => exact completes_of_effect ht (decide_eq_true hp) rfl rfl
  case kept =>
    obtain ⟨l, h⟩ := State.doCrcError_keeps hn
    refine ⟨_, State.completes_flitCrcError hw hl ht hc h, fun h7 => ?_, fun h7 => ?_, ?_⟩
    · rw [State.port_pins, State.port_portsChanged, State.endReplay_eighth h7 ((State.linked_keepLane hp l).trans hl)
        (by rw [State.port_keepLane]; exact ht), State.port_retrain]
    · rw [State.port_pins, State.port_portsChanged, State.endReplay_early h7, State.port_keepLane]
    · rw [State.eventCount_of_regs (State.pins_regs _), State.eventCount_of_regs (State.portsChanged_regs _ _),
        State.replays_endReplay hp, State.replays_keepLane hp]
  case fails =>
    subst hu
    refine ⟨_, State.completes_flitCrcError hw hl ht hc rfl, ?_⟩
    rw [State.pins_f, State.portsChanged_f, State.f_doCrcError_fails hp hlow hc hwin hn ha]
  case stalled => exact completes_of_effect (by rw [hst, hs]; rfl) hw rfl rfl
  case fragments =>
    exact ⟨_, completes_of_effect (by rw [hf, hs]; rfl) hw rfl rfl, fun f => mem_otherFragments⟩

end Sys2Proof.Machine
end

section
/-!
PROOF. The owner word of a region (11 R390): a write that changes OWNER or LEND is taken or refused, any other is the
write of the word as it stands; and what a write by the access codes leaves in fields it may not change.
-/
namespace Sys2Proof.Machine

/-! ### Words written by the access codes (00 R13, 16 R541) -/

/-- While the enable that governs a word is clear, no write of it is ignored. -/
theorem State.code_of_not_held {s : State} {r : Reg} {i : Nat} (v : W32) (h : s.held r i = false) :
    s.code r i v = s.rset r i (r.written false (s.rget r i) v) := by
  simp [State.code, h]

/-- A read-only field keeps its bits. -/
theorem State.f_code_ro {s : State} {r : Reg} (h : ∀ x ∈ r.info.fields, x.acc ≠ .rwd) (i : Nat) (v : W32) {x : Fld}
    {reset : Nat} (hr : x.reg = r) (hx : ⟨x.lo, x.n, .ro, reset⟩ ∈ r.info.fields) : (s.code r i v).f x i = s.f x i := by
  rw [State.f, hr, State.rget_code_self h, State.f, hr]
  exact r.bitsOf_written _ _ v hx

section Same
variable {s t : State} {p : Reg → Nat → Prop}

/-- A word that may change. -/
theorem State.SameBut.rset (h : s.SameBut t p) {r : Reg} {i : Nat} (v : W32) (hi : i < 2 ^ 24) (hp : p r i) :
    s.SameBut (t.rset r i v) p := by
  obtain ⟨hco, hviews, hrest, hregs⟩ := h
  refine ⟨hco, hviews, hrest, fun q j hj hn => (t.rget_rset_ne _ hi hj ?_).trans (hregs q j hj hn)⟩
  by_contra! hx
  obtain ⟨rfl, rfl⟩ := hx
  exact hn hp

theorem State.SameBut.code (h : s.SameBut t p) {r : Reg} {i : Nat} (v : W32) (hr : ∀ x ∈ r.info.fields, x.acc ≠ .rwd)
    (hi : i < 2 ^ 24) (hp : p r i) : s.SameBut (t.code r i v) p := by
  rw [State.code_of_free hr]
  exact h.rset _ hi hp

end Same

/-! ### The owner word -/

/-- OWNER and LEND stand side by side. -/
theorem bitsOf_owner_lend_eq_iff (u v : W32) :
    bitsOf u 0 7 = bitsOf v 0 7 ↔ bitsOf v 0 6 = bitsOf u 0 6 ∧ bitsOf v 6 1 = bitsOf u 6 1 := by
  simp only [bitsOf]
  omega

theorem rgnown_free : ∀ x ∈ Reg.rgnown.info.fields, x.acc ≠ .rwd := by decide

section Owner
variable {s : State} {n : Nat} {v : W32}

theorem State.f_code_OWNER : (s.code .rgnown n v).f F.rgnown_OWNER n = bitsOf v 0 6 :=
  s.f_code_rw rgnown_free n v (x := F.rgnown_OWNER) (reset := 0) rfl (by decide)

theorem State.f_code_LEND : (s.code .rgnown n v).f F.rgnown_LEND n = bitsOf v 6 1 :=
  s.f_code_rw rgnown_free n v (x := F.rgnown_LEND) (reset := 0) rfl (by decide)

/-- A 1 clears WI. -/
theorem State.f_code_WI :
    (s.code .rgnown n v).f F.rgnown_WI n = if bitsOf v 31 1 = 1 then 0 else s.f F.rgnown_WI n :=
  (congrArg (bitsOf · 31 1) (s.rget_code_self rgnown_free n v)).trans
    (Reg.rgnown.written_w1c_one (reset := 0) (by decide) _ _ v)

/-- A word that changes neither OWNER nor LEND is written as it stands. -/
theorem State.writeOwner_same (ho : bitsOf v 0 6 = s.f F.rgnown_OWNER n) (hl : bitsOf v 6 1 = s.f F.rgnown_LEND n) :
    s.writeOwner n v = s.code .rgnown n v :=
  if_pos (beq_iff_eq.2 ((bitsOf_owner_lend_eq_iff _ v).2 ⟨ho, hl⟩))

section Changes
variable (hc : bitsOf v 0 6 ≠ s.f F.rgnown_OWNER n ∨ bitsOf v 6 1 ≠ s.f F.rgnown_LEND n)
include hc

theorem State.writeOwner_changes :
    s.writeOwner n v =
      if s.held .llmRgnDesc n || !s.canOwn (bitsOf v 0 6) then
        (s.code .rgnown n (withBits v 0 7 (bitsOf (s.rget .rgnown n) 0 7))).ignored .rgnown n
      else s.noteRegion (s.code .rgnown n v) n := by
  refine if_neg fun h => ?_
  obtain ⟨ho, hl⟩ := (bitsOf_owner_lend_eq_iff _ v).1 (beq_iff_eq.1 h)
  exact hc.elim (· ho) (· hl)

theorem State.writeOwner_taken (hh : s.held .llmRgnDesc n = false) (ho : s.canOwn (bitsOf v 0 6) = true) :
    s.writeOwner n v = s.noteRegion (s.code .rgnown n v) n := by
  rw [State.writeOwner_changes hc]
  exact if_neg (by simp [hh, ho])

theorem State.writeOwner_refused (h : s.held .llmRgnDesc n = true ∨ s.canOwn (bitsOf v 0 6) = false) :
    s.writeOwner n v =
      (s.code .rgnown n (withBits v 0 7 (bitsOf (s.rget .rgnown n) 0 7))).setF F.rgnown_WI n 1 := by
  rw [State.writeOwner_changes hc]
  exact if_pos (by rcases h with h | h <;> simp [h])

end Changes

/-- A region is held while it is valid or filling. -/
theorem State.held_desc : s.held .llmRgnDesc n = (s.b F.llmRgnDesc_VALID n || s.b F.llmRgnDesc_FILLING n) := rfl

/-- The word of a refused write carries the bits that OWNER and LEND have. -/
theorem bitsOf_keepOwner (u : W32) {lo n : Nat} (h : lo + n ≤ 7) :
    bitsOf (withBits v 0 7 (bitsOf u 0 7)) lo n = bitsOf u lo n := by
  rw [bitsOf_withBits_within _ _ (by decide) h, bitsOf_zero_within _ h]

end Owner

theorem State.noteRegion_f (s t : State) (n : Nat) (x : Fld) (i : Nat) : (s.noteRegion t n).f x i = t.f x i :=
  State.noteRegion_keeps (fun u => u.f x i) (fun _ _ => rfl) s t n

/-- Settles O29: a write that changes OWNER or LEND is taken where the region is free and the new owner can own, and is
refused elsewhere; any other write is the word written by its access codes. -/
theorem regionOwner : Obligations.RegionOwner := by
  intro s n v hn
  have hn24 : n < 2 ^ 24 := by omega
  refine ⟨_, completes_of_effect rfl (decide_eq_true hn) rfl rfl,
    fun hc => ⟨fun hv hf ho => ?taken, fun hr => ?refused⟩, fun ho hl => ?same⟩
  case taken =>
    have free : s.held .llmRgnDesc n = false := by rw [State.held_desc, hv, hf]; rfl
    rw [State.pins_f, State.pins_f, State.writeOwner_taken hc free (State.canOwn_of ho), State.noteRegion_f,
      State.noteRegion_f]
    exact ⟨State.f_code_OWNER, State.f_code_LEND⟩
  case refused =>
    have stays : s.held .llmRgnDesc n = true ∨ s.canOwn (bitsOf v 0 6) = false := by
      rw [State.held_desc, Bool.or_eq_true, or_assoc]
      exact hr.imp_right (Or.imp_right fun ⟨h0, he⟩ => State.not_canOwn h0 he)
    rw [State.writeOwner_refused hc stays, State.pins_f, State.pins_f, State.pins_b,
      State.f_setF_field _ _ _ (by decide) (by decide) (by decide),
      State.f_setF_field _ _ _ (by decide) (by decide) (by decide), State.f_code_OWNER, State.f_code_LEND]
    exact ⟨bitsOf_keepOwner _ (by decide), bitsOf_keepOwner _ (by decide),
      State.b_setF_one _ _ (by decide) rfl,
      (((State.SameBut.refl s _).code _ rgnown_free hn24 ⟨rfl, rfl⟩).setF _ hn24 ⟨rfl, rfl⟩).pins⟩
  case same =>
    rw [State.writeOwner_same ho hl, State.pins_f, State.pins_f, State.pins_f]
    exact ⟨State.f_code_OWNER.trans ho, State.f_code_LEND.trans hl, State.f_code_WI,
      ((State.SameBut.refl s _).code _ rgnown_free hn24 ⟨rfl, rfl⟩).pins⟩

end Sys2Proof.Machine
end

section
/-!
PROOF. The life of a partition (11 R385, R388): what an accepted and a refused creation, a destruction and its end leave
in the partition's words.
-/
namespace Sys2Proof.Machine

/-! ### Words of a partition -/

/-- A write of another field leaves STATE of a partition alone. -/
theorem State.partState_setF {s : State} {x : Fld} {i p : Nat} (v : Nat) (hi : i < 2 ^ 24) (hp : p < 2 ^ 24)
    (h : x.reg ≠ .partCmd) : (s.setF x i v).partState p = s.partState p :=
  State.f_setF_ne s v hi hp (.inl h.symm)

theorem State.partState_setF_STATE (s : State) (p v : Nat) : (s.setF F.partCmd_STATE p v).partState p = v % 8 :=
  s.f_setF_self F.partCmd_STATE p v (by decide)

/-- REASON and REFUSED are no part of STATE. -/
theorem State.partState_setF_field {s : State} {x : Fld} (p v : Nat) (h : x.lo + x.n ≤ 32) (hr : x.reg = .partCmd)
    (hd : 6 ≤ x.lo) : (s.setF x p v).partState p = s.partState p :=
  State.f_setF_field (y := F.partCmd_STATE) s p v h hr.symm (.inl hd)

@[simp] theorem State.pins_partState (s : State) (p : Nat) : s.pins.partState p = s.partState p := rfl

/-! ### Refusals (11 R385, R411) -/

section Refuse
variable (s : State) (p reason : Nat)

theorem State.refusePart_REFUSED : (s.refusePart p reason).b F.partCmd_REFUSED p = true := by
  rw [State.refusePart, State.b_setF_field _ _ _ (by decide) (by decide) (by decide)]
  exact State.b_setF_one _ _ (by decide) rfl

theorem State.refusePart_REASON (h : reason < 16) : (s.refusePart p reason).f F.partCmd_REASON p = reason := by
  rw [State.refusePart, State.f_setF_self _ _ _ _ (by decide)]
  exact Nat.mod_eq_of_lt h

theorem State.refusePart_partState : (s.refusePart p reason).partState p = s.partState p := by
  rw [State.refusePart, State.partState_setF_field _ _ (by decide) rfl (by decide),
    State.partState_setF_field _ _ (by decide) rfl (by decide)]

end Refuse

/-! ### Creation (11 R385) -/

theorem State.createRefusal_lt (s : State) (p : Nat) : s.createRefusal p < 16 := by
  unfold State.createRefusal
  extract_lets base n inst overlap
  split_ifs <;> decide

section Create
variable {s : State} {p : Nat}

theorem State.createPart_refused (h : s.createRefusal p ≠ 0) :
    s.createPart p = s.refusePart p (s.createRefusal p) :=
  if_pos (bne_iff_ne.2 h)

/-- An accepted creation writes three fields of the descriptor. -/
theorem State.createPart_regs (h : s.createRefusal p = 0) :
    (s.createPart p).regs =
      (((s.setF F.partCfg_ENABLE p 1).setF F.partCmd_STATE p 1).setF F.partCmd_REASON p 0).regs := by
  unfold State.createPart
  rw [if_neg (by simp [h]), State.ploro_keeps State.regs (fun _ _ => rfl)]

theorem State.createPart_enables (h : s.createRefusal p = 0) (hp : p < 64) :
    (s.createPart p).b F.partCfg_ENABLE p = true ∧ (s.createPart p).partState p = 1 := by
  have hp24 : p < 2 ^ 24 := by omega
  constructor
  · rw [State.b_of_regs (State.createPart_regs h), State.b, State.f_setF_ne _ _ hp24 hp24 (.inl (by decide)),
      State.f_setF_ne _ _ hp24 hp24 (.inl (by decide))]
    exact State.b_setF_one _ _ (by decide) rfl
  · rw [State.partState, State.f_of_regs (State.createPart_regs h)]
    exact (State.partState_setF_field _ _ (by decide) rfl (by decide)).trans (State.partState_setF_STATE _ _ _)

end Create

/-! ### Writes of TUN_PART_CFG -/

section Write
variable {s : State} {p : Nat} {v : W32} (hp0 : p ≠ 0)
include hp0

theorem State.writePartCfg_creates (h1 : bitsOf v 0 1 = 1) (he : s.b F.partCfg_ENABLE p = false)
    (hs : s.partState p = 0) :
    s.writePartCfg p v = ((s.code .partCfg p v).setF F.partCfg_ENABLE p 0).createPart p := by
  simp [State.writePartCfg, hp0, h1, he, hs]

theorem State.writePartCfg_destroys (h0 : bitsOf v 0 1 = 0) (he : s.b F.partCfg_ENABLE p = true)
    (hs : s.partState p ≠ 5) :
    s.writePartCfg p v = ((s.code .partCfg p v).setF F.partCfg_ENABLE p 1).destroyPart p := by
  simp [State.writePartCfg, hp0, h0, he, hs]

end Write

/-- The descriptor of a vacant partition is open to writes, and a write of TUN_PART_CFG leaves STATE alone. -/
theorem State.partState_code_partCfg {s : State} {p : Nat} (v : W32) (hp : p < 64)
    (he : s.b F.partCfg_ENABLE p = false) (hs : s.partState p = 0) : (s.code .partCfg p v).partState p = 0 := by
  have vacant : s.held .partCfg p = false := by
    change (s.b F.partCfg_ENABLE p || s.partState p != 0) = false
    rw [he, hs]; rfl
  rw [State.code_of_not_held v vacant]
  exact (State.f_rset_ne (x := F.partCmd_STATE) s _ (by omega) (by omega) (by decide)).trans hs

/-! ### The end of a destruction (11 R388) -/

theorem State.ploro_tables (s : State) (ps : List Nat) : (s.ploro ps).ras.tables = s.ras.tables := by
  refine List.foldlRecOn (motive := fun t : State => t.ras.tables = s.ras.tables) _ _ rfl fun t ht k _ => ?_
  split <;> exact ht

/-- The last words that the end of a destruction writes. -/
theorem State.endDestroy_regs (s : State) (p : Nat) :
    ∃ t : State, (s.endDestroy p).regs =
      (((t.rset .partCtxmask p 0).setF F.partCfg_ENABLE p 0).setF F.partCmd_STATE p 0).regs := by
  unfold State.endDestroy
  extract_lets fresh s1 s2 s3
  clear_value s1
  rw [State.ploro_keeps State.regs (fun _ _ => rfl)]
  exact ⟨s1, rfl⟩

theorem State.not_mem_tables_endDestroy (s : State) (p : Nat) : p ∉ (s.endDestroy p).ras.tables := by
  unfold State.endDestroy
  rw [State.ploro_tables]
  simp

/-- The descriptor disabled and vacant, its contexts' masks clear and its table gone. -/
theorem State.endDestroy_vacates (s : State) {p : Nat} (hp : p < 64) :
    (s.endDestroy p).b F.partCfg_ENABLE p = false ∧ (s.endDestroy p).partState p = 0 ∧
      (s.endDestroy p).rget .partCtxmask p = 0 ∧ p ∉ (s.endDestroy p).ras.tables := by
  have hp24 : p < 2 ^ 24 := by omega
  obtain ⟨t, h⟩ := s.endDestroy_regs p
  refine ⟨?_, ?_, ?_, s.not_mem_tables_endDestroy p⟩
  · rw [State.b_of_regs h, State.b, State.f_setF_ne _ _ hp24 hp24 (.inl (by decide)),
      State.f_setF_self _ _ _ _ (by decide)]
    rfl
  · rw [State.partState, State.f_of_regs h]
    exact State.partState_setF_STATE _ _ _
  · rw [State.rget_of_regs h, State.rget_setF_ne _ _ hp24 hp24 (by decide), State.rget_setF_ne _ _ hp24 hp24 (by decide),
      State.rget_rset_self]

/-- Settles O35: a creation is accepted or refused by its conditions, a destruction runs its steps, and its end leaves
the descriptor vacant. -/
theorem partitionLife : Obligations.PartitionLife := by
  intro s part v h1 hp
  have hp0 : part ≠ 0 := by omega
  have hp24 : part < 2 ^ 24 := by omega
  refine ⟨fun hv he hs => ⟨fun hr => ?created, fun hr => ?refused⟩, fun hv he hs => ?destroyed, fun hs hd => ?ended⟩
  case created =>
    refine ⟨_, completes_of_effect (by rw [hv]; rfl) (decide_eq_true hp) rfl
      (State.writePartCfg_creates hp0 hv he hs), ?_⟩
    rw [State.pins_b, State.pins_partState]
    exact State.createPart_enables hr hp
  case refused =>
    refine ⟨_, completes_of_effect (by rw [hv]; rfl) (decide_eq_true hp) rfl
      ((State.writePartCfg_creates hp0 hv he hs).trans (State.createPart_refused hr)), ?_⟩
    rw [State.pins_b, State.pins_b, State.pins_f, State.pins_partState, State.refusePart_partState,
      State.partState_setF _ hp24 hp24 (by decide)]
    refine ⟨?_, State.partState_code_partCfg v hp he hs, State.refusePart_REFUSED _ _ _,
      State.refusePart_REASON _ _ _ (State.createRefusal_lt _ _)⟩
    rw [State.refusePart, State.b, State.f_setF_ne _ _ hp24 hp24 (.inl (by decide)),
      State.f_setF_ne _ _ hp24 hp24 (.inl (by decide)), State.f_setF_self _ _ _ _ (by decide)]
    rfl
  case destroyed =>
    exact completes_of_effect (by rw [hv]; rfl) (decide_eq_true hp) rfl (State.writePartCfg_destroys hp0 hv he hs)
  case ended =>
    refine ⟨_, completes_of_effect ?_ (decide_eq_true hp) rfl rfl, ?_⟩
    · simpa [hs] using fun a b h => hd (a, b) h
    · rw [State.pins_b, State.pins_partState, State.pins_rget, State.pins_ras]
      exact s.endDestroy_vacates hp

end Sys2Proof.Machine
end

section
/-!
PROOF. Operations on a partition (11 R405, R407, R411): what a write of TUN_PART_CMD with GO does where the operation is
allowed and where it is refused, and the STATE that the end of a freeze and of a restore leaves.
-/
namespace Sys2Proof.Machine

/-! ### Writes of TUN_PART_CMD -/

theorem partCmd_free : ∀ x ∈ Reg.partCmd.info.fields, x.acc ≠ .rwd := by decide

theorem goesOp_iff (op : Nat) (v : W32) : goesOp op v = true ↔ bitsOf v 2 1 = 1 ∧ bitsOf v 0 2 = op := by
  simp [goesOp]

theorem State.opRefusal_lt (s : State) (p op : Nat) : s.opRefusal p op < 16 := by
  unfold State.opRefusal
  extract_lets st idle regions
  split
  case h_4 => decide
  all_goals split_ifs <;> decide

/-- STATE is read-only. -/
theorem State.partState_code_partCmd (s : State) (p : Nat) (v : W32) :
    (s.code .partCmd p v).partState p = s.partState p :=
  State.f_code_ro partCmd_free p v (x := F.partCmd_STATE) (reset := 0) rfl (by decide)

/-- The command word as an operation that is allowed leaves it: no reason, and the tables updated. -/
def State.acceptOp (s : State) (p : Nat) (v : W32) : State := ((s.code .partCmd p v).setF F.partCmd_REASON p 0).ploro [p]

/-- What each allowed operation does further: a freeze and a thaw are noted, a freeze and a restore change STATE. -/
def State.startOp (s : State) (p : Nat) : Nat → State
  | 0 => { s with tun := { s.tun with freezing := SMap.put s.tun.freezing p 1 } }.setF F.partCmd_STATE p 2
  | 1 => { s with tun := { s.tun with freezing := SMap.put s.tun.freezing p 2 } }
  | _ => s.setF F.partCmd_STATE p 4

section Write
variable {s : State} {p k : Nat} {v : W32} (hp0 : p ≠ 0) (hg : goesOp k v = true)
include hp0 hg

theorem State.writePartCmd_refused (hr : (s.code .partCmd p v).opRefusal p k ≠ 0) :
    s.writePartCmd p v = (s.code .partCmd p v).refusePart p ((s.code .partCmd p v).opRefusal p k) := by
  obtain ⟨hgo, rfl⟩ := (goesOp_iff k v).1 hg
  simp [State.writePartCmd, hp0, hgo, hr]

theorem State.writePartCmd_accepted (hr : (s.code .partCmd p v).opRefusal p k = 0) :
    s.writePartCmd p v = (s.acceptOp p v).startOp p k := by
  obtain ⟨hgo, hk⟩ := (goesOp_iff k v).1 hg
  unfold State.writePartCmd
  simp only [hgo, hk, hr]
  rw [if_neg (by simpa using hp0), if_neg (by decide), if_neg (by decide)]
  match k with
  | 0 | 1 | _ + 2 => rfl

end Write

/-- Each row is the write of the word whose OP it is. -/
theorem State.completes_writePartCmd {s t : State} {c : Instr} {part k : Nat} {v : W32} (hp : part < 64)
    (hc : (c = .partFreeze part v ∧ k = 0) ∨ (c = .partThaw part v ∧ k = 1) ∨ (c = .partRestore part v ∧ k = 2))
    (hg : goesOp k v = true) (ht : s.writePartCmd part v = t) : Completes c s t.pins := by
  obtain ⟨rfl, rfl⟩ | ⟨rfl, rfl⟩ | ⟨rfl, rfl⟩ := hc <;> exact completes_of_effect hg (decide_eq_true hp) rfl ht

/-! ### The ends -/

/-- The tables follow the STATE that an end writes. -/
theorem State.partState_ploro_setF (s : State) (p v : Nat) (ps : List Nat) :
    ((s.setF F.partCmd_STATE p v).ploro ps).partState p = v % 8 :=
  (State.ploro_keeps (fun t => t.partState p) (fun _ _ => rfl) _ _).trans (State.partState_setF_STATE s p v)

theorem State.partState_endFreeze (s : State) (p : Nat) : (s.endFreeze p).partState p = 3 := by
  unfold State.endFreeze
  exact State.partState_ploro_setF _ _ _ _

theorem State.partState_endRestorePart (s : State) (p : Nat) : (s.endRestorePart p).partState p = 1 := by
  unfold State.endRestorePart
  exact State.partState_ploro_setF _ _ _ _

/-- Settles O36: an operation that is allowed starts, one that is not is refused with its reason and changes the command
word alone, and each end writes its STATE. -/
theorem partitionOperations : Obligations.PartitionOperations := by
  intro s part v h1 hp
  have hp0 : part ≠ 0 := by omega
  have hp24 : part < 2 ^ 24 := by omega
  refine ⟨fun hg hr => ?freeze, fun hg hr => ?thaw, fun hg hr => ?restore, fun c k hc hg hr => ?refused,
    fun hf => ?frozen, fun hs => ?restored⟩
  case freeze =>
    refine ⟨_, State.completes_writePartCmd hp (.inl ⟨rfl, rfl⟩) hg (State.writePartCmd_accepted hp0 hg hr), ?_⟩
    rw [State.pins_partState]
    exact State.partState_setF_STATE _ _ _
  case thaw =>
    refine ⟨_, State.completes_writePartCmd hp (.inr (.inl ⟨rfl, rfl⟩)) hg (State.writePartCmd_accepted hp0 hg hr), ?_⟩
    rw [State.pins_tun]
    exact SMap.find_put_self _ _ _
  case restore =>
    refine ⟨_, State.completes_writePartCmd hp (.inr (.inr ⟨rfl, rfl⟩)) hg (State.writePartCmd_accepted hp0 hg hr), ?_⟩
    rw [State.pins_partState]
    exact State.partState_setF_STATE _ _ _
  case refused =>
    refine ⟨_, State.completes_writePartCmd hp hc hg (State.writePartCmd_refused hp0 hg hr), ?_⟩
    rw [State.pins_b, State.pins_f, State.pins_partState, State.refusePart_partState]
    refine ⟨State.refusePart_REFUSED _ _ _, State.refusePart_REASON _ _ _ (State.opRefusal_lt _ _ _),
      s.partState_code_partCmd part v, ?_⟩
    have word := (State.SameBut.refl s fun r j => r = .partCmd ∧ j = part).code v partCmd_free hp24 ⟨rfl, rfl⟩
    exact ((word.setF 1 hp24 ⟨rfl, rfl⟩).setF _ hp24 ⟨rfl, rfl⟩).pins
  case frozen =>
    refine ⟨_, completes_of_effect hf (decide_eq_true hp) rfl rfl, ?_⟩
    rw [State.pins_partState]
    exact s.partState_endFreeze part
  case restored =>
    refine ⟨_, completes_of_effect (beq_iff_eq.2 hs) (decide_eq_true hp) rfl rfl, ?_⟩
    rw [State.pins_partState]
    exact s.partState_endRestorePart part

end Sys2Proof.Machine
end

section
/-!
PROOF. The word of a context (11 R393, R404, R412): what a write with ENABLE 1 and one with ENABLE 0 leave in each state
of the context.
-/
namespace Sys2Proof.Machine

/-! ### The word -/

theorem tunCtx_free : ∀ x ∈ Reg.tunCtx.info.fields, x.acc ≠ .rwd := by decide

section Word
variable {s : State} {key : Nat} {v : W32}

theorem State.b_code_tunCtx_ENABLE : (s.code .tunCtx key v).b F.tunCtx_ENABLE key = (bitsOf v 0 1 == 1) :=
  congrArg (· == 1) (s.f_code_rw tunCtx_free key v (x := F.tunCtx_ENABLE) (reset := 0) rfl (by decide))

/-- STATE is read-only. -/
theorem State.f_code_tunCtx_STATE : (s.code .tunCtx key v).f F.tunCtx_STATE key = s.f F.tunCtx_STATE key :=
  State.f_code_ro tunCtx_free key v (x := F.tunCtx_STATE) (reset := 0) rfl (by decide)

/-- STATE written, another field of the context's word is as before. -/
theorem State.f_setCtxState_field {x : Fld} (st : Nat) (hk : key < 2 ^ 24) (hr : x.reg = .tunCtx)
    (hd : x.lo + x.n ≤ 3 ∨ 6 ≤ x.lo) : (s.setCtxState key st).f x key = s.f x key := by
  unfold State.setCtxState
  rw [State.f_setF_ne _ _ (by omega) hk (.inl (by rw [hr]; decide)),
    State.f_setF_field (x := F.tunCtx_STATE) _ _ _ (by decide) hr hd]

/-- A ring that returns to IDLE changes its own status alone. -/
theorem State.f_idleRing {x : Fld} {i : Nat} (hk : key < 2 ^ 24) (hi : i < 2 ^ 24) (hx : x.reg ≠ .ringStatus) :
    (s.idleRing key).f x i = s.f x i := by
  unfold State.idleRing
  split
  · exact s.f_setF_ne _ hk hi (.inl hx)
  · rfl

/-- A context that a write enables again after a fault. -/
def State.reviveCtx (s : State) (key : Nat) : State := ((s.setF F.tunCtx_FAULT key 0).setCtxState key 0).idleRing key

theorem State.reviveCtx_fields (s : State) (hk : key < 2 ^ 24) :
    (s.reviveCtx key).b F.tunCtx_ENABLE key = s.b F.tunCtx_ENABLE key ∧ (s.reviveCtx key).f F.tunCtx_STATE key = 0 ∧
      (s.reviveCtx key).f F.tunCtx_FAULT key = 0 := by
  refine ⟨?_, ?_, ?_⟩
  · rw [State.b, State.reviveCtx, State.f_idleRing hk hk (by decide), State.f_setCtxState_field _ hk rfl (by decide),
      State.f_setF_field _ _ _ (by decide) (by decide) (by decide), State.b]
  · rw [State.reviveCtx, State.f_idleRing hk hk (by decide), State.f_setCtxState_self _ _ hk]
  · rw [State.reviveCtx, State.f_idleRing hk hk (by decide), State.f_setCtxState_field _ hk rfl (by decide),
      State.f_setF_self _ _ _ _ (by decide)]
    rfl

/-! ### A write of the word -/

theorem State.writeCtx_revives (h1 : bitsOf v 0 1 = 1) (hs : s.f F.tunCtx_STATE key = 5) :
    s.writeCtx key v = (s.code .tunCtx key v).reviveCtx key := by
  simp [State.writeCtx, h1, hs, State.reviveCtx]

theorem State.writeCtx_enables (h1 : bitsOf v 0 1 = 1) (hs : s.f F.tunCtx_STATE key ≠ 5) :
    s.writeCtx key v = s.code .tunCtx key v := by
  simp [State.writeCtx, h1, hs]

theorem State.writeCtx_disables (h0 : bitsOf v 0 1 = 0) (hs : s.f F.tunCtx_STATE key = 0 ∨ s.f F.tunCtx_STATE key = 5) :
    s.writeCtx key v = s.code .tunCtx key v := by
  rcases hs with hs | hs <;> simp [State.writeCtx, h0, hs]

theorem State.writeCtx_tearsDown (h0 : bitsOf v 0 1 = 0) (hs : s.f F.tunCtx_STATE key ≠ 0)
    (hs' : s.f F.tunCtx_STATE key ≠ 5) :
    s.writeCtx key v = (s.code .tunCtx key v).teardown ⟨0, key / 16, key % 16, 3, 0xFFFF, 0, 0⟩ false := by
  simp [State.writeCtx, h0, hs, hs']

end Word

theorem context_wf {part ctx : Nat} (hp : part < 64) (hx : ctx < 16) :
    (decide (part < 64) && decide (ctx < 16)) = true := by simp [hp, hx]

/-- Settles O37: ENABLE 1 revives a FAULTED context and is else the word written; ENABLE 0 tears down a context that is
neither IDLE nor FAULTED and is else the word written. -/
theorem contextWords : Obligations.ContextWords := by
  intro s part ctx v h1 hp hx key
  have hk : key < 2 ^ 24 := by omega
  have hw := context_wf hp hx
  refine ⟨fun hv hs => ?revived, fun hv hs => ?enabled, fun hv hs => ?disabled, fun hv h0 h5 => ?tornDown⟩
  case revived =>
    obtain ⟨he, hs', hf⟩ := (s.code .tunCtx key v).reviveCtx_fields hk
    refine ⟨_, completes_of_effect (by rw [hv]; rfl) hw rfl (State.writeCtx_revives hv hs), ?_⟩
    rw [State.pins_b, State.pins_f, State.pins_f, he, State.b_code_tunCtx_ENABLE, hv]
    exact ⟨rfl, hs', hf⟩
  case enabled =>
    refine ⟨completes_of_effect (by rw [hv]; rfl) hw rfl (State.writeCtx_enables hv hs), ?_, State.f_code_tunCtx_STATE⟩
    rw [State.b_code_tunCtx_ENABLE, hv]
    rfl
  case disabled =>
    refine ⟨completes_of_effect (by rw [hv]; rfl) hw rfl (State.writeCtx_disables hv hs), ?_⟩
    rw [State.b_code_tunCtx_ENABLE, hv]
    rfl
  case tornDown =>
    have hpart : key / 16 = part := by omega
    have hctx : key % 16 = ctx := by omega
    have torn := State.writeCtx_tearsDown hv h0 h5
    rw [hpart, hctx] at torn
    exact completes_of_effect (by rw [hv]; rfl) hw rfl torn

end Sys2Proof.Machine
end

section
/-!
PROOF. The teardown of a context (11 R403, R404; 12 R434; 15 R511): the masks, the ring, the groups and the log as a fault
leaves them, where the ring holds no command.
-/
namespace Sys2Proof.Machine

/-! ### The masks of a partition's contexts (11 R411, R412) -/

/-- A power of two taken away where its bit stands clears the bit. -/
theorem testBit_sub_two_pow_self {m k : Nat} (h : m / 2 ^ k % 2 = 1) : (m - 2 ^ k).testBit k = false := by
  have quotient : (m - 2 ^ k) / 2 ^ k = m / 2 ^ k - 1 := by
    simpa using Nat.sub_mul_div m (2 ^ k) 1
  rw [Nat.testBit_eq_decide_div_mod_eq, quotient]
  exact decide_eq_false (by omega)

/-- The RUNNING bit of a context is clear once its STATE is another. -/
theorem State.running_setCtxState (s : State) (key : Nat) {st : Nat} (h : st ≠ 2) :
    ((s.setCtxState key st).f F.partCtxmask_RUNNING (key / 16)).testBit (key % 16) = false := by
  unfold State.setCtxState
  extract_lets s1 m b
  rw [State.f_setF_self _ _ _ _ (by decide), if_neg (by simpa using h), Nat.testBit_mod_two_pow, Bool.and_eq_false_iff]
  right
  split
  · next hb => exact testBit_sub_two_pow_self (beq_iff_eq.1 hb)
  · next hb => rw [Nat.testBit_eq_decide_div_mod_eq]; simpa using hb

/-- The marks are in the context's word and the masks of its partition. -/
theorem State.f_markFaulted_ne (s : State) {e : FaultRec} (hp : e.part < 64) (hx : e.ctx < 16) {x : Fld} {i : Nat}
    (hi : i < 2 ^ 24) (hc : x.reg ≠ .tunCtx) (hm : x.reg ≠ .partCtxmask) : (s.markFaulted e).f x i = s.f x i := by
  have hk : 16 * e.part + e.ctx < 2 ^ 24 := by omega
  unfold State.markFaulted State.setCtxState
  rw [State.f_setF_ne _ _ (by omega) hi (.inl hm), State.f_setF_ne _ _ hk hi (.inl hc),
    State.f_setF_ne _ _ (by omega) hi (.inl hm), State.f_setF_ne _ _ hk hi (.inl hc)]
  rfl

section Marked
variable (s : State) {e : FaultRec} (hp : e.part < 64) (hx : e.ctx < 16)
include hx

theorem State.markFaulted_faulted : ((s.markFaulted e).f F.partCtxmask_FAULTED e.part).testBit e.ctx = true := by
  unfold State.markFaulted
  rw [State.f_setF_self _ _ _ _ (by decide), Nat.testBit_mod_two_pow, Nat.testBit_or, Nat.testBit_two_pow_self]
  simp [F.partCtxmask_FAULTED, hx]

include hp

theorem State.markFaulted_running : ((s.markFaulted e).f F.partCtxmask_RUNNING e.part).testBit e.ctx = false := by
  have hpart : (16 * e.part + e.ctx) / 16 = e.part := by omega
  have hctx : (16 * e.part + e.ctx) % 16 = e.ctx := by omega
  unfold State.markFaulted
  extract_lets key s1 x fresh s2 s3
  have clear := s2.running_setCtxState key (st := 5) (by decide)
  rw [hpart, hctx] at clear
  rw [State.f_setF_field _ _ _ (by decide) (by decide) (by decide),
    State.f_setF_ne _ _ (by omega) (by omega) (.inl (by decide))]
  exact clear

end Marked

/-! ### The ring and the log (12 R434; 15 R511) -/

/-- The ring of a torn-down context: in ERROR where it was or the fault is the ring's own, else STOPPED. -/
def State.closeRing (s : State) (key : Nat) (ringError : Bool) : State :=
  if ringError || s.f F.ringStatus_STATE key == 3 then s.setF F.ringStatus_STATE key 3
  else s.setF F.ringStatus_STATE key 2

theorem State.f_closeRing (s : State) (key : Nat) (ringError : Bool) :
    (s.closeRing key ringError).f F.ringStatus_STATE key =
      if ringError = true ∨ s.f F.ringStatus_STATE key = 3 then 3 else 2 := by
  simp only [State.closeRing, Bool.or_eq_true, beq_iff_eq]
  split <;> exact State.f_setF_self _ _ _ _ (by decide)

theorem State.f_closeRing_ne (s : State) {key i : Nat} (ringError : Bool) {x : Fld} (hk : key < 2 ^ 24) (hi : i < 2 ^ 24)
    (hx : x.reg ≠ .ringStatus) : (s.closeRing key ringError).f x i = s.f x i := by
  unfold State.closeRing
  split <;> exact s.f_setF_ne _ hk hi (.inl hx)

theorem State.setF_regs_of_regs {s t : State} (h : t.regs = s.regs) (x : Fld) (i v : Nat) :
    (t.setF x i v).regs = (s.setF x i v).regs := by
  simp only [State.setF, State.rset]
  rw [State.rget_of_regs h, h]

theorem State.closeRing_regs_of_regs {s t : State} (h : t.regs = s.regs) (key : Nat) (ringError : Bool) :
    (t.closeRing key ringError).regs = (s.closeRing key ringError).regs := by
  unfold State.closeRing
  rw [State.f_of_regs h]
  split <;> exact State.setF_regs_of_regs h _ _ _

theorem State.foldl_rset_ras (s : State) (a : Reg) (base : Nat) (ws : List (Nat × Nat)) :
    (ws.foldl (fun (s : State) w => s.rset a (base + w.2) (BitVec.ofNat 32 w.1)) s).ras = s.ras :=
  List.foldlRecOn (motive := fun t : State => t.ras = s.ras) _ _ rfl fun _ ht _ _ => ht

theorem State.logFault_logSeq (s : State) (e : FaultRec) : (s.logFault e).ras.logSeq = s.ras.logSeq + 1 := by
  unfold State.logFault
  extract_lets i seq words ras s1 s2 s3
  have logged : s3.ras = s1.ras := (State.setF_ras _ _ _ _).trans (State.foldl_rset_ras _ _ _ _)
  split
  · rw [State.setF_ras, logged]
  · rw [logged]

@[simp] theorem State.msix_ras (s : State) (fn vector : Nat) : (s.msix fn vector).ras = s.ras := by
  unfold State.msix
  split
  · rfl
  · split <;> rfl

theorem State.endCommands_ras_of_empty (s : State) {key : Nat} (code : Nat) (h : (s.ring key).cmds = []) :
    (s.endCommands key code).ras = s.ras := by
  unfold State.endCommands
  rw [h]
  rfl

section Reported
variable (s : State) {e : FaultRec} (ringError : Bool) (hr : (s.ring (16 * e.part + e.ctx)).cmds = [])
include hr

/-- Of the registers beside the fault log the rest of a teardown writes the ring's status alone. -/
theorem State.f_reportFault {x : Fld} {i : Nat} (hi : i < 2 ^ 24) (hl : x.reg ≠ .rasFlog) (hls : x.reg ≠ .rasFlogStatus) :
    (s.reportFault e ringError).f x i = (s.closeRing (16 * e.part + e.ctx) ringError).f x i := by
  unfold State.reportFault
  extract_lets key s1 s2 s3
  have logged : s3.f x i = s2.f x i := by
    unfold s3
    split
    · rfl
    · exact congrArg (bitsOf · x.lo x.n) (s2.rget_logFault e hi hl hls)
  have closed : s2 = s1.closeRing key ringError := rfl
  rw [State.f_of_regs (State.msix_regs _ _ _), logged, closed]
  exact State.f_of_regs (State.closeRing_regs_of_regs (s.endCommands_regs_of_empty e.code hr) key ringError) x i

theorem State.reportFault_logSeq (hcode : e.code ≠ 0) : (s.reportFault e ringError).ras.logSeq = s.ras.logSeq + 1 := by
  unfold State.reportFault
  extract_lets key s1 s2 s3
  have closed : s2.ras = s.ras := by
    refine Eq.trans ?_ (s.endCommands_ras_of_empty e.code hr)
    unfold s2
    split <;> rfl
  have logged : s3 = s2.logFault e := if_neg (by simpa using hcode)
  rw [State.msix_ras, logged, State.logFault_logSeq, closed]

end Reported

/-- A context that is FAULTED already is not changed (11 R404). -/
theorem State.teardown_of_faulted (s : State) {e : FaultRec} (ringError : Bool) (hcode : e.code < 2 ^ 16)
    (hs : s.f F.tunCtx_STATE (16 * e.part + e.ctx) = 5) : s.teardown e ringError = s := by
  unfold State.teardown
  rw [FaultRec.plain_eq hcode]
  exact if_pos (by simp [hs])

/-! ### What the marks leave beside the registers -/

theorem State.markFaulted_groups (s : State) (e : FaultRec) :
    (s.markFaulted e).co.groups =
      SMap.keep (fun k g => !(k < 256 * 64 && g.part == e.part && g.ctx == e.ctx)) s.co.groups := by
  simp only [State.markFaulted, State.setF_co, State.setCtxState_co]
  rfl

theorem State.markFaulted_ras (s : State) (e : FaultRec) : (s.markFaulted e).ras = s.ras := by
  simp only [State.markFaulted, State.setF_ras, State.setCtxState_ras]
  rfl

section Torn
variable {s : State} {e : FaultRec} {ringError : Bool} (hp : 1 ≤ e.part) (hc : e.code < 2 ^ 16)
  (hs : s.f F.tunCtx_STATE (16 * e.part + e.ctx) ≠ 5) (hr : (s.ring (16 * e.part + e.ctx)).cmds = [])
include hp hc hs hr

/-- The masks keep the marks. -/
theorem State.f_teardown_mask (hp' : e.part < 64) (hx : e.ctx < 16) {x : Fld} (hm : x.reg = .partCtxmask) :
    (s.teardown e ringError).f x e.part = (s.markFaulted e).f x e.part := by
  rw [s.teardown_eq ringError hc hp hs, State.f_reportFault _ ringError ((s.markFaulted_ring e _).symm ▸ hr) (by omega)
      (by rw [hm]; decide) (by rw [hm]; decide),
    State.f_closeRing_ne _ _ (by omega) (by omega) (by rw [hm]; decide)]

theorem State.f_teardown_ring (hp' : e.part < 64) (hx : e.ctx < 16) :
    (s.teardown e ringError).f F.ringStatus_STATE (16 * e.part + e.ctx) =
      if ringError = true ∨ s.f F.ringStatus_STATE (16 * e.part + e.ctx) = 3 then 3 else 2 := by
  have hk : 16 * e.part + e.ctx < 2 ^ 24 := by omega
  rw [s.teardown_eq ringError hc hp hs, State.f_reportFault _ ringError ((s.markFaulted_ring e _).symm ▸ hr) hk
      (by decide) (by decide),
    State.f_closeRing, s.f_markFaulted_ne hp' hx hk (by decide) (by decide)]

theorem State.teardown_groups :
    (s.teardown e ringError).co.groups =
      SMap.keep (fun k g => !(k < 256 * 64 && g.part == e.part && g.ctx == e.ctx)) s.co.groups := by
  rw [s.teardown_eq ringError hc hp hs, State.reportFault_co _ ringError ((s.markFaulted_ring e _).symm ▸ hr),
    State.markFaulted_groups]

theorem State.teardown_logSeq (hc0 : e.code ≠ 0) : (s.teardown e ringError).ras.logSeq = s.ras.logSeq + 1 := by
  rw [s.teardown_eq ringError hc hp hs, State.reportFault_logSeq _ ringError ((s.markFaulted_ring e _).symm ▸ hr) hc0,
    State.markFaulted_ras]

end Torn

/-- Settles O38: the marks are made before the ring is closed and stay; the ring's status and the log follow them, and
the context's groups are gone from the group map. -/
theorem teardownFaultsContext : Obligations.TeardownFaultsContext := by
  intro s e ringError h1 hp hx hc0 hc key
  refine ⟨fun hs hr => ?torn, fun hs => s.teardown_of_faulted ringError hc hs⟩
  obtain ⟨state, code⟩ := s.teardown_marks hp hx ringError hc h1 hs hr
  refine ⟨state, code, ?_, ?_, State.f_teardown_ring h1 hc hs hr hp hx, ?_,
    State.teardown_logSeq h1 hc hs hr (by omega)⟩
  · rw [State.f_teardown_mask h1 hc hs hr hp hx rfl]
    exact s.markFaulted_faulted hx
  · rw [State.f_teardown_mask h1 hc hs hr hp hx rfl]
    exact s.markFaulted_running hp hx
  · intro x hmem hlt
    rw [State.teardown_groups h1 hc hs hr] at hmem
    simpa [hlt, ← not_and_or] using (List.mem_filter.1 hmem).2

end Sys2Proof.Machine
end

section
/-!
PROOF. Stages of a context's switch (11 R400 to R402) and the end of a torn-down context's drain (11 R403).
-/
namespace Sys2Proof.Machine

section Switch
variable {s : State} {part ctx core : Nat} {st : SwitchStage}

theorem switch_wf (hp : part < 64) (hx : ctx < 16) (hc : core < 256) :
    (decide (part < 64) && decide (ctx < 16) && decide (core < 256)) = true := by simp [hp, hx, hc]

/-- A core at a stage of its context's switch takes the event of that stage when the stage's own condition holds. -/
theorem State.stage_runs {key : Nat} {ready : Bool} (hs : s.stageOf key core = some st) (hr : ready = true) :
    (s.stageOf key core == some st && ready) = true := by
  rw [hs, hr]
  simp

end Switch

/-- Settles O39: each event takes place at its stage, and the timeout only where something is outstanding and time runs. -/
theorem switchEvents : Obligations.SwitchEvents := by
  intro s part ctx core hp hx hc key
  have hw := switch_wf hp hx hc
  refine ⟨fun hs hq => ?drained, fun hs hq hsafe => ?timedOut, fun hs hr => ?saved, fun hs hr => ?restored,
    fun hd he => ?stops⟩
  case drained => exact completes_of_effect (State.stage_runs hs hq) hw rfl rfl
  case timedOut =>
    have waits : (s.stageOf key core == some .draining && !s.coreQuiet part ctx core) = true :=
      State.stage_runs hs (by rw [hq]; rfl)
    exact completes_of_effect (Bool.and_eq_true_iff.2 ⟨waits, by rw [hsafe]; rfl⟩) hw rfl rfl
  case saved => exact completes_of_effect (State.stage_runs hs hr) hw rfl rfl
  case restored => exact completes_of_effect (State.stage_runs hs hr) hw rfl rfl
  case stops => exact completes_of_effect (Bool.and_eq_true_iff.2 ⟨hd, he⟩) (context_wf hp hx) rfl rfl

end Sys2Proof.Machine
end

section
/-!
PROOF. Writes of a ring's control word (12 R422, R434, R444): what ENABLE 1 and ENABLE 0 make of a ring that is enabled
and of one that is not.
-/
namespace Sys2Proof.Machine

section Write
variable {s : State} {key : Nat} {v : W32}

/-- A layout is judged at a disabled ring alone (log entry 115). -/
theorem State.writeRing_starts (h1 : bitsOf v 0 1 = 1) (he : s.b F.ringCtrl_ENABLE key = false)
    (hb : s.ringBad key v = false) : s.writeRing key v = (s.code .ringCtrl key v).startRing key := by
  simp [State.writeRing, h1, he, hb]

theorem State.writeRing_enabled (h1 : bitsOf v 0 1 = 1) (he : s.b F.ringCtrl_ENABLE key = true) :
    s.writeRing key v = s.code .ringCtrl key v := by
  simp [State.writeRing, h1, he]

theorem State.writeRing_abandons (h0 : bitsOf v 0 1 = 0) (he : s.b F.ringCtrl_ENABLE key = true) :
    s.writeRing key v = (s.code .ringCtrl key v).abandon key := by
  simp [State.writeRing, h0, he]

/-- Of a write that is not allowed ENABLE and WI alone are left. -/
theorem State.writeRing_refused (h0 : bitsOf v 0 1 = 0) (he : s.b F.ringCtrl_ENABLE key = false)
    (hb : s.ringBad key v = true) :
    s.writeRing key v = (s.setF F.ringCtrl_ENABLE key 0).setF F.ringStatus_WI key 1 := by
  have flag (t : State) : t.ignored .ringCtrl key = t.setF F.ringStatus_WI key 1 := rfl
  simp [State.writeRing, h0, he, hb, flag]

end Write

/-- Settles O40: a good layout starts a disabled ring, ENABLE 0 abandons what an enabled one has not started, and a bad
layout leaves LOG2N as it was and sets WI. -/
theorem ringEnableWords : Obligations.RingEnableWords := by
  intro s part ctx v hp hx key
  have hk : key < 2 ^ 24 := by omega
  have hw := context_wf hp hx
  refine ⟨fun h1 he hb => ?started, fun h1 he => ?enabled, fun h0 he => ?abandoned, fun h0 he hb => ?refused⟩
  case started => exact completes_of_effect (beq_iff_eq.2 h1) hw rfl (State.writeRing_starts h1 he hb)
  case enabled => exact completes_of_effect (beq_iff_eq.2 h1) hw rfl (State.writeRing_enabled h1 he)
  case abandoned => exact completes_of_effect (beq_iff_eq.2 h0) hw rfl (State.writeRing_abandons h0 he)
  case refused =>
    refine ⟨_, completes_of_effect (beq_iff_eq.2 h0) hw rfl (State.writeRing_refused h0 he hb), ?_, ?_⟩
    · rw [State.pins_b, State.b_setF_one _ _ (by decide) rfl]
    · rw [State.pins_f, State.f_setF_ne _ _ hk hk (.inl (by decide)),
        State.f_setF_field _ _ _ (by decide) (by decide) (by decide)]

end Sys2Proof.Machine
end

section
/-!
PROOF. The next command of a ring (12 R426 to R430; 13 R473): a row acts on it by the rule of its OP.
-/
namespace Sys2Proof.Machine

/-- A row that has an effect completes with it. -/
theorem completes_of_some {c : Instr} {s t : State} {o : Option State} (ho : o = some t) (hw : c.wf = true)
    (hc : exec c s = command c o.isSome s (o.getD s)) : Completes c s t.pins :=
  completes_of_effect (Option.isSome_of_eq_some ho) hw hc (by rw [ho, Option.getD_some])

/-- A free engine is one that runs. -/
theorem State.noEngine_of_freeEngine {s : State} {busy : SMap EngineCmd} {n first e : Nat}
    (h : s.freeEngine busy n first = some e) : s.noEngine n first = false := by
  have free := List.find?_some (p := fun e => (SMap.find busy e).isNone && !s.unitOff 1 (first + e)) h
  have runs : s.unitOff 1 (first + e) = false := by simpa using (Bool.and_eq_true_iff.1 free).2
  exact List.all_eq_false.2 ⟨e, List.mem_of_find?_eq_some h, by simp [runs]⟩

section Act
variable {s : State} {key : Nat} {c : RingCmd}

/-- At a boundary the row of a command's OP acts on it once it may be considered and is well formed (12 R426). -/
theorem State.ringRow_eq {op : Nat} (host : List Byte) (hb : s.atBoundary = true) (hn : s.nextCmd key = some c)
    (hc : s.considered key c = true) (hop : c.op = op) : s.ringRow key op host = s.beginCmd key c host := by
  simp [State.ringRow, State.nextIs, State.ringAct, hb, hn, hc, hop]

/-- COPY with an element goes to the engine found. -/
theorem State.beginCopy_engine {e : Nat} (h0 : c.w 3 ≠ 0) (he : s.freeEngine s.tun.copies 16 0 = some e) :
    s.beginCopy key c = some
      (let u := s.markStarted key c.idx
       ({ u with tun := { u.tun with copies := SMap.put u.tun.copies e (c.engine key []) } } : State)) := by
  unfold State.beginCopy
  rw [if_neg (by simpa using h0), if_neg (by simp [State.noEngine_of_freeEngine he]), he]
  rfl

/-- A sealed load whose package can be reached goes to the engine found. -/
theorem State.beginSealed_engine {host : List Byte} {e : Nat}
    (hl : c.hsrc = false ∨ s.host.linkUp = true ∧ s.hostReady = true) (he : s.freeEngine s.tun.aes 4 16 = some e) :
    s.beginSealed key c host = some
      (let u := s.markStarted key c.idx
       ({ u with tun := { u.tun with aes := SMap.put u.tun.aes e (c.engine key host) } } : State)) := by
  have reached : (c.hsrc && !s.host.linkUp) = false ∧ (c.hsrc && !s.hostReady) = false := by
    rcases hl with h | ⟨hu, hr⟩
    · simp [h]
    · simp [hu, hr]
  simp [State.beginSealed, reached, State.noEngine_of_freeEngine he, he]

/-- A started WAITMEM whose word has reached its value comes before the ring's next command. -/
theorem State.waitmemRow_retries {t : State} (hb : s.atBoundary = true)
    (h : (s.ring key).cmds.findSome? (fun x =>
      if x.started && x.ended.isNone && x.op == 0x03 then s.retryWaitmem key x else none) = some t) :
    s.waitmemRow key = some t := by
  unfold State.waitmemRow
  simp only [hb, Bool.true_and, h]
  rfl

/-- With no started WAITMEM the row is that of the next command. -/
theorem State.waitmemRow_begins
    (h : ∀ x ∈ (s.ring key).cmds, x.started = true → x.op ≠ 0x03 ∨ x.ended.isSome = true) :
    s.waitmemRow key = s.ringRow key 0x03 [] := by
  have none_met : (s.ring key).cmds.findSome? (fun x =>
      if s.atBoundary && x.started && x.ended.isNone && x.op == 0x03 then s.retryWaitmem key x else none) = none := by
    refine List.findSome?_eq_none_iff.2 fun x hx => if_neg fun hw => ?_
    simp only [Bool.and_eq_true, beq_iff_eq] at hw
    obtain ⟨⟨⟨-, started⟩, unended⟩, op⟩ := hw
    rcases h x hx started with hop | ended
    · exact hop op
    · rw [Option.isNone_iff_eq_none.1 unended] at ended
      exact absurd ended (by decide)
  unfold State.waitmemRow
  rw [none_met]
  rfl

end Act

/-- Settles O41: each row is the next command begun by the rule of its OP, a started WAITMEM that ends comes before it,
and a free engine takes what needs one. -/
theorem ringCommands : Obligations.RingCommands := by
  intro s part ctx c hp hx key hb hn hc hok
  have hw := context_wf hp hx
  have hpart : key / 16 = part := by omega
  have hctx : key % 16 = ctx := by omega
  have row {op : Nat} (host : List Byte) (hop : c.op = op) : s.ringRow key op host = s.beginCmd key c host :=
    State.ringRow_eq host hb hn hc hop
  refine ⟨fun hop t ht => ?task, fun hop hall t ht => ?waits, fun t ht => ?met, fun hop t ht => ?write,
    fun hop => ?phase, fun hop => ?nop, fun hop h0 => ?empty, fun hop h0 e he => ?copy, fun hop hl e host he => ?loads⟩
  case task => exact completes_of_some ((row [] hop).trans (by simp [State.beginCmd, hok, hop, ht])) hw rfl
  case waits =>
    have begins : s.ringRow key 0x03 [] = some t := (row [] hop).trans (by simp [State.beginCmd, hok, hop, ht])
    exact completes_of_some ((State.waitmemRow_begins hall).trans begins) hw rfl
  case met => exact completes_of_some (State.waitmemRow_retries hb ht) hw rfl
  case write => exact completes_of_some ((row [] hop).trans (by simp [State.beginCmd, hok, hop, ht])) hw rfl
  case phase =>
    have hint : s.beginPhase key c = (s.doneNow key c).addHint part ctx (fld (c.w 1) 0 32) := by
      rw [State.beginPhase, hpart, hctx]
    exact completes_of_some ((row [] hop).trans (by simp [State.beginCmd, hok, hop, hint])) hw rfl
  case nop => exact completes_of_some ((row [] hop).trans (by simp [State.beginCmd, hok, hop])) hw rfl
  case empty =>
    have ends : s.beginCopy key c = some (s.doneNow key c) := if_pos (beq_iff_eq.2 h0)
    exact completes_of_some ((row [] hop).trans (by simp [State.beginCmd, hok, hop, ends])) hw rfl
  case copy =>
    have taken := State.beginCopy_engine (key := key) h0 he
    exact completes_of_some ((row [] hop).trans (by simp [State.beginCmd, hok, hop, taken])) hw rfl
  case loads =>
    have taken := State.beginSealed_engine (key := key) (host := host) hl he
    exact completes_of_some ((row host hop).trans (by simp [State.beginCmd, hok, hop, taken])) hw rfl

end Sys2Proof.Machine
end

section
/-!
PROOF. Events of a ring and of its engines (12 R414, R424 to R432): what entries that a fetch brings leave of the ring,
and that each event takes place where it is due.
-/
namespace Sys2Proof.Machine

/-! ### One ring -/

@[simp] theorem State.ring_setRing_self (s : State) (key : Nat) (x : RingSt) : (s.setRing key x).ring key = x :=
  SMap.get_set_self _ _ _ _

theorem State.ring_of_tun {s t : State} (h : t.tun = s.tun) (key : Nat) : t.ring key = s.ring key := by
  rw [State.ring, h, State.ring]

@[simp] theorem State.ring_setHead (s : State) (key n k : Nat) : (s.setHead key n).ring k = s.ring k :=
  State.ring_of_tun (State.setPair_tun _ _ _ _ _) k

/-- A ring that settles changes its own status alone. -/
@[simp] theorem State.ring_settleRing (s : State) (key k : Nat) : (s.settleRing key).ring k = s.ring k := by
  unfold State.settleRing
  split
  · rfl
  · exact State.ring_of_tun (State.setF_tun _ _ _ _) k

section Head
variable {key : Nat} (hk : key < 2 ^ 24)
include hk

theorem State.head_setHead (s : State) (n : Nat) : (s.setHead key n).head key = n % 2 ^ 64 := by
  rw [State.head, State.setHead, State.pair_setPair _ _ hk (by decide), BitVec.toNat_ofNat]

theorem State.head_settleRing (s : State) : (s.settleRing key).head key = s.head key := by
  unfold State.settleRing
  split
  · rfl
  · simp only [State.head, State.pair]
    rw [State.rget_setF_ne _ _ hk hk (by decide), State.rget_setF_ne _ _ hk hk (by decide)]

/-- HEAD moves to where the fetch ended (12 R425). -/
theorem State.head_takeEntries (s : State) (entries : List (List W64)) :
    (s.takeEntries key entries).head key = (s.ring key).fetched % 2 ^ 64 := by
  unfold State.takeEntries
  rw [State.head_settleRing hk, State.head_setHead hk]

end Head

/-- Every entry becomes a command behind those of the ring (12 R425). -/
theorem State.cmds_takeEntries_length (s : State) (key : Nat) (entries : List (List W64)) :
    ((s.takeEntries key entries).ring key).cmds.length = (s.ring key).cmds.length + entries.length := by
  simp [State.takeEntries]

/-- Settles O42: a fetch, a stall, a failed request, an ended task and an engine that can go on each take place by their
own condition; the entries fetched join the commands and move HEAD. -/
theorem ringEvents : Obligations.RingEvents := by
  refine ⟨fun s part ctx hp hx => ?rings, fun s e he => ?engines⟩
  case rings =>
    intro key
    have hk : key < 2 ^ 24 := by omega
    have hw := context_wf hp hx
    refine ⟨fun entries hwf hf hpoll hready hlen => ?fetched, fun c rest hcmds hsafe hstall => ?stalled,
      fun ho => ?failed, fun n x hmem hn hend => ?ended⟩
    case fetched =>
      have brought : (s.fetching key && s.polled key && s.hostReady &&
          entries.length + s.head key == (s.ring key).fetched) = true := by
        simp [hf, hpoll, hready, hlen]
      exact ⟨completes_of_effect brought hwf rfl rfl, s.head_takeEntries hk entries,
        s.cmds_takeEntries_length key entries⟩
    case stalled =>
      have due : (!(s.ring key).cmds.isEmpty && !s.b F.clkStatus_SAFE 0 &&
          2 ^ (s.f F.ringCtrl_STALL key + 8) ≤ (s.ring key).stalled) = true := by
        simp [hcmds, hsafe, hstall]
      exact completes_of_effect due hw rfl (by rw [hcmds]; rfl)
    case failed => exact completes_of_effect ho hw rfl rfl
    case ended =>
      have due : (s.ctx key).tasks.any (fun t => t.n == n && s.taskEnded part ctx t) = true :=
        List.any_eq_true.2 ⟨x, hmem, by simp [hn, hend]⟩
      exact completes_of_effect due hw rfl rfl
  case engines =>
    exact ⟨fun host again hwf hgo => completes_of_effect hgo hwf rfl rfl,
      fun hwf hload => completes_of_effect hload hwf rfl rfl⟩

end Sys2Proof.Machine
end

section
/-!
PROOF. Accesses through a function's window (12 R413, R418 to R421): the answer to a read and the effect of a write by
what their pieces come to, and the first fault kept in PCI_FN_ERR.
-/
namespace Sys2Proof.Machine

/-! ### The answer of a read -/

section Read
variable {s : State} {fn ofs len p : Nat}

theorem State.doWindowRead_unbound (h : s.windowPart fn = none) :
    s.doWindowRead fn ofs len = some (s.emit (.unsupported fn)) := by
  rw [State.doWindowRead, h]

variable (hp : s.windowPart fn = some p)
include hp

theorem State.doWindowRead_data {d : List Byte} {t : State}
    (h : State.windowGet fn p (linePieces (len / 128 + 2) ofs len) s = .ok (d, t)) :
    s.doWindowRead fn ofs len = some (t.emit (.readData fn d)) := by
  simp [State.doWindowRead, hp, h]

theorem State.doWindowRead_poisoned
    (h : State.windowGet fn p (linePieces (len / 128 + 2) ofs len) s = .error 0x0220) :
    s.doWindowRead fn ofs len = some (s.emit (.poisoned fn)) := by
  simp [State.doWindowRead, hp, h]

/-- A fault that is neither a stall nor poison (12 R419). -/
theorem State.doWindowRead_abort {c : Nat} (h0 : c ≠ 0) (hpoison : c ≠ 0x0220)
    (h : State.windowGet fn p (linePieces (len / 128 + 2) ofs len) s = .error c) :
    s.doWindowRead fn ofs len = some ((s.noteFnErr fn c ofs false).emit (.abort fn)) := by
  simp [State.doWindowRead, hp, h]

end Read

/-! ### The effect of a write -/

section Write
variable {s : State} {fn ofs p : Nat} {data : List Byte}

theorem State.doWindowWrite_unbound (h : s.windowPart fn = none) : s.doWindowWrite fn ofs data = some s := by
  rw [State.doWindowWrite, h]

variable (hp : s.windowPart fn = some p)
include hp

theorem State.doWindowWrite_done {t : State}
    (h : State.windowPut fn p (linePieces (data.length / 128 + 2) ofs data.length) data s = .ok t) :
    s.doWindowWrite fn ofs data = some t := by
  simp [State.doWindowWrite, hp, h]

theorem State.doWindowWrite_fault {c : Nat} (h0 : c ≠ 0)
    (h : State.windowPut fn p (linePieces (data.length / 128 + 2) ofs data.length) data s = .error c) :
    s.doWindowWrite fn ofs data = some (s.noteFnErr fn c ofs true) := by
  simp [State.doWindowWrite, hp, h]

end Write

/-! ### The rows -/

section Rows
variable {s t : State} {fn : Nat} {ofs : W64}

/-- An access within the window of an endpoint that answers. -/
theorem State.windowHit_of (hu : s.hostUp = true) {len : Nat} (h0 : len ≠ 0)
    (hl : ofs.toNat + len ≤ s.windowSize fn) : s.windowHit fn ofs.toNat len = true := by
  simp [State.windowHit, hu, h0, hl]

theorem completes_windowRead {len : Nat} (hw : (Instr.windowRead fn ofs len).wf = true)
    (hh : s.windowHit fn ofs.toNat len = true) (ht : s.doWindowRead fn ofs.toNat len = some t) :
    Completes (.windowRead fn ofs len) s t.pins :=
  completes_of_effect (Bool.and_eq_true_iff.2 ⟨hh, Option.isSome_of_eq_some ht⟩) hw rfl (by rw [ht, Option.getD_some])

theorem completes_windowWrite {data : List Byte} (hw : (Instr.windowWrite fn ofs data).wf = true)
    (hh : s.windowHit fn ofs.toNat data.length = true) (ht : s.doWindowWrite fn ofs.toNat data = some t) :
    Completes (.windowWrite fn ofs data) s t.pins :=
  completes_of_effect (Bool.and_eq_true_iff.2 ⟨hh, Option.isSome_of_eq_some ht⟩) hw rfl (by rw [ht, Option.getD_some])

end Rows

/-- With an event recorded the next one shows in MORE alone (12 R435). -/
theorem State.noteFnErr_of_valid {s : State} {fn : Nat} (code ofs : Nat) (write : Bool)
    (h : s.b F.fnErr_VALID fn = true) : s.noteFnErr fn code ofs write = s.setF F.fnErr_MORE fn 1 := by
  rw [State.noteFnErr, h]
  rfl

/-- Settles O53: a read is answered and a write takes effect by what its pieces come to, and a second fault leaves the
first one's code. -/
theorem windowAccesses : Obligations.WindowAccesses := by
  intro s fn ofs hu
  refine ⟨fun hw => ?atomic, fun len hw h0 hl => ?read, fun data hw h0 hl => ?write, fun c o w hfn hv => ?noted⟩
  case atomic => exact completes_of_effect hu hw rfl rfl
  case read =>
    have hh := State.windowHit_of hu h0 hl
    refine ⟨fun hn => completes_windowRead hw hh (State.doWindowRead_unbound hn), fun p hp => ⟨fun d t hg => ?_,
      fun hg => ?_, fun c hg hc hpoison => ?_⟩⟩
    · exact completes_windowRead hw hh (State.doWindowRead_data hp hg)
    · exact completes_windowRead hw hh (State.doWindowRead_poisoned hp hg)
    · exact completes_windowRead hw hh (State.doWindowRead_abort hp hc hpoison hg)
  case write =>
    have hh := State.windowHit_of hu (mt List.length_eq_zero_iff.1 h0) hl
    refine ⟨fun hn => completes_windowWrite hw hh (State.doWindowWrite_unbound hn), fun p hp => ⟨fun t hg => ?_,
      fun c hg hc => ?_⟩⟩
    · exact completes_windowWrite hw hh (State.doWindowWrite_done hp hg)
    · exact completes_windowWrite hw hh (State.doWindowWrite_fault hp hc hg)
  case noted =>
    rw [State.noteFnErr_of_valid c o w hv]
    exact ⟨State.f_setF_field _ _ _ (by decide) (by decide) (by decide), State.b_setF_one _ _ (by decide) rfl⟩

end Sys2Proof.Machine
end

section
/-!
PROOF. The PCIe link and its functions (12 R413 to R417, R435, R440 to R442): what link loss, function resets and VF
Enable leave, the entries of IDE streams, and BUSY of an invalidation.
-/
namespace Sys2Proof.Machine

/-! ### Functions (12 R416, R417, R435) -/

@[simp] theorem State.fn_setFn_self (s : State) (n : Nat) (x : FnSt) : (s.setFn n x).fn n = x :=
  SMap.get_set_self _ _ _ _

theorem State.fn_setFn_ne (s : State) {n k : Nat} (x : FnSt) (h : k ≠ n) : (s.setFn n x).fn k = s.fn k :=
  SMap.get_set_ne _ _ _ h

@[simp] theorem State.pins_fn (s : State) (n : Nat) : s.pins.fn n = s.fn n := rfl

/-- A function's own reset, which comes last, leaves VF Enable cleared. -/
theorem State.resetPf_vfEnable (s : State) : s.resetPf.host.vfEnable = false := rfl

@[simp] theorem State.takeCount_vfEnable (s : State) (n : Nat) : (s.takeCount n).host.vfEnable = s.host.vfEnable := by
  unfold State.takeCount
  split <;> rfl

@[simp] theorem State.takeCount_f (s : State) (n : Nat) (x : Fld) (i : Nat) : (s.takeCount n).f x i = s.f x i := by
  unfold State.takeCount
  split <;> rfl

theorem State.takeCount_msixCount (s : State) {n : Nat} (h : n ≠ 0) :
    ((s.takeCount n).fn n).msixCount = max 1 (s.f F.pciCtlMsixVf_COUNT n) := by
  rw [State.takeCount, if_neg (by simpa using h), State.fn_setFn_self]

theorem State.fn_takeCount_ne (s : State) {n k : Nat} (h : k ≠ n) : (s.takeCount n).fn k = s.fn k := by
  unfold State.takeCount
  split
  · rfl
  · exact State.fn_setFn_ne _ _ h

/-- Every virtual function takes its vector count once (12 R435): a count taken stays, one to be taken comes. -/
theorem State.foldl_takeCount_msixCount {n : Nat} (hn : n ≠ 0) (l : List Nat) (s : State)
    (h : n ∈ l ∨ (s.fn n).msixCount = max 1 (s.f F.pciCtlMsixVf_COUNT n)) :
    ((l.foldl State.takeCount s).fn n).msixCount = max 1 (s.f F.pciCtlMsixVf_COUNT n) := by
  induction l generalizing s with
  | nil => exact h.resolve_left List.not_mem_nil
  | cons k l ih =>
    rw [List.foldl_cons, ih _ ?_, State.takeCount_f]
    rw [State.takeCount_f]
    by_cases hk : n = k
    · subst hk
      exact .inr (s.takeCount_msixCount hn)
    · rw [s.fn_takeCount_ne hk]
      exact h.imp_left fun hm => (List.mem_cons.1 hm).resolve_left hk

theorem State.foldl_takeCount_vfEnable (l : List Nat) (s : State) :
    (l.foldl State.takeCount s).host.vfEnable = s.host.vfEnable :=
  List.foldlRecOn (motive := fun t : State => t.host.vfEnable = s.host.vfEnable) _ _ rfl fun t ht n _ =>
    (t.takeCount_vfEnable n).trans ht

/-! ### The link (12 R413, R414) -/

theorem linkOk_of {lanes rate : Nat} (hl : lanes ∈ [1, 2, 4, 8]) (hr : rate ∈ [25, 50, 80, 160, 320]) :
    linkOk lanes rate = true :=
  Bool.and_eq_true_iff.2 ⟨List.contains_iff_mem.2 hl, List.contains_iff_mem.2 hr⟩

/-- Where no context has a host request open, the loss of the link changes the endpoint alone. -/
theorem State.dropLink_of_noneOpen {s : State} (hu : s.host.linkUp = true) (h : s.hostOpen = fun _ => false) :
    s.dropLink = { s with host := { s.host with linkUp := false, lanes := 0, rate := 0, ide := [] } } := by
  have none_fails : s.ringKeys.filter s.hostOpen = [] := by simp [h]
  simp [State.dropLink, hu, none_fails]

/-! ### IDE (12 R441) -/

@[simp] theorem State.ideStream_setIde (s : State) (x : IdeStream) : (s.setIde x).ideStream x.stream = some x := by
  simp [State.ideStream, State.setIde]

/-- A stream whose integrity fails. -/
def IdeStream.failed (n : Nat) (x : IdeStream) : IdeStream := if x.stream == n then { x with secure := false } else x

/-- A stream that has failed is not Secure under its number. -/
theorem IdeStream.failed_not_secure (n : Nat) (x : IdeStream) :
    ((x.failed n).stream == n && (x.failed n).secure) = false := by
  unfold IdeStream.failed
  split
  · exact Bool.and_false _
  · next h => rw [Bool.eq_false_iff.2 h, Bool.false_and]

/-! ### Invalidations (12 R440) -/

theorem xlatInv_free : ∀ x ∈ Reg.xlatInv.info.fields, x.acc ≠ .rwd := by decide

section Inval
variable {s : State} {v : W32} (hv : bitsOf v 30 1 = 1)
include hv

theorem State.b_writeXlatInv_BUSY (hb : s.b F.xlatInvStatus_BUSY 0 = false) :
    (s.writeXlatInv v).b F.xlatInvStatus_BUSY 0 = true := by
  simp only [State.writeXlatInv, hv, hb]
  exact State.b_setF_one _ _ (by decide) rfl

/-- A write while BUSY sets WI beside the word. -/
theorem State.writeXlatInv_busy (hb : s.b F.xlatInvStatus_BUSY 0 = true) :
    s.writeXlatInv v = (s.code .xlatInv 0 v).setF F.xlatInvStatus_WI 0 1 := by
  have flag (t : State) : t.ignored .xlatInv 0 = t.setF F.xlatInvStatus_WI 0 1 := rfl
  simp [State.writeXlatInv, hv, hb, flag]

end Inval

/-! ### The rows of an endpoint that answers -/

section Endpoint
variable {s : State} (hu : s.hostUp = true)
include hu

theorem completes_pfFlr : ∃ t, Completes Instr.pfFlr s t ∧ t.host.vfEnable = false ∧ t.host.ide = [] :=
  ⟨_, completes_of_effect hu rfl rfl rfl, s.resetPf_vfEnable, rfl⟩

theorem completes_vfEnableSet (hv : s.host.vfEnable = false) (hr : s.boot.recovery = false) :
    ∃ t, Completes Instr.vfEnableSet s t ∧ t.host.vfEnable = true ∧
      (t.fn 1).msixCount = max 1 (s.f F.pciCtlMsixVf_COUNT 1) := by
  have may : (s.hostUp && !s.host.vfEnable && !s.boot.recovery) = true := by rw [hu, hv, hr]; rfl
  refine ⟨_, completes_of_effect may rfl rfl rfl, ?_, ?_⟩
  · rw [State.pins_host, State.foldl_takeCount_vfEnable]
  · rw [State.pins_fn, State.foldl_takeCount_msixCount one_ne_zero _ _ (.inl (by decide))]
    rfl

theorem completes_vfEnableClear (hv : s.host.vfEnable = true) :
    ∃ t, Completes Instr.vfEnableClear s t ∧ t.host.vfEnable = false :=
  ⟨_, completes_of_effect (Bool.and_eq_true_iff.2 ⟨hu, hv⟩) rfl rfl rfl, rfl⟩

theorem completes_vfFlr (hv : s.host.vfEnable = true) {n : Nat} (h0 : 0 < n) (hn : n < 64) :
    Completes (.vfFlr n) s (s.resetVf n).pins :=
  completes_of_effect (by simp [hu, hv, Nat.ne_of_gt h0]) (decide_eq_true hn) rfl rfl

theorem completes_doeDiscovery {fn : Nat} (hf : fn < 64) :
    Completes (.doeDiscovery fn) s (s.emit (.doe fn (Config.doeDiscovery fn))).pins :=
  reply_eq (decide_eq_true hf) hu

theorem completes_doeAbort {fn : Nat} (hf : fn < 64) :
    ∃ t, Completes (.doeAbort fn) s t ∧ (t.fn fn).doeError = false := by
  refine ⟨_, completes_of_effect hu (decide_eq_true hf) rfl rfl, ?_⟩
  rw [State.pins_fn, State.fn_setFn_self]

/-- Keys are programmed into a stream that is then not Secure; one that has keys is taken into use (12 R441). -/
theorem completes_ideKm {m : IdeMsg} (hs : s.sec.sessions.contains (.doe 0) = true) (hm : m.stream < 5) :
    (m.activate = false → ∃ t, Completes (.ideKm m) s t ∧ t.ideStream m.stream = some ⟨m.stream, m.key, false⟩) ∧
    (m.activate = true → ∀ x, s.ideStream m.stream = some x →
      ∃ t, Completes (.ideKm m) s t ∧ t.ideStream m.stream = some { x with secure := true }) := by
  refine ⟨fun ha => ?keyed, fun ha x hx => ?activated⟩
  case keyed =>
    have keys : s.doIdeKm m = s.setIde ⟨m.stream, m.key, false⟩ := by simp [State.doIdeKm, ha]
    exact ⟨_, completes_of_effect (by rw [hu, hs, ha, decide_eq_true hm]; rfl) rfl rfl keys, s.ideStream_setIde _⟩
  case activated =>
    have uses : s.doIdeKm m = s.setIde { x with secure := true } := by simp [State.doIdeKm, ha, hx]
    have number : x.stream = m.stream := by simpa using List.find?_some hx
    refine ⟨_, completes_of_effect (by rw [hu, hs, hx, decide_eq_true hm]; simp) rfl rfl uses, ?_⟩
    rw [← number]
    exact s.ideStream_setIde _

end Endpoint

/-- Settles O54: the link's rows change the endpoint's own state, those of functions and streams what they name, and BUSY
of an invalidation is set by its write and cleared by its end. -/
theorem linkAndFunctions : Obligations.LinkAndFunctions := by
  intro s
  refine ⟨fun lanes rate ht hl hr => ?up, fun hu => ?down, fun hu => ?endpoint, fun n hw hs => ?integrity,
    fun v hv => ⟨fun hb => ?invalidates, fun hb => ?busy⟩, fun hb hh => ?invalidated⟩
  case up => exact reply_eq rfl (Bool.and_eq_true_iff.2 ⟨ht, linkOk_of hl hr⟩)
  case down =>
    refine ⟨completes_of_effect hu rfl rfl rfl, fun hn => ?_⟩
    rw [State.dropLink_of_noneOpen hu hn]
    exact ⟨rfl, rfl⟩
  case endpoint =>
    exact ⟨completes_pfFlr hu, completes_vfEnableSet hu,
      fun hv => ⟨completes_vfEnableClear hu hv, fun n => completes_vfFlr hu hv⟩,
      fun fn hf => ⟨completes_doeDiscovery hu hf, completes_doeAbort hu hf⟩, fun m _ => completes_ideKm hu⟩
  case integrity =>
    have fails : (s.host.ide.map (IdeStream.failed n)).any (fun x => x.stream == n && x.secure) = false := by
      rw [List.any_map]
      exact List.any_eq_false.2 fun x _ => by simp [IdeStream.failed_not_secure]
    exact ⟨_, completes_of_effect hs hw rfl rfl, fails, rfl⟩
  case invalidates => exact ⟨_, completes_of_effect (beq_iff_eq.2 hv) rfl rfl rfl,
      (State.pins_b _ _ _).trans (State.b_writeXlatInv_BUSY hv hb)⟩
  case busy =>
    refine ⟨_, completes_of_effect (beq_iff_eq.2 hv) rfl rfl (State.writeXlatInv_busy hv hb), ?_, ?_⟩
    · rw [State.pins_b, State.b_setF_one _ _ (by decide) rfl]
    · rw [State.pins_tun, State.setF_tun, State.code_of_free xlatInv_free, State.rset_tun]
  case invalidated =>
    refine ⟨_, completes_of_effect (by simp [hb, hh]) rfl rfl rfl, ?_, ?_⟩
    · rw [State.pins_b, State.b_setF_field _ _ _ (by decide) (by decide) (by decide),
        State.b_setF_self _ _ _ _ (by decide)]
      rfl
    · rw [State.pins_b, State.b_setF_one _ _ (by decide) rfl]

end Sys2Proof.Machine
end

section
/-!
PROOF. The machine as a whole (17 R568, R572, R574, R578; log entries 1, 2 and 11): the command that a step runs, what its
answer shows on the pins, where the model stops, and the state after reset.
-/
namespace Sys2Proof.Machine

/-! ### What a step runs -/

theorem step_of_empty {s : State} (h : s.pending = []) : step s = .next s := by
  rw [step, h]

theorem step_of_front {c : Instr} {rest : List Instr} {s : State} (h : s.pending = c :: rest) :
    step s = exec c { s with pending := rest } := by
  rw [step, h]

/-- Settles O1: a step looks at the queue alone. -/
theorem stepRunsFrontCommand : Obligations.StepRunsFrontCommand :=
  ⟨fun _ _ _ => step_of_front, fun _ => step_of_empty⟩

/-! ### The pins after a step (17 R572, R574) -/

/-- A command that completes answers with a state that shows its pins. -/
theorem completes_eq_pins {c : Instr} {s t : State} (h : Completes c s t) : ∃ u : State, t = u.pins := by
  rcases exec_cases c s with ⟨pre, u, hr⟩ | ⟨mv, -, -, hf⟩ | ⟨mv, -, -, hf⟩
  · rcases reply_next.1 (hr.symm.trans h) with ⟨-, -, rfl⟩ | ⟨-, rfl⟩
    · exact ⟨u, rfl⟩
    · exact ⟨s, rfl⟩
  · cases hf.symm.trans h
  · cases hf.symm.trans h

/-- Settles O3: an idle step answers the state before, any other step a state that has just taken its pins. -/
theorem stepKeepsPins : Obligations.StepKeepsPins := by
  intro s t hs ht
  cases hq : s.pending with
  | nil =>
    obtain rfl : s = t := by rw [step_of_empty hq] at ht; injection ht
    exact hs
  | cons c rest =>
    obtain ⟨u, rfl⟩ := completes_eq_pins ((step_of_front hq).symm.trans ht)
    exact u.pins_agree

/-! ### Where the model stops (17 R568) -/

theorem exec_vinAuxOn_beyond {mv : Nat} (h : 3900 < mv) (s : State) :
    exec (.vinAuxOn mv) s = .fault (.absoluteMaximum mv) := if_pos h

theorem exec_vinMainOn_beyond {mv : Nat} (h : 14000 < mv) (s : State) :
    exec (.vinMainOn mv) s = .fault (.absoluteMaximum mv) := if_pos h

/-- An answer as `reply` gives it is a next state. -/
theorem Instr.Replies.completes {c : Instr} {s : State} (h : Instr.Replies c s) : ∃ t, Completes c s t := by
  obtain ⟨pre, u, hr⟩ := h
  exact ⟨_, hr⟩

theorem Instr.Replies.ne_fault {c : Instr} {s : State} (h : Instr.Replies c s) (r : Fault) : exec c s ≠ .fault r := by
  obtain ⟨t, ht⟩ := h.completes
  simp [ht]

/-- Settles O5: every command answers as `reply` does, but for a supply beyond its absolute maximum. -/
theorem onlyOverSupplyFaults : Obligations.OnlyOverSupplyFaults := by
  refine ⟨fun c s r => ⟨fun h => ?stops, ?beyond⟩, fun c s r h => ?refused, fun c s haux hmain => ?completes⟩
  case stops =>
    rcases exec_cases c s with hr | ⟨mv, hmv, hc, hf⟩ | ⟨mv, hmv, hc, hf⟩
    · exact absurd h (hr.ne_fault r)
    · cases hf.symm.trans h
      exact .inl ⟨mv, hmv, hc, rfl⟩
    · cases hf.symm.trans h
      exact .inr ⟨mv, hmv, hc, rfl⟩
  case beyond =>
    rintro (⟨mv, hmv, rfl, rfl⟩ | ⟨mv, hmv, rfl, rfl⟩)
    · exact exec_vinAuxOn_beyond hmv s
    · exact exec_vinMainOn_beyond hmv s
  case refused =>
    rcases exec_cases c s with hr | ⟨mv, -, -, hf⟩ | ⟨mv, -, -, hf⟩
    · obtain ⟨t, ht⟩ := hr.completes
      cases ht.symm.trans h
    · cases hf.symm.trans h
    · cases hf.symm.trans h
  case completes =>
    rcases exec_cases c s with hr | ⟨mv, hmv, hc, -⟩ | ⟨mv, hmv, hc, -⟩
    · exact hr.completes
    · exact absurd hc (haux mv hmv)
    · exact absurd hc (hmain mv hmv)

/-! ### Commands whose operands name nothing (log entry 11) -/

theorem State.PinsAgree.pins_eq {s : State} (h : s.PinsAgree) : s.pins = s := by
  obtain ⟨hfault, halert⟩ := h
  rw [State.pins, ← hfault, ← halert]

/-- Settles O4: the two rows that can stop take every voltage as an operand, and any other answers as `reply` does. -/
theorem illFormedChangesNothing : Obligations.IllFormedChangesNothing := by
  refine fun c s hw => ⟨?_, State.PinsAgree.pins_eq⟩
  rcases exec_cases c s with ⟨pre, u, hr⟩ | ⟨mv, -, rfl, -⟩ | ⟨mv, -, rfl, -⟩
  · exact hr.trans (reply_skip (by rw [hw, Bool.false_and]))
  · exact absurd hw Bool.noConfusion
  · exact absurd hw Bool.noConfusion

/-! ### Reset (16 R548, 17 R578) -/

theorem State.reset_memoriesWf : State.reset.MemoriesWf := ⟨Memory.wf_nil, Memory.wf_nil, Memory.wf_nil⟩

/-- No claimant of a pin stands at reset. -/
theorem State.reset_pinsAgree : State.reset.PinsAgree := ⟨by decide, by decide⟩

/-- Settles O2: at reset every map is empty, so each reading is its default. -/
theorem resetState : Obligations.ResetState :=
  ⟨rfl, rfl, fun _ _ => SMap.get_nil _ _, fun core slot => SMap.find_nil (Issuer.group core slot).key,
    fun _ => SMap.get_nil _ _, fun a => ⟨Memory.read_nil a, Memory.read_nil a, Memory.read_nil a⟩, State.reset_memoriesWf, State.reset_pinsAgree⟩

end Sys2Proof.Machine
end

section
/-!
PROOF. The SPDM responder (13 R462, R463, R466, R467): answers by the standard, requests that only a session carries, and
requests that are signed with the next index.
-/
namespace Sys2Proof.Machine

section Responder
variable {s : State} {via : SpdmPath} {body : List Byte}

/-! ### Sessions -/

theorem State.inSession_inside (h : s.sec.sessions.contains via = true) (act : State → State) :
    s.inSession via act = act s := if_pos h

theorem State.inSession_outside (h : s.sec.sessions.contains via = false) (act : State → State) :
    s.inSession via act = s.spdmError via 4 := if_neg (Bool.not_eq_true _ ▸ h)

theorem State.contains_openSession (s : State) (via : SpdmPath) :
    (s.openSession via).sec.sessions.contains via = true := by
  simp [State.openSession]

/-- A row that only a session carries: inside one its effect, outside an error. -/
theorem completes_inSession {c : Instr} {act : State → State} (hr : s.spdmReach via = true) (hw : c.wf = true)
    (hc : exec c s = command c (s.spdmReach via) s (s.inSession via act)) :
    (s.sec.sessions.contains via = true → Completes c s (act s).pins) ∧
      (s.sec.sessions.contains via = false → Completes c s (s.spdmError via 4).pins) :=
  ⟨fun h => completes_of_effect hr hw hc (State.inSession_inside h act),
    fun h => completes_of_effect hr hw hc (State.inSession_outside h act)⟩

/-! ### Signatures -/

/-- What the signer uses is the next index, which it uses up (13 R462). -/
theorem State.sign_index {i : Nat} {u : State} (h : s.sign = .at i u) :
    u.sec.idxNext = s.sec.idxNext + 1 ∧ i = s.sec.idxNext := by
  unfold State.sign at h
  split at h
  · cases h
  · split at h
    · cases h
    · split at h
      · cases h
      · obtain ⟨rfl, rfl⟩ := Signed.at.inj h
        exact ⟨by rw [State.bump_sec], rfl⟩

theorem State.signs_of_at {i : Nat} {u : State} (h : s.sign = .at i u) : s.signs = true := by
  rw [State.signs, h]

theorem State.spdmSigned_of_at {i : Nat} {u : State} (h : s.sign = .at i u) (rsp : Nat) (d : List Byte)
    (act : State → State) : s.spdmSigned via rsp d act = act (u.spdmSend via rsp (d ++ Config.xmssSign i d)) := by
  rw [State.spdmSigned, h]

/-- A data object of at most 64 KiB is taken (12 R442). -/
theorem State.spdmTake_of_small (hb : body.length ≤ 65524) (act : State → State) : s.spdmTake via body act = act s := by
  cases via with
  | doe fn => exact if_neg (by omega)
  | fabric node => rfl

theorem State.doGetMeasurements_unsigned (hb : body.length ≤ 65524) (index : Nat) :
    s.doGetMeasurements via index false body =
      s.spdmSend via 0x60 (Config.spdmBody 0xE0 (leBytes 1 index ++ body ++ s.measurements via index)) := by
  rw [State.doGetMeasurements, State.spdmTake_of_small hb, if_neg Bool.false_ne_true]

end Responder

/-- Settles O55: each request is the responder's function of it, by the session, the chain and the index it asks for. -/
theorem spdmRequests : Obligations.SpdmRequests := by
  intro s via body hr
  refine ⟨fun c req rsp hm hw => ?standard, fun c req rsp hm hw => ?session, fun hw hs => ?ends,
    fun slot ofs len hw => ⟨?firstChain, fun h0 => ?otherChain⟩,
    fun hb i u hu => ⟨fun hw => ?challenge, fun hw => ?exchange, State.sign_index hu⟩, fun index hw hb => ?measurements⟩
  case standard =>
    simp only [List.mem_cons, List.not_mem_nil, or_false, Prod.mk.injEq] at hm
    rcases hm with ⟨rfl, rfl, rfl⟩ | ⟨rfl, rfl, rfl⟩ | ⟨rfl, rfl, rfl⟩ | ⟨rfl, rfl, rfl⟩ | ⟨rfl, rfl, rfl⟩ |
      ⟨rfl, rfl, rfl⟩ <;> exact command_eq hw hr
  case session =>
    simp only [List.mem_cons, List.not_mem_nil, or_false, Prod.mk.injEq] at hm
    rcases hm with ⟨rfl, rfl, rfl⟩ | ⟨rfl, rfl, rfl⟩ | ⟨rfl, rfl, rfl⟩ <;> exact completes_inSession hr hw rfl
  case ends =>
    refine ⟨_, (completes_inSession hr hw rfl).1 hs, ?_⟩
    simp
  case firstChain =>
    rintro rfl
    exact command_eq hw hr
  case otherChain => exact completes_of_effect hr hw rfl (if_neg (by simpa using h0))
  case challenge =>
    refine completes_of_effect (Bool.and_eq_true_iff.2 ⟨hr, State.signs_of_at hu⟩) hw rfl ?_
    rw [State.spdmTake_of_small hb, State.spdmSigned_of_at hu, id]
  case exchange =>
    refine ⟨_, completes_of_effect (Bool.and_eq_true_iff.2 ⟨hr, State.signs_of_at hu⟩) hw rfl
      ((State.spdmTake_of_small hb _).trans (State.spdmSigned_of_at hu _ _ _)), ?_⟩
    exact State.contains_openSession _ via
  case measurements =>
    exact completes_of_effect (Bool.and_eq_true_iff.2 ⟨hr, rfl⟩) hw rfl (State.doGetMeasurements_unsigned hb index)

end Sys2Proof.Machine
end

section
/-!
PROOF. The Keg (13 R446 to R448): a counter's two slots, what each command makes of the counters, and the response that is
taken or rejected.
-/
namespace Sys2Proof.Machine

/-! ### A counter (13 R447, R448) -/

/-- A larger value written to a counter is the value it has then. -/
theorem KegSlot.value_write {k : KegSlot} {x : Nat} {v : W64} (hx : k.value = some x) (hv : x < v.toNat) :
    (k.write v).value = some v.toNat := by
  obtain ⟨a, aOk, b, bOk⟩ := k
  cases aOk <;> cases bOk <;> simp [KegSlot.value] at hx
  case false.true => simp [KegSlot.write, KegSlot.value]; omega
  case true.false => simp [KegSlot.write, KegSlot.value]; omega
  case true.true =>
    by_cases hab : a.toNat ≤ b.toNat <;> simp [KegSlot.write, KegSlot.value, hab] <;> omega

@[simp] theorem State.keg_setKeg_self (s : State) (n : Nat) (k : KegSlot) : (s.setKeg n k).keg n = k :=
  SMap.get_set_self _ _ _ _

theorem State.keg_setKeg_ne (s : State) {n m : Nat} (k : KegSlot) (h : m ≠ n) : (s.setKeg n k).keg m = s.keg m :=
  SMap.get_set_ne _ _ _ h

theorem State.counter_of_lt (s : State) {n : Nat} (h : n < 5) : s.counter n = (s.keg n).value :=
  if_neg (by omega)

theorem State.counter_setCounter_self {s : State} {n x v : Nat} (hn : n < 5) (hx : s.counter n = some x) (hv : x < v)
    (hw : v < 2 ^ 64) : (s.setCounter n v).counter n = some v := by
  have word : (BitVec.ofNat 64 v).toNat = v := by rw [BitVec.toNat_ofNat, Nat.mod_eq_of_lt hw]
  rw [State.counter_of_lt _ hn] at hx ⊢
  rw [State.setCounter, State.keg_setKeg_self, KegSlot.value_write hx (by rwa [word]), word]

theorem State.counter_setCounter_ne (s : State) {n m : Nat} (v : Nat) (h : m ≠ n) :
    (s.setCounter n v).counter m = s.counter m := by
  rw [State.counter, State.setCounter, State.keg_setKeg_ne _ _ h, State.counter]

/-! ### The commands (13 R446) -/

section Commands
variable {s : State} {n x y : Nat}

theorem State.kegRun_read (hx : s.counter n = some x) : s.kegRun (.read n) = (.value (BitVec.ofNat 64 x), s) := by
  rw [State.kegRun, hx]

theorem State.kegRun_advance_raises (hn : n < 5) (hx : s.counter n = some x) {v : W64} (hv : x < v.toNat) :
    s.kegRun (.advance n v) = (.value v, s.setCounter n v.toNat) := by
  rw [State.kegRun, hx]
  dsimp only
  rw [if_neg (by omega), if_pos hv]

theorem State.kegRun_advance_keeps (hn : n < 5) (hx : s.counter n = some x) {v : W64} (hv : v.toNat ≤ x) :
    s.kegRun (.advance n v) = (.value (BitVec.ofNat 64 x), s) := by
  rw [State.kegRun, hx]
  dsimp only
  rw [if_neg (by omega), if_neg (by omega)]

/-- A counter never falls (13 R446). -/
theorem State.counter_kegRun_advance (hn : n < 5) (hx : s.counter n = some x) (v : W64) :
    (s.kegRun (.advance n v)).2.counter n = some (max x v.toNat) := by
  rcases lt_or_ge x v.toNat with hv | hv
  · rw [State.kegRun_advance_raises hn hx hv, State.counter_setCounter_self hn hx hv v.isLt, Nat.max_eq_right hv.le]
  · rw [State.kegRun_advance_keeps hn hx hv, hx, Nat.max_eq_left hv]

theorem State.kegRun_reserve (hx : s.counter 2 = some x) (h : x ≤ 2 ^ 40 - 1024) :
    s.kegRun .reserve =
      (.value (BitVec.ofNat 64 x), (s.setCounter 2 (x + 1024)).setCounter 4 ((s.counter 4).getD 0 + 1)) := by
  rw [State.kegRun, hx]
  exact if_pos h

theorem State.kegRun_exhausted (hx : s.counter 2 = some x) (h : 2 ^ 40 - 1024 < x) :
    s.kegRun .reserve = (.exhausted, s) := by
  rw [State.kegRun, hx]
  exact if_neg (by omega)

/-- RESERVE moves counter 2 past its block and counts in counter 4. -/
theorem State.counters_kegRun_reserve (hx : s.counter 2 = some x) (hy : s.counter 4 = some y) (h : x ≤ 2 ^ 40 - 1024)
    (hy' : y < 2 ^ 64 - 1) :
    (s.kegRun .reserve).2.counter 2 = some (x + 1024) ∧ (s.kegRun .reserve).2.counter 4 = some (y + 1) := by
  rw [State.kegRun_reserve hx h, hy, Option.getD_some]
  refine ⟨?_, State.counter_setCounter_self (by decide) ?_ (Nat.lt_succ_self y) (by omega)⟩
  · rw [State.counter_setCounter_ne _ _ (by decide),
      State.counter_setCounter_self (by decide) hx (by omega) (by omega)]
  · rw [State.counter_setCounter_ne _ _ (by decide), hy]

theorem State.kegRun_seed_again (h : s.sec.seedServed = true) : s.kegRun .seed = (.refused, s) := by
  rw [State.kegRun]
  exact if_pos h

theorem State.kegRun_seed_first (h : s.sec.seedServed = false) :
    s.kegRun .seed =
      (.seedWrapped, { s with sec := { s.sec with seedServed := true } }.setF F.kegStatus_SEEDED 0 1) := by
  rw [State.kegRun]
  exact if_neg (by simp [h])

end Commands

/-- No command of the Keg sends anything by itself. -/
theorem State.kegRun_out (s : State) (c : KegCmd) : (s.kegRun c).2.out = s.out := by
  cases c with
  | read n => rw [State.kegRun]; split <;> rfl
  | advance n v =>
    rw [State.kegRun]
    split
    · rfl
    · split
      · rfl
      · split <;> rfl
  | reserve =>
    rw [State.kegRun]
    split
    · rfl
    · split <;> rfl
  | seed => rw [State.kegRun]; split <;> rfl

/-! ### The response (13 R446) -/

section Response
variable {s : State} {r : KegReply} {c : KegCmd} {nonce : BitVec 128} (hb : s.sec.kegBusy = some (c, nonce))
include hb

theorem State.doKegResponse_taken (hn : r.nonce = nonce) (hc : r.cmd = c) (hm : r.mac = kegMac nonce c r.result) :
    s.doKegResponse r = s.kegTake c r.result := by
  rw [State.doKegResponse, hb]
  exact if_pos (by simp [hn, hc, hm])

theorem State.doKegResponse_rejected (h : r.nonce ≠ nonce ∨ r.cmd ≠ c ∨ r.mac ≠ kegMac nonce c r.result) :
    s.doKegResponse r = s := by
  rw [State.doKegResponse, hb]
  refine if_neg ?_
  simp only [Bool.and_eq_true, beq_iff_eq]
  tauto

end Response

/-- A state that does not change raises no service request. -/
theorem State.service_self (s : State) : State.service s s = s := by
  unfold State.service
  cases s.svcRequest <;> rfl

/-- Settles O56: the commands that go out, what each makes of the counters, and the response that is taken or rejected. -/
theorem kegCommands : Obligations.KegCommands := by
  refine ⟨fun s nonce hf => ⟨fun n hw => command_eq hw hf, fun n v hw => command_eq hw hf, command_eq rfl hf,
      command_eq rfl hf⟩,
    fun s c nonce => ⟨rfl, congrArg (List.cons _) (s.kegRun_out c)⟩, fun s n x v hn hx => ⟨?read, ?advance⟩,
    fun s x y hx hy hy' => ⟨fun h => ⟨?block, State.counters_kegRun_reserve hx hy h hy'⟩, fun h => ?exhausted⟩,
    fun s => ⟨fun h => ?again, fun h => ?first⟩,
    fun s r c nonce hw hb => ⟨fun hn hc hm => ?taken, fun h => ?rejected⟩⟩
  case read => rw [State.kegRun_read hx]
  case advance => exact State.counter_kegRun_advance hn hx v
  case block => rw [State.kegRun_reserve hx h]
  case exhausted => exact Prod.ext_iff.1 (State.kegRun_exhausted hx h)
  case again => exact Prod.ext_iff.1 (State.kegRun_seed_again h)
  case first =>
    rw [State.kegRun_seed_first h]
    exact ⟨rfl, rfl⟩
  case taken =>
    exact completes_of_effect (Option.isSome_of_eq_some hb) hw rfl
      (congrArg (State.service s) (State.doKegResponse_taken hb hn hc hm))
  case rejected =>
    refine completes_of_effect (Option.isSome_of_eq_some hb) hw rfl ?_
    rw [State.doKegResponse_rejected hb h, State.service_self]

end Sys2Proof.Machine
end

section
/-!
PROOF. Commits, transfers of records and images, circle keys and debug access (13 R453, R460, R464, R465, R470, R471): what
each write leaves BUSY, and what its end leaves.
-/
namespace Sys2Proof.Machine

/-! ### A write by the access codes leaves the rest of the state alone -/

/-- A write by the access codes changes registers alone. -/
theorem State.code_keeps {α : Sort _} (p : State → α) (hp : ∀ (s : State) r i v, p (s.rset r i v) = p s) (s : State)
    (r : Reg) (i : Nat) (v : W32) : p (s.code r i v) = p s := by
  have ignored (t : State) : p (t.ignored r i) = p t := by
    unfold State.ignored
    split
    · split
      · rfl
      · exact hp _ _ _ _
    · rfl
  unfold State.code
  dsimp only
  split
  · exact (ignored _).trans (hp _ _ _ _)
  · exact hp _ _ _ _

@[simp] theorem State.code_sec (s : State) (r : Reg) (i : Nat) (v : W32) : (s.code r i v).sec = s.sec :=
  s.code_keeps State.sec (fun _ _ _ _ => rfl) r i v

/-- A field of another word. -/
theorem State.b_setF_ne (s : State) {x y : Fld} {i j : Nat} (v : Nat) (hi : i < 2 ^ 24) (hj : j < 2 ^ 24)
    (h : y.reg ≠ x.reg ∨ j ≠ i) : (s.setF x i v).b y j = s.b y j := by
  rw [State.b, State.f_setF_ne s v hi hj h, State.b]

/-! ### Commits (13 R453, R464) -/

section Commit
variable {s : State} {v : W32}

/-- SEC_CTL_COMMIT is written, and an operation of the Keg begins. -/
def State.startCommit (s : State) (v : W32) (epoch : Bool) : State :=
  { s.code .secCommit 0 v with sec := { s.sec with committing := some epoch, commitNext := 0 } }.setF F.secCommit_BUSY 0 1

theorem State.b_startCommit_BUSY (epoch : Bool) : (s.startCommit v epoch).b F.secCommit_BUSY 0 = true :=
  State.b_setF_one _ _ (by decide) rfl

/-- GO starts a firmware commit; EPOCH beside it is ignored, with the flag set. -/
theorem State.writeCommit_go (hg : bitsOf v 0 1 = 1) (hb : s.b F.secCommit_BUSY 0 = false) :
    s.writeCommit v = s.startCommit v false ∨
      s.writeCommit v = (s.startCommit v false).setF F.secFlags_WRITE_IGNORED 0 1 := by
  have flag (t : State) : t.ignored .secCommit 0 = t.setF F.secFlags_WRITE_IGNORED 0 1 := rfl
  by_cases he : bitsOf v 1 1 = 1
  · exact .inr (by simp [State.writeCommit, State.startCommit, hg, hb, he, flag])
  · exact .inl (by simp [State.writeCommit, State.startCommit, hg, hb, he])

theorem State.writeCommit_epoch (hg : bitsOf v 0 1 = 0) (he : bitsOf v 1 1 = 1) (hb : s.b F.secCommit_BUSY 0 = false) :
    s.writeCommit v = s.startCommit v true := by
  simp [State.writeCommit, State.startCommit, hg, hb, he]

theorem completes_firmwareCommit (hg : bitsOf v 0 1 = 1) (hb : s.b F.secCommit_BUSY 0 = false) :
    ∃ t, Completes (.firmwareCommit v) s t ∧ t.b F.secCommit_BUSY 0 = true ∧ t.sec.committing = some false := by
  rcases State.writeCommit_go hg hb with h | h
  · exact ⟨_, completes_of_effect (beq_iff_eq.2 hg) rfl rfl h,
      (State.pins_b _ _ _).trans (State.b_startCommit_BUSY false), rfl⟩
  · refine ⟨_, completes_of_effect (beq_iff_eq.2 hg) rfl rfl h, ?_, rfl⟩
    rw [State.pins_b, State.b_setF_ne _ _ (by decide) (by decide) (.inl (by decide)), State.b_startCommit_BUSY]

theorem completes_epochAdvance (h : bitsOf v 0 2 = 2) (hb : s.b F.secCommit_BUSY 0 = false) :
    ∃ t, Completes (.epochAdvance v) s t ∧ t.b F.secCommit_BUSY 0 = true ∧ t.sec.committing = some true := by
  obtain ⟨hg, he⟩ : bitsOf v 0 1 = 0 ∧ bitsOf v 1 1 = 1 := by
    simp only [bitsOf] at h ⊢
    omega
  exact ⟨_, completes_of_effect (beq_iff_eq.2 h) rfl rfl (State.writeCommit_epoch hg he hb),
    (State.pins_b _ _ _).trans (State.b_startCommit_BUSY true), rfl⟩

end Commit

/-! ### Transfers (13 R454, R460) -/

section Transfer
variable {s : State} {v : W32}

theorem State.writeRecCtrl_starts (h1 : bitsOf v 0 1 = 1) (h0 : bitsOf v 1 1 = 0)
    (hb : s.b F.secRecCtrl_BUSY 0 = false) (ht : bitsOf v 4 2 < 2) (hr : s.inRecovery = false ∨ bitsOf v 4 2 = 0) :
    s.writeRecCtrl v =
      { s.code .secRecCtrl 0 v with sec := { s.sec with recWords := [], recActive := true } }.setF F.secRecCtrl_BUSY 0 1 := by
  have allowed : (s.inRecovery && bitsOf v 4 2 != 0) = false := by
    rcases hr with hr | hr <;> simp [hr]
  simp [State.writeRecCtrl, h1, h0, hb, allowed, Nat.not_le.2 ht]

theorem completes_recordStart (h : bitsOf v 0 2 = 1) (hb : s.b F.secRecCtrl_BUSY 0 = false) (ht : bitsOf v 4 2 < 2)
    (hr : s.inRecovery = false ∨ bitsOf v 4 2 = 0) :
    ∃ t, Completes (.recordStart v) s t ∧ t.b F.secRecCtrl_BUSY 0 = true ∧ t.sec.recWords = [] ∧
      t.sec.recActive = true := by
  obtain ⟨h1, h0⟩ : bitsOf v 0 1 = 1 ∧ bitsOf v 1 1 = 0 := by
    simp only [bitsOf] at h ⊢
    omega
  exact ⟨_, completes_of_effect (beq_iff_eq.2 h1) rfl rfl (State.writeRecCtrl_starts h1 h0 hb ht hr),
    (State.pins_b _ _ _).trans (State.b_setF_one _ _ (by decide) rfl), rfl, rfl⟩

/-- DONE ends the transfer that runs, whatever becomes of TARGET. -/
theorem State.writeRecCtrl_ends (h0 : bitsOf v 0 1 = 0) (h1 : bitsOf v 1 1 = 1) (ha : s.sec.recActive = true) :
    (s.writeRecCtrl v).sec = { s.sec with recActive := false, recJudging := true } := by
  by_cases hb : s.b F.secRecCtrl_BUSY 0 = true <;> simp [State.writeRecCtrl, h0, h1, ha, hb]

theorem completes_recordDone (h : bitsOf v 0 2 = 2) (ha : s.sec.recActive = true) :
    ∃ t, Completes (.recordDone v) s t ∧ t.sec.recActive = false ∧ t.sec.recJudging = true := by
  obtain ⟨h0, h1⟩ : bitsOf v 0 1 = 0 ∧ bitsOf v 1 1 = 1 := by
    simp only [bitsOf] at h ⊢
    omega
  refine ⟨_, completes_of_effect (beq_iff_eq.2 h) rfl rfl rfl, ?_⟩
  rw [State.pins_sec, State.writeRecCtrl_ends h0 h1 ha]
  exact ⟨rfl, rfl⟩

theorem completes_recordData : ∃ t, Completes (.recordData v) s t ∧
    t.sec.recWords = if s.sec.recActive then v :: s.sec.recWords else s.sec.recWords := by
  refine ⟨_, completes_of_effect (c := .recordData v) rfl rfl rfl rfl, ?_⟩
  rw [State.pins_sec, State.writeRecData]
  split <;> rfl

theorem completes_recordProgramComplete (hj : s.sec.recJudging = true) :
    ∃ t, Completes Instr.recordProgramComplete s t ∧ t.sec.recJudging = false ∧ t.b F.secRecCtrl_BUSY 0 = false :=
  ⟨_, completes_of_effect hj rfl rfl rfl, rfl,
    (State.pins_b _ _ _).trans (State.b_setF_self _ _ _ _ (by decide))⟩

end Transfer

/-! ### Debug access (13 R465) -/

theorem State.clearCircles_sec (s : State) : s.clearCircles.sec = { s.sec with circles := [] } :=
  List.foldlRecOn (motive := fun t : State => t.sec = { s.sec with circles := [] }) _ _ rfl fun _ ht _ _ => ht

theorem completes_debugAccess (s : State) :
    ∃ t, Completes Instr.debugAccess s t ∧ t.sec.circles = [] ∧ t.sec.vault = false ∧ t.b F.secStatus_DEBUG 0 = true ∧
      t.b F.secStatus_IDENTITY_ON 0 = false := by
  have cleared : s.doDebug.sec = { s.sec with vault := false, circles := [] } := State.clearCircles_sec _
  refine ⟨_, completes_of_effect (c := .debugAccess) rfl rfl rfl rfl, ?_, ?_, ?_,
    (State.pins_b _ _ _).trans (State.b_setF_self _ _ _ _ (by decide))⟩
  · rw [State.pins_sec, cleared]
  · rw [State.pins_sec, cleared]
  · rw [State.pins_b, State.doDebug, State.b_setF_field _ _ _ (by decide) (by decide) (by decide),
      State.b_setF_one _ _ (by decide) rfl]

/-! ### Circle keys (13 R470, R471) -/

theorem State.b_endKey_DONE (s : State) (part err : Nat) : (s.endKey part err).b F.keyStatus_DONE part = true := by
  rw [State.endKey, State.b_setF_field _ _ _ (by decide) (by decide) (by decide), State.b_setF_one _ _ (by decide) rfl]

theorem State.f_endKey_ERR (s : State) (part : Nat) {err : Nat} (h : err < 16) :
    (s.endKey part err).f F.keyStatus_ERR part = err := by
  rw [State.endKey, State.f_setF_self _ _ _ _ (by decide)]
  exact Nat.mod_eq_of_lt h

theorem State.endKey_sec (s : State) (part err : Nat) : (s.endKey part err).sec = s.sec := by
  rw [State.endKey, State.setF_sec, State.setF_sec, State.setF_sec]

theorem State.find_freeCircle (s : State) (part slot : Nat) :
    SMap.find (s.freeCircle part slot).sec.circles slot = none :=
  SMap.find_drop_self _ _

theorem State.dropKey_held {s : State} {part slot : Nat} {c : CircleSlot} (hc : SMap.find s.sec.circles slot = some c)
    (hp : c.part = part) : s.dropKey part slot = (s.freeCircle part slot).endKey part 0 := by
  rw [State.dropKey, hc]
  exact if_pos (beq_iff_eq.2 hp)

theorem State.dropKey_other {s : State} {part slot : Nat}
    (h : ∀ c, SMap.find s.sec.circles slot = some c → c.part ≠ part) : s.dropKey part slot = s.endKey part 7 := by
  unfold State.dropKey
  split
  · next c hc => exact if_neg (by simpa using h c hc)
  · rfl

section KeyCmd
variable {s : State} {part : Nat} {v : W32}

theorem keyCmd_free : ∀ x ∈ Reg.keyCmd.info.fields, x.acc ≠ .rwd := by decide

/-- The address of the release stands in words of its own. -/
theorem State.pair_code_keyCmd (hp : part < 64) :
    (s.code .keyCmd part v).pair .keyAddrLo .keyAddrHi part = s.pair .keyAddrLo .keyAddrHi part := by
  have hi : part < 2 ^ 24 := by omega
  rw [State.code_of_free keyCmd_free, State.pair, State.rget_rset_ne _ _ hi hi (.inl (by decide)),
    State.rget_rset_ne _ _ hi hi (.inl (by decide)), State.pair]

/-- The command is written, and the release at the address begins to load. -/
def State.startKeyLoad (s : State) (part : Nat) (v : W32) : State :=
  { s.code .keyCmd part v with sec := { s.sec with
      keyBusy := SMap.put s.sec.keyBusy part (s.pair .keyAddrLo .keyAddrHi part) } }.setF F.keyStatus_BUSY part 1

theorem State.b_startKeyLoad_BUSY : (s.startKeyLoad part v).b F.keyStatus_BUSY part = true :=
  State.b_setF_one _ _ (by decide) rfl

theorem State.find_keyBusy_startKeyLoad :
    SMap.find (s.startKeyLoad part v).sec.keyBusy part = some (s.pair .keyAddrLo .keyAddrHi part) :=
  SMap.find_put_self _ _ _

theorem State.writeKeyCmd_loads (hg : bitsOf v 6 1 = 1) (ho : bitsOf v 0 2 = 0)
    (hb : s.b F.keyStatus_BUSY part = false) (hp : part < 64) : s.writeKeyCmd part v = s.startKeyLoad part v := by
  simp [State.writeKeyCmd, State.startKeyLoad, hg, ho, hb, State.pair_code_keyCmd hp]

theorem State.writeKeyCmd_drops (hg : bitsOf v 6 1 = 1) (ho : bitsOf v 0 2 = 1)
    (hb : s.b F.keyStatus_BUSY part = false) :
    s.writeKeyCmd part v = (s.code .keyCmd part v).dropKey part (bitsOf v 2 4) := by
  simp [State.writeKeyCmd, hg, ho, hb]

theorem completes_keyLoad (hp : part < 64) (hg : bitsOf v 6 1 = 1) (ho : bitsOf v 0 2 = 0)
    (hb : s.b F.keyStatus_BUSY part = false) :
    ∃ t, Completes (.keyLoad part v) s t ∧ t.b F.keyStatus_BUSY part = true ∧
      SMap.find t.sec.keyBusy part = some (s.pair .keyAddrLo .keyAddrHi part) :=
  ⟨_, completes_of_effect (by rw [hg, ho]; rfl) (decide_eq_true hp) rfl (State.writeKeyCmd_loads hg ho hb hp),
    (State.pins_b _ _ _).trans State.b_startKeyLoad_BUSY, by rw [State.pins_sec, State.find_keyBusy_startKeyLoad]⟩

/-- A drop ends as the circle slot that it names says. -/
theorem completes_keyDrop {t : State} (hp : part < 64) (hg : bitsOf v 6 1 = 1) (ho : bitsOf v 0 2 = 1)
    (hb : s.b F.keyStatus_BUSY part = false) (ht : (s.code .keyCmd part v).dropKey part (bitsOf v 2 4) = t) :
    Completes (.keyDrop part v) s t.pins :=
  completes_of_effect (by rw [hg, ho]; rfl) (decide_eq_true hp) rfl ((State.writeKeyCmd_drops hg ho hb).trans ht)

end KeyCmd

/-- Settles O57: a start leaves BUSY and what it works on, an end clears them. -/
theorem trustRegisters : Obligations.TrustRegisters := by
  refine ⟨fun s v => ⟨completes_firmwareCommit, completes_epochAdvance, completes_recordStart, completes_recordData,
    completes_recordDone, completes_recordProgramComplete, completes_debugAccess s⟩,
    fun s part v hp => ⟨completes_keyLoad hp, fun hg ho hb => ⟨fun c hc hcp => ?held, fun h => ?other⟩, fun t ht => ?ends⟩⟩
  case held =>
    have circle : SMap.find (s.code .keyCmd part v).sec.circles (bitsOf v 2 4) = some c := by rwa [State.code_sec]
    refine ⟨_, completes_keyDrop hp hg ho hb (State.dropKey_held circle hcp), ?_, ?_, ?_⟩
    · rw [State.pins_sec, State.endKey_sec, State.find_freeCircle]
    · rw [State.pins_b, State.b_endKey_DONE]
    · rw [State.pins_f, State.f_endKey_ERR _ _ (by decide)]
  case other =>
    have other : ∀ c, SMap.find (s.code .keyCmd part v).sec.circles (bitsOf v 2 4) = some c → c.part ≠ part := by
      rwa [State.code_sec]
    refine ⟨_, completes_keyDrop hp hg ho hb (State.dropKey_other other), ?_, ?_⟩
    · rw [State.pins_sec, State.endKey_sec, State.code_sec]
    · rw [State.pins_f, State.f_endKey_ERR _ _ (by decide)]
  case ends => exact completes_of_some ht (decide_eq_true hp) rfl

end Sys2Proof.Machine
end

section
/-!
SUPPORT. What the clocks keep while ports send and leave service: the transmitter (10 R340, R341), a port that goes down, and
stacks in self-refresh (14 R495).
-/
namespace Sys2Proof.Machine

/-! ### Time and the transmitter -/

@[simp] theorem State.creditBack_clk (s : State) (p vc : Nat) : (s.creditBack p vc).clk = s.clk := by
  unfold State.creditBack
  dsimp only
  split <;> rfl

@[simp] theorem State.acknowledge_clk (s : State) (p : Nat) : (s.acknowledge p).clk = s.clk := by
  unfold State.acknowledge
  dsimp only
  split <;> rfl

@[simp] theorem State.stamp_clk (s : State) (p : Nat) (m : Msg) : (s.stamp p m).2.clk = s.clk := by
  unfold State.stamp
  split
  · dsimp only
    split <;> rfl
  · rfl

@[simp] theorem State.noteWait_clk (s : State) (p : Nat) (m : Msg) : (s.noteWait p m).clk = s.clk := by
  unfold State.noteWait
  split
  · rfl
  · rw [State.setF_clk, State.draw_clk]

@[simp] theorem State.sendFlit_clk (s : State) (p vc : Nat) : (s.sendFlit p vc).clk = s.clk := by
  unfold State.sendFlit
  split
  · rfl
  · split
    · rfl
    · next q _ =>
      have stamped : ((s.noteWait p q.msg).stamp p q.msg).2.clk = s.clk := by
        rw [State.stamp_clk, State.noteWait_clk]
      revert stamped
      obtain ⟨m, t⟩ := (s.noteWait p q.msg).stamp p q.msg
      intro stamped
      dsimp only
      split
      · rw [State.emit_clk, State.setPort_clk, State.bump_clk, stamped]
      · rw [State.setPort_clk, State.bump_clk, stamped]

@[simp] theorem State.sendFlits_clk (n p : Nat) (s : State) : (State.sendFlits n p s).clk = s.clk := by
  induction n generalizing s with
  | zero => rfl
  | succ n ih =>
    unfold State.sendFlits
    split
    · rfl
    · rw [ih, State.sendFlit_clk]

@[simp] theorem State.pump_clk (s : State) (p : Nat) : (s.pump p).clk = s.clk := by
  unfold State.pump
  split
  · rfl
  · simp

/-! ### Ports that go down -/

@[simp] theorem State.portDown_clk (s : State) (p st : Nat) : (s.portDown p st).clk = s.clk := by
  unfold State.portDown
  dsimp only
  split <;> rfl

@[simp] theorem State.portDown_host (s : State) (p st : Nat) : (s.portDown p st).host = s.host := by
  unfold State.portDown
  dsimp only
  split <;> rfl

/-- A part of the state that no port's leaving touches, through all of them and what their change shows. -/
theorem State.darkPorts_keeps {α : Sort _} (q : State → α) (hdown : ∀ (s : State) p, p < 8 → q (s.portDown p 1) = q s)
    (hras : ∀ (s : State) ras, q { s with ras := ras } = q s) (hfn : ∀ (s : State) x, q (s.setFn 0 x) = q s)
    (hout : ∀ (s : State) o, q (s.emit o) = q s) (s : State) : q s.darkPorts = q s := by
  unfold State.darkPorts State.portsChanged
  rw [State.service_keeps q _ _ (fun x => hfn _ x) (fun o => hout _ o), State.showPorts_keeps q hras]
  refine List.foldlRecOn (motive := fun t => q t = q s) _ _ rfl fun t ht p hp => ?_
  split
  · exact (hdown t p (List.mem_range.1 hp)).trans ht
  · exact ht

@[simp] theorem State.darkPorts_clk (s : State) : s.darkPorts.clk = s.clk :=
  State.darkPorts_keeps State.clk (fun s p _ => s.portDown_clk p 1) (fun _ _ => rfl) (fun _ _ => rfl) (fun _ _ => rfl) s

@[simp] theorem State.darkPorts_linkUp (s : State) : s.darkPorts.host.linkUp = s.host.linkUp :=
  State.darkPorts_keeps (fun s => s.host.linkUp) (fun s p _ => congrArg HostState.linkUp (s.portDown_host p 1))
    (fun _ _ => rfl) (fun _ _ => rfl) (fun _ _ => rfl) s

theorem State.f_darkPorts (s : State) {x : Fld} {i : Nat} (hi : i < 2 ^ 24) (hs : x.reg ≠ .portStatus)
    (hf : x.reg ≠ .portFlags) : s.darkPorts.f x i = s.f x i :=
  State.darkPorts_keeps (fun s => s.f x i) (fun _ _ hp => State.f_portDown_ne hp hi hs hf)
    (fun _ _ => rfl) (fun _ _ => rfl) (fun _ _ => rfl) s

/-! ### Self-refresh -/

/-- Self-refresh is a field of the stacks' status words alone. -/
theorem State.selfRefresh_keeps {α : Sort _} (q : State → α)
    (hset : ∀ (s : State) i v, i < 16 → q (s.setF F.stackStatus_SELFREF i v) = q s) (s : State) (on : Bool) :
    q (s.selfRefresh on) = q s := by
  refine List.foldlRecOn (motive := fun t => q t = q s) _ _ rfl fun t ht i hi => ?_
  split
  · exact (hset t i _ (List.mem_range.1 hi)).trans ht
  · exact ht

@[simp] theorem State.selfRefresh_clk (s : State) (on : Bool) : (s.selfRefresh on).clk = s.clk :=
  State.selfRefresh_keeps State.clk (fun _ _ _ _ => State.setF_clk _ _ _ _) s on

@[simp] theorem State.selfRefresh_host (s : State) (on : Bool) : (s.selfRefresh on).host = s.host :=
  State.selfRefresh_keeps State.host (fun _ _ _ _ => State.setF_host _ _ _ _) s on

theorem State.f_selfRefresh (s : State) (on : Bool) {x : Fld} {i : Nat} (hi : i < 2 ^ 24) (hx : x.reg ≠ .stackStatus) :
    (s.selfRefresh on).f x i = s.f x i :=
  State.selfRefresh_keeps (fun s => s.f x i) (fun _ _ _ hj => State.f_setF_ne _ _ (by omega) hi (.inl hx)) s on

/-! ### Counters -/

theorem State.f_bump_ne (s : State) {lo hi : Reg} {x : Fld} {i j : Nat} (k : Nat) (hi' : i < 2 ^ 24) (hj : j < 2 ^ 24)
    (hl : x.reg ≠ lo) (hh : x.reg ≠ hi) : (s.bump lo hi i k).f x j = s.f x j := by
  rw [State.f, State.rget_bump_ne s k hi' hj (.inr ⟨hl, hh⟩), State.f]

end Sys2Proof.Machine
end

section
/-!
PROOF. Clocks and the fast limiters (14 R486, R493 to R497, R503): the switch of a domain stage by stage, the sources that
fail and recover, the trim, units that wake, and the events of a die or a cluster.
-/
namespace Sys2Proof.Machine

/-! ### The switch of a domain (14 R494) -/

theorem clkDom_free : ∀ x ∈ Reg.clkDom.info.fields, x.acc ≠ .rwd := by decide

section Switch
variable {s : State} {n : Nat}

@[simp] theorem State.domStage_setDom (s : State) (n : Nat) (x : DomStage) : (s.setDom n x).domStage n = x :=
  SMap.get_set_self _ _ _ _

@[simp] theorem State.f_setDom (s : State) (n : Nat) (y : DomStage) (x : Fld) (i : Nat) :
    (s.setDom n y).f x i = s.f x i := State.f_of_regs rfl x i

@[simp] theorem State.b_setDom (s : State) (n : Nat) (y : DomStage) (x : Fld) (i : Nat) :
    (s.setDom n y).b x i = s.b x i := State.b_of_regs rfl x i

theorem State.domStage_of_clk {s t : State} (h : t.clk = s.clk) (n : Nat) : t.domStage n = s.domStage n := by
  rw [State.domStage, h, State.domStage]

@[simp] theorem State.domStage_pins (s : State) (n : Nat) : s.pins.domStage n = s.domStage n :=
  State.domStage_of_clk s.pins_clk n

theorem State.writeDom_requests {v : W32} (hv : bitsOf v 0 1 ≠ s.f F.clkDom_REF n) (hp : s.b F.clkDom_PEND n = false) :
    s.writeDom n v = ((s.code .clkDom n v).setF F.clkDom_PEND n 1).setDom n .locking := by
  simp [State.writeDom, hv, hp]

theorem completes_domainSwitch (hn : n < 62) {v : W32} (hv : bitsOf v 0 1 ≠ s.f F.clkDom_REF n)
    (hp : s.b F.clkDom_PEND n = false) :
    ∃ t, Completes (.domainSwitch n v) s t ∧ t.f F.clkDom_REF n = bitsOf v 0 1 ∧ t.b F.clkDom_PEND n = true ∧
      t.domStage n = .locking := by
  refine ⟨_, completes_of_effect (bne_iff_ne.2 hv) (decide_eq_true hn) rfl (State.writeDom_requests hv hp), ?_, ?_, ?_⟩
  · rw [State.pins_f, State.f_setDom, State.f_setF_field _ _ _ (by decide) (by decide) (by decide),
      State.f_code_rw (reset := 0) clkDom_free _ _ _ rfl (by decide)]
    rfl
  · rw [State.pins_b, State.b_setDom, State.b_setF_one _ _ (by decide) rfl]
  · rw [State.domStage_pins, State.domStage_setDom]

/-- The switch is abandoned: the reference of before, and FAILED. -/
theorem State.doPllLock_fails (s : State) (n : Nat) :
    (s.doPllLock n false).domStage n = .running ∧ (s.doPllLock n false).b F.clkDom_PEND n = false ∧
      (s.doPllLock n false).b F.clkDom_FAILED n = true ∧
      (s.doPllLock n false).f F.clkDom_REF n = 1 - s.f F.clkDom_REF n := by
  have back : s.doPllLock n false =
      (((s.setF F.clkDom_REF n (1 - s.f F.clkDom_REF n)).setF F.clkDom_PEND n 0).setF F.clkDom_FAILED n 1).setDom n
        .running := if_neg Bool.false_ne_true
  rw [back]
  refine ⟨State.domStage_setDom _ _ _, ?_, ?_, ?_⟩
  · rw [State.b_setDom, State.b_setF_field _ _ _ (by decide) (by decide) (by decide),
      State.b_setF_self _ _ _ _ (by decide)]
    rfl
  · rw [State.b_setDom, State.b_setF_one _ _ (by decide) rfl]
  · rw [State.f_setDom, State.f_setF_field _ _ _ (by decide) (by decide) (by decide),
      State.f_setF_field _ _ _ (by decide) (by decide) (by decide), State.f_setF_self _ _ _ _ (by decide)]
    exact Nat.mod_eq_of_lt (Nat.lt_of_le_of_lt (Nat.sub_le _ _) (by decide))

theorem completes_pllLock (hn : n < 62) (hs : s.domStage n = .locking) :
    (s.clk.failed.contains (refOf (s.b F.clkDom_REF n)) = false →
      ∃ t, Completes (.pllLock n true) s t ∧ t.domStage n = .stopping) ∧
    ∃ t, Completes (.pllLock n false) s t ∧ t.domStage n = .running ∧ t.b F.clkDom_PEND n = false ∧
      t.b F.clkDom_FAILED n = true ∧ t.f F.clkDom_REF n = 1 - s.f F.clkDom_REF n := by
  refine ⟨fun hf => ⟨_, completes_of_effect (by rw [hs, hf]; rfl) (decide_eq_true hn) rfl (if_pos rfl), ?_⟩,
    _, completes_of_effect (by rw [hs]; rfl) (decide_eq_true hn) rfl rfl, ?_⟩
  · rw [State.domStage_pins, State.domStage_setDom]
  · rw [State.domStage_pins, State.pins_b, State.pins_b, State.pins_f]
    exact s.doPllLock_fails n

theorem completes_domainStopPoint (hn : n < 62) (hs : s.canStop n = true) :
    ∃ t, Completes (.domainStopPoint n) s t ∧ t.domStage n = .stopped :=
  ⟨_, completes_of_effect hs (decide_eq_true hn) rfl rfl, (State.domStage_pins _ _).trans (State.domStage_setDom _ _ _)⟩

@[simp] theorem State.wakePorts_clk (s : State) (n : Nat) : (s.wakePorts n).clk = s.clk := by
  unfold State.wakePorts
  split
  · simp
  · rfl

/-- What a restarted clock lets the ports send is in no word of the clocks. -/
theorem State.f_wakePorts (s : State) (n : Nat) {x : Fld} {i : Nat} (hi : i < 2 ^ 24) (hx : x.reg.info.blk = .clkCtl) :
    (s.wakePorts n).f x i = s.f x i := by
  have apart (r : Reg) (hr : r.info.blk ≠ .clkCtl) : x.reg ≠ r := fun h => hr (h ▸ hx)
  have pumped (t : State) {p : Nat} (hp : p < 8) : (t.pump p).f x i = t.f x i :=
    State.f_pump hp hi (apart _ (by decide)) (apart _ (by decide)) (apart _ (by decide)) t
  unfold State.wakePorts
  split
  · next h =>
    simp only [Bool.and_eq_true, decide_eq_true_eq] at h
    simp only [List.foldl_cons, List.foldl_nil]
    rw [pumped _ (by omega), pumped _ (by omega)]
  · rfl

theorem State.b_wakePorts (s : State) (n : Nat) {x : Fld} {i : Nat} (hi : i < 2 ^ 24) (hx : x.reg.info.blk = .clkCtl) :
    (s.wakePorts n).b x i = s.b x i := by
  rw [State.b, State.f_wakePorts s n hi hx, State.b]

/-- The domain runs again, with nothing pending. -/
theorem State.doRestart_runs (hn : n < 62) :
    (s.doRestart n).domStage n = .running ∧ (s.doRestart n).b F.clkDom_PEND n = false := by
  have hi : n < 2 ^ 24 := by omega
  have stage : ((((s.setDom n .running).setF F.clkDom_PEND n 0).bump .clkEvtLo .clkEvtHi 0 1).wakePorts n).domStage n =
      .running := by
    rw [State.domStage_of_clk (State.wakePorts_clk _ _), State.domStage_of_clk (State.bump_clk _ _ _ _ _),
      State.domStage_of_clk (State.setF_clk _ _ _ _), State.domStage_setDom]
  have pend : ((((s.setDom n .running).setF F.clkDom_PEND n 0).bump .clkEvtLo .clkEvtHi 0 1).wakePorts n).b
      F.clkDom_PEND n = false := by
    rw [State.b_wakePorts _ _ hi (by decide), State.b, State.f_bump_ne _ _ (by decide) hi (by decide) (by decide),
      State.f_setF_self _ _ _ _ (by decide)]
    rfl
  unfold State.doRestart
  dsimp only
  split
  · exact ⟨(State.domStage_of_clk (State.setF_clk _ _ _ _) n).trans stage,
      (State.b_setF_field _ _ _ (by decide) (by decide) (by decide)).trans pend⟩
  · exact ⟨stage, pend⟩

theorem completes_pllLossOfLock (hk : s.b F.clkCfg_KUORI_CLK 0 = true) (hr : s.b F.clkDom_REF n = true)
    (hs : s.domStage n ≠ .lost) : ∃ t, Completes (.pllLossOfLock n) s t ∧ t.domStage n = .lost :=
  ⟨_, completes_of_effect (by rw [hk, hr, bne_iff_ne.2 hs]; rfl) rfl rfl rfl,
    (State.domStage_pins _ _).trans (State.domStage_setDom _ _ _)⟩

end Switch

theorem completes_domainRestart {s : State} {n : Nat} (hn : n < 62) (hs : s.domStage n = .stopped) :
    Completes (.domainRestart n) s (s.doRestart n).pins :=
  completes_of_effect (by rw [hs]; rfl) (decide_eq_true hn) rfl rfl

/-! ### Sources that fail and recover (14 R495) -/

theorem State.dropLink_of_down {s : State} (h : s.host.linkUp = false) : s.dropLink = s :=
  if_pos (by rw [h]; rfl)

section Failure
variable (s : State) (src : ClockSource)

@[simp] theorem State.noteFailed_clk : (s.noteFailed src).clk = { s.clk with failed := src :: s.clk.failed } := by
  rw [State.noteFailed, State.bump_clk, State.setF_clk]

@[simp] theorem State.noteFailed_linkUp : (s.noteFailed src).host.linkUp = s.host.linkUp := by
  rw [State.noteFailed, State.bump_host, State.setF_host]

theorem okBit_reg : (okBit src).reg = .clkStatus := by cases src <;> rfl

theorem okBit_fits : (okBit src).lo + (okBit src).n ≤ 32 := by cases src <;> decide

theorem okBit_n : (okBit src).n = 1 := by cases src <;> rfl

/-- OK and SAFE share a word, not a bit. -/
theorem okBit_apart_safe : (okBit src).lo + (okBit src).n ≤ F.clkStatus_SAFE.lo ∨
    F.clkStatus_SAFE.lo + F.clkStatus_SAFE.n ≤ (okBit src).lo := by cases src <;> decide

theorem State.b_noteFailed_okBit : (s.noteFailed src).b (okBit src) 0 = false := by
  have status (r : Reg) (hr : r ≠ .clkStatus) : (okBit src).reg ≠ r := (okBit_reg src).symm ▸ hr.symm
  rw [State.b, State.noteFailed, State.f_bump_ne _ _ (by decide) (by decide) (status _ (by decide)) (status _ (by decide)),
    State.f_setF_self _ _ _ _ (okBit_fits src)]
  simp

/-- What the safe state sets before ports and stacks follow. -/
def State.markSafe (s : State) : State :=
  { ((s.setF F.clkStatus_SAFE 0 1).setF F.clkFlags_SAFE_SEEN 0 1).setF F.rasSvcCause_SAFE 0 1 with
    clk := { s.clk with recovering := false } }

theorem State.f_markSafe (s : State) {x : Fld} (hx : x.reg = .clkStatus) :
    s.markSafe.f x 0 = (s.setF F.clkStatus_SAFE 0 1).f x 0 := by
  have apart (r : Reg) (hr : r ≠ .clkStatus) : x.reg ≠ r := hx.symm ▸ hr.symm
  calc s.markSafe.f x 0
    _ = (((s.setF F.clkStatus_SAFE 0 1).setF F.clkFlags_SAFE_SEEN 0 1).setF F.rasSvcCause_SAFE 0 1).f x 0 :=
      State.f_of_regs rfl x 0
    _ = (s.setF F.clkStatus_SAFE 0 1).f x 0 := by
      rw [State.f_setF_ne _ _ (by decide) (by decide) (.inl (apart _ (by decide))),
        State.f_setF_ne _ _ (by decide) (by decide) (.inl (apart _ (by decide)))]

/-- The safe state, entered or kept. -/
theorem State.enterSafe_of_down {s : State} (h : s.host.linkUp = false) :
    s.enterSafe.clk.failed = s.clk.failed ∧ s.enterSafe.b F.clkStatus_SAFE 0 = true ∧
      ∀ x, s.enterSafe.b (okBit x) 0 = s.b (okBit x) 0 := by
  by_cases hs : s.b F.clkStatus_SAFE 0 = true
  · rw [State.enterSafe, if_pos hs]
    exact ⟨rfl, hs, fun x => rfl⟩
  · have entered : s.enterSafe = s.markSafe.darkPorts.selfRefresh true := by
      rw [State.enterSafe, if_neg hs]
      refine State.dropLink_of_down ?_
      rw [State.selfRefresh_host, State.darkPorts_linkUp]
      exact h
    have word (x : Fld) (hx : x.reg = .clkStatus) : s.enterSafe.f x 0 = (s.setF F.clkStatus_SAFE 0 1).f x 0 := by
      have apart (r : Reg) (hr : r ≠ .clkStatus) : x.reg ≠ r := hx.symm ▸ hr.symm
      rw [entered, State.f_selfRefresh _ _ (by decide) (apart _ (by decide)),
        State.f_darkPorts _ (by decide) (apart _ (by decide)) (apart _ (by decide)), s.f_markSafe hx]
    refine ⟨by rw [entered, State.selfRefresh_clk, State.darkPorts_clk]; rfl, ?_, fun x => ?_⟩
    · rw [State.b, word _ rfl, ← State.b, State.b_setF_one _ _ (by decide) rfl]
    · rw [State.b, word _ (okBit_reg x), State.f_setF_field _ _ _ (by decide) (okBit_reg x) (okBit_apart_safe x), State.b]

theorem State.doFailure_of_down {s : State} (h : s.host.linkUp = false) :
    (s.doFailure src).clk.failed = src :: s.clk.failed ∧ (s.doFailure src).b (okBit src) 0 = false ∧
      (src ≠ .refclkPcie → s.inService src = true → s.b F.clkCfg_KUORI_CLK 0 = false →
        (s.doFailure src).b F.clkStatus_SAFE 0 = true) := by
  have down : (s.noteFailed src).host.linkUp = false := (s.noteFailed_linkUp src).trans h
  have noted : (s.noteFailed src).clk.failed = src :: s.clk.failed := by rw [State.noteFailed_clk]
  obtain ⟨failed, safe, ok⟩ := State.enterSafe_of_down down
  unfold State.doFailure
  dsimp only
  split
  · next hp =>
    rw [State.dropLink_of_down down]
    exact ⟨noted, s.b_noteFailed_okBit src, fun hn => absurd (beq_iff_eq.1 hp) hn⟩
  · split
    · exact ⟨failed.trans noted, (ok src).trans (s.b_noteFailed_okBit src), fun _ _ _ => safe⟩
    · next hs => exact ⟨noted, s.b_noteFailed_okBit src, fun _ hi hk => absurd (by rw [hi, hk]; rfl) hs⟩

end Failure

/-- The OK bits of the sources in a list are set, and none is cleared. -/
theorem State.b_okBit_foldl (x : ClockSource) (l : List ClockSource) (s : State) (h : x ∈ l ∨ s.b (okBit x) 0 = true) :
    (l.foldl (fun s y => s.setF (okBit y) 0 1) s).b (okBit x) 0 = true := by
  induction l generalizing s with
  | nil => exact h.resolve_left List.not_mem_nil
  | cons y l ih =>
    refine ih _ ?_
    by_cases hxy : x = y
    · exact .inr (by rw [hxy, State.b_setF_one _ _ (okBit_fits y) (okBit_n y)])
    · refine h.imp (fun hx => (List.mem_cons.1 hx).resolve_left hxy) fun hb => ?_
      have apart : (okBit x).lo + (okBit x).n ≤ (okBit y).lo ∨ (okBit y).lo + (okBit y).n ≤ (okBit x).lo := by
        revert hxy
        cases x <;> cases y <;> decide
      rw [State.b_setF_field _ _ _ (okBit_fits y) ((okBit_reg x).trans (okBit_reg y).symm) apart, hb]

theorem completes_sourceRecovery {s : State} (h : s.clk.failed ≠ []) :
    ∃ t, Completes Instr.sourceRecovery s t ∧ t.clk.failed = [] ∧ t.clk.recovering = s.b F.clkStatus_SAFE 0 ∧
      ∀ x ∈ s.clk.failed, t.b (okBit x) 0 = true := by
  refine ⟨_, completes_of_effect (by simpa using h) rfl rfl rfl, ?_, ?_, fun x hx => ?_⟩
  · rw [State.pins_clk, State.doRecovery]
  · rw [State.pins_clk, State.doRecovery]
  · rw [State.pins_b]
    exact State.b_okBit_foldl x _ _ (.inl hx)

theorem State.doSafeExit_leaves (s : State) :
    s.doSafeExit.b F.clkStatus_SAFE 0 = false ∧ s.doSafeExit.clk.recovering = false := by
  constructor
  · rw [State.b, State.doSafeExit, State.f_selfRefresh _ _ (by decide) (by decide),
      State.f_setF_self _ _ _ _ (by decide)]
    rfl
  · rw [State.doSafeExit, State.selfRefresh_clk, State.setF_clk]

theorem completes_safeStateExit {s : State} (hs : s.b F.clkStatus_SAFE 0 = true) (hr : s.clk.recovering = true) :
    ∃ t, Completes Instr.safeStateExit s t ∧ t.b F.clkStatus_SAFE 0 = false ∧ t.clk.recovering = false := by
  refine ⟨_, completes_of_effect (by rw [hs, hr]; rfl) rfl rfl rfl, ?_, ?_⟩
  · rw [State.pins_b, State.service_b, s.doSafeExit_leaves.1]
  · rw [State.pins_clk, State.service_clk, s.doSafeExit_leaves.2]

/-! ### Kuori compatibility (14 R497) -/

/-- Putting one domain back leaves the reference of another. -/
theorem State.b_toIosc_other (s : State) {n m : Nat} (hn : n < 62) (hm : m < 62) (h : n ≠ m) :
    (s.toIosc m).b F.clkDom_REF n = s.b F.clkDom_REF n := by
  have other (t : State) (x : Fld) (v : Nat) : (t.setF x m v).b F.clkDom_REF n = t.b F.clkDom_REF n :=
    State.b_setF_ne _ _ (by omega) (by omega) (.inr h)
  unfold State.toIosc State.doPllLock
  dsimp only
  split
  · rw [if_neg Bool.false_ne_true, State.b_setDom, other, other, other]
  · split
    · rw [State.b_wakePorts _ _ (by omega) (by decide), State.b_setDom, other, other]
    · rfl

theorem State.b_toIosc_self (s : State) {n : Nat} (hn : n < 62) : (s.toIosc n).b F.clkDom_REF n = false := by
  unfold State.toIosc
  dsimp only
  split
  · next h =>
    have hr : s.f F.clkDom_REF n = 1 := beq_iff_eq.1 (Bool.and_eq_true_iff.1 h).1
    obtain ⟨-, -, -, ref⟩ := s.doPllLock_fails n
    rw [State.b, ref, hr]
    rfl
  · split
    · rw [State.b_wakePorts _ _ (by omega) (by decide), State.b_setDom,
        State.b_setF_field _ _ _ (by decide) (by decide) (by decide), State.b_setF_self _ _ _ _ (by decide)]
      rfl
    · next h => exact Bool.eq_false_iff.2 fun hb => h (by rw [hb, Bool.true_or])

/-- Every domain of a list is back on IOSC, and none leaves it. -/
theorem State.b_toIosc_foldl {n : Nat} (hn : n < 62) (l : List Nat) (hl : ∀ m ∈ l, m < 62) (s : State)
    (h : n ∈ l ∨ s.b F.clkDom_REF n = false) : (l.foldl State.toIosc s).b F.clkDom_REF n = false := by
  induction l generalizing s with
  | nil => exact h.resolve_left List.not_mem_nil
  | cons m l ih =>
    refine ih (fun k hk => hl k (List.mem_cons_of_mem _ hk)) _ ?_
    by_cases hnm : n = m
    · exact .inr (hnm ▸ s.b_toIosc_self hn)
    · refine h.imp (fun hx => (List.mem_cons.1 hx).resolve_left hnm) fun hb => ?_
      rw [State.b_toIosc_other s hn (hl m List.mem_cons_self) hnm, hb]

theorem completes_kuoriSourceFailure {s : State} (hk : s.b F.clkCfg_KUORI_CLK 0 = true)
    (hs : s.inService .refclkSys = true) :
    ∃ t, Completes Instr.kuoriSourceFailure s t ∧ t.b F.clkFlags_SRCFAIL 0 = true ∧
      ∀ n, n < 62 → t.b F.clkDom_REF n = false := by
  refine ⟨_, completes_of_effect (by rw [hk, hs]; rfl) rfl rfl rfl, ?_, fun n hn => ?_⟩
  · rw [State.pins_b, State.service_b, State.doKuori, State.b_of_regs (State.msix_regs _ _ _),
      State.b_setF_one _ _ (by decide) rfl]
  · rw [State.pins_b, State.service_b, State.doKuori, State.b_of_regs (State.msix_regs _ _ _),
      State.b_setF_ne _ _ (by decide) (by omega) (.inl (by decide)),
      State.b_toIosc_foldl hn _ (fun m hm => List.mem_range.1 hm) _ (.inl (List.mem_range.2 hn))]

/-! ### The trim, units that wake, and the fast limiters (14 R486, R493, R503) -/

theorem completes_trimWindow {s : State} (err : W16) (h : s.trimRef ≠ 0) :
    ∃ t, Completes (.trimWindow err) s t ∧ t.f F.clkTrim_ERR 0 = err.toNat := by
  refine ⟨_, completes_of_effect (bne_iff_ne.2 h) rfl rfl rfl, ?_⟩
  rw [State.pins_f, State.doTrim, State.f_setF_self _ _ _ _ (by decide)]
  exact Nat.mod_eq_of_lt err.isLt

theorem completes_unitWake {s : State} {gate bit : Nat} (hg : gate < 3) (hb : bit < 32)
    (ha : s.f F.clkCfg_GATING 0 = 1) (hw : wakes gate bit = true)
    (hs : (SMap.get 0 s.clk.awake gate).getLsbD bit = false) :
    ∃ t, Completes (.unitWake gate bit) s t ∧ (SMap.get 0 t.clk.awake gate).getLsbD bit = true ∧
      t.eventCount .clkEvtLo .clkEvtHi 2 = (s.eventCount .clkEvtLo .clkEvtHi 2 + 1) % 2 ^ 48 := by
  refine ⟨_, completes_of_effect (by rw [ha, hw, hs]; rfl) (by simp [Instr.wf, hg, hb]) rfl rfl, ?_, ?_⟩
  · rw [State.pins_clk, State.bump_clk, SMap.get_set_self, BitVec.getLsbD_or, getLsbD_bit32 hb, Bool.or_true]
  · rw [State.eventCount_of_regs (State.pins_regs _), State.eventCount_bump _ _ (by decide) (by decide)]
    rfl

section Limits
variable {s : State} {n : Nat}

theorem completes_currentLimitEvent (hn : n < 8) (h : s.clk.limiter.contains n = false) :
    ∃ t, Completes (.currentLimitEvent n) s t ∧ n ∈ t.clk.limiter ∧ n ∈ t.clk.limited :=
  ⟨_, completes_of_effect (by rw [h]; rfl) (decide_eq_true hn) rfl rfl, List.mem_cons_self, List.mem_cons_self⟩

theorem completes_currentLimitRelease (hn : n < 8) (h : s.clk.limiter.contains n = true) :
    ∃ t, Completes (.currentLimitRelease n) s t ∧ n ∉ t.clk.limiter ∧ t.clk.limited = s.clk.limited := by
  refine ⟨_, completes_of_effect h (decide_eq_true hn) rfl rfl, ?_, rfl⟩
  rw [State.pins_clk]
  simp

theorem completes_droopEvent (hn : n < 32) : ∃ t, Completes (.droopEvent n) s t ∧ n ∈ t.clk.drooped :=
  ⟨_, completes_of_effect rfl (decide_eq_true hn) rfl rfl, List.mem_cons_self⟩

end Limits

/-- Settles O58: the stages of a switch, the sources through failure and recovery, and the events one by one. -/
theorem clockAndPowerEvents : Obligations.ClockAndPowerEvents := by
  refine ⟨fun s n hn => ⟨fun v => completes_domainSwitch hn, completes_pllLock hn, completes_domainStopPoint hn,
      fun hs => ⟨completes_domainRestart hn hs, State.doRestart_runs hn⟩, completes_pllLossOfLock⟩,
    fun s => ⟨fun src hf => ⟨?_, State.doFailure_of_down src⟩, completes_sourceRecovery, completes_safeStateExit,
      completes_kuoriSourceFailure, completes_trimWindow, fun gate bit => completes_unitWake⟩,
    fun s n => ⟨completes_currentLimitEvent, completes_currentLimitRelease, completes_droopEvent⟩⟩
  exact completes_of_effect (by rw [hf]; rfl) rfl rfl rfl

end Sys2Proof.Machine
end

section
/-!
PROOF. Fences, spares, in-field tests, the directory sample and the die-to-die links (15 R517 to R535): what each request
starts or why it is refused, and what each event ends.
-/
namespace Sys2Proof.Machine

/-! ### Fences (15 R517, R520) -/

section Fence
variable {s : State} {v : W32}

theorem rasFence_free : ∀ x ∈ Reg.rasFence.info.fields, x.acc ≠ .rwd := by decide

theorem physIndexOf_lt {id : Nat} (h : coreId id = true) : physIndexOf id < 288 := by
  simp only [coreId, Bool.and_eq_true, decide_eq_true_eq] at h
  unfold physIndexOf
  omega

@[simp] theorem State.ploro_rget (s : State) (ps : List Nat) (r : Reg) (i : Nat) : (s.ploro ps).rget r i = s.rget r i :=
  State.ploro_keeps (fun t => t.rget r i) (fun _ _ => rfl) s ps

/-- Emptying an L1 writes no register. -/
@[simp] theorem State.emptyL1_regs (s : State) (c : Nat) : (s.emptyL1 c).regs = s.regs :=
  List.foldlRecOn (motive := fun t : State => t.regs = s.regs) _ _ rfl fun t ht l _ =>
    (State.surrender_keeps State.regs_apart (fun _ _ => rfl) t c l false).trans ht

/-- Whether a core is fenced stands in its word of RAS_FENCED alone. -/
theorem State.fencedPhys_of_rget {s t : State} {i : Nat} (h : t.rget .rasFenced (i / 32) = s.rget .rasFenced (i / 32)) :
    t.fencedPhys i = s.fencedPhys i := by
  rw [State.fencedPhys, h, State.fencedPhys]

theorem getLsbD_and_not_bit32 (w : W32) {i : Nat} (h : i < 32) : (w &&& ~~~bit32 i).getLsbD i = false := by
  rw [BitVec.getLsbD_and, BitVec.getLsbD_not, getLsbD_bit32 h]
  simp

theorem State.fencedPhys_unfenceCore (s : State) (i : Nat) : (s.unfenceCore i).fencedPhys i = false := by
  unfold State.unfenceCore
  dsimp only
  rw [State.fencedPhys, State.ploro_rget, State.rget_rset_self, getLsbD_and_not_bit32 _ (Nat.mod_lt _ (by decide)),
    Bool.and_false]

theorem State.writeFence_unfences (hg : bitsOf v 10 1 = 1) (ho : bitsOf v 9 1 = 1) (hc : coreId (bitsOf v 0 9) = true)
    (ht : s.ras.tested.contains (physIndexOf (bitsOf v 0 9)) = true)
    (hr : s.replaced (physIndexOf (bitsOf v 0 9)) = false) :
    s.writeFence v = ((s.code .rasFence 0 v).setF F.rasFence_REASON 0 0).unfenceCore (physIndexOf (bitsOf v 0 9)) := by
  rw [State.writeFence, hg, ho, hc, hr, ht, Bool.not_true, Bool.and_false]
  rfl

/-- A refusal in RAS_FENCE is ERR, REASON and the flag of a write that is ignored. -/
theorem State.refuseFence_eq (s : State) (reason : Nat) : s.refuseFence reason =
    ((s.setF F.rasFence_ERR 0 1).setF F.rasFence_REASON 0 reason).setF F.rasFlags_WRITE_IGNORED 0 1 := rfl

theorem State.writeFence_refuses (hg : bitsOf v 10 1 = 1) (ho : bitsOf v 9 1 = 1) (hc : coreId (bitsOf v 0 9) = true)
    (h : s.replaced (physIndexOf (bitsOf v 0 9)) = true ∨ s.fencedPhys (physIndexOf (bitsOf v 0 9)) = true ∧
      s.ras.tested.contains (physIndexOf (bitsOf v 0 9)) = false) :
    s.writeFence v = (s.code .rasFence 0 v).refuseFence 2 := by
  have refused : (s.replaced (physIndexOf (bitsOf v 0 9)) || (s.fencedPhys (physIndexOf (bitsOf v 0 9)) &&
      !s.ras.tested.contains (physIndexOf (bitsOf v 0 9)))) = true := by
    rcases h with h | ⟨hf, ht⟩
    · rw [h, Bool.true_or]
    · rw [hf, ht, Bool.not_false, Bool.and_true, Bool.or_true]
  rw [State.writeFence, hg, ho, hc, refused]
  rfl

theorem completes_managerFence (hg : bitsOf v 10 1 = 1) (ho : bitsOf v 9 1 = 0) :
    Completes (.coreFence (.manager v) (bitsOf v 0 9)) s (State.service s (s.writeFence v)).pins :=
  completes_of_effect (by rw [State.canFence, hg, ho]; simp) rfl rfl rfl

theorem completes_causedFence {cause : FenceCause} {phys : Nat} (hm : ∀ x, cause ≠ .manager x) (hc : coreId phys = true)
    (hf : s.fencedPhys (physIndexOf phys) = false) :
    Completes (.coreFence cause phys) s (State.service s (s.fenceCore (physIndexOf phys))).pins := by
  cases cause
  case manager x => exact absurd rfl (hm x)
  all_goals exact completes_of_effect (by simp [State.canFence, hc, hf]) rfl rfl rfl

theorem completes_unfence (hg : bitsOf v 10 1 = 1) (ho : bitsOf v 9 1 = 1) (hc : coreId (bitsOf v 0 9) = true)
    (ht : s.ras.tested.contains (physIndexOf (bitsOf v 0 9)) = true)
    (hr : s.replaced (physIndexOf (bitsOf v 0 9)) = false) :
    ∃ t, Completes (.coreUnfence v) s t ∧ t.fencedPhys (physIndexOf (bitsOf v 0 9)) = false := by
  refine ⟨_, completes_of_effect (by rw [hg, ho]; rfl) rfl rfl
    (congrArg (State.service s) (State.writeFence_unfences hg ho hc ht hr)), ?_⟩
  rw [State.fencedPhys_of_rget (State.pins_rget _ _ _), State.fencedPhys_of_rget (State.service_rget _ _ _ _),
    State.fencedPhys_unfenceCore]

theorem completes_unfenceRefused (hg : bitsOf v 10 1 = 1) (ho : bitsOf v 9 1 = 1) (hc : coreId (bitsOf v 0 9) = true)
    (h : s.replaced (physIndexOf (bitsOf v 0 9)) = true ∨ s.fencedPhys (physIndexOf (bitsOf v 0 9)) = true ∧
      s.ras.tested.contains (physIndexOf (bitsOf v 0 9)) = false) :
    ∃ t, Completes (.coreUnfence v) s t ∧ t.f F.rasFence_REASON 0 = 2 ∧ t.b F.rasFence_ERR 0 = true ∧
      t.rget .rasFenced (physIndexOf (bitsOf v 0 9) / 32) = s.rget .rasFenced (physIndexOf (bitsOf v 0 9) / 32) := by
  have hi : physIndexOf (bitsOf v 0 9) / 32 < 2 ^ 24 := by
    have := physIndexOf_lt hc
    omega
  refine ⟨_, completes_of_effect (by rw [hg, ho]; rfl) rfl rfl
    (congrArg (State.service s) ((State.writeFence_refuses hg ho hc h).trans (State.refuseFence_eq _ 2))), ?_, ?_, ?_⟩
  · rw [State.pins_f, State.service_f, State.f_setF_ne _ _ (by decide) (by decide) (.inl (by decide)),
      State.f_setF_self _ _ _ _ (by decide)]
    rfl
  · rw [State.pins_b, State.service_b, State.b_setF_ne _ _ (by decide) (by decide) (.inl (by decide)),
      State.b_setF_field _ _ _ (by decide) (by decide) (by decide), State.b_setF_one _ _ (by decide) rfl]
  · rw [State.pins_rget, State.service_rget, State.rget_setF_ne _ _ (by decide) hi (by decide),
      State.rget_setF_ne _ _ (by decide) hi (by decide), State.rget_setF_ne _ _ (by decide) hi (by decide),
      State.code_of_free rasFence_free, State.rget_rset_ne _ _ (by decide) hi (.inl (by decide))]

end Fence

/-! ### The cellar (15 R521 to R523) -/

section Cellar
variable {s : State} {v : W32}

@[simp] theorem State.code_ras (s : State) (r : Reg) (i : Nat) (v : W32) : (s.code r i v).ras = s.ras :=
  s.code_keeps State.ras (fun _ _ _ _ => rfl) r i v

theorem State.b_beginCellar_BUSY (s : State) (kind target way : Nat) :
    (s.beginCellar kind target way).b F.rasCellar_BUSY 0 = true := State.b_setF_one _ _ (by decide) rfl

theorem State.beginCellar_cellar (s : State) (kind target way : Nat) :
    (s.beginCellar kind target way).ras.cellar = some (kind, target, way) := by
  rw [State.beginCellar, State.setF_ras]

theorem State.refuseCellar_eq (s : State) (reason : Nat) : s.refuseCellar reason =
    ((s.setF F.rasCellar_ERR 0 1).setF F.rasCellar_REASON 0 reason).setF F.rasFlags_WRITE_IGNORED 0 1 := rfl

theorem State.f_refuseCellar_REASON (s : State) {reason : Nat} (h : reason < 8) :
    (s.refuseCellar reason).f F.rasCellar_REASON 0 = reason := by
  rw [State.refuseCellar_eq, State.f_setF_ne _ _ (by decide) (by decide) (.inl (by decide)),
    State.f_setF_self _ _ _ _ (by decide)]
  exact Nat.mod_eq_of_lt h

theorem State.refuseCellar_ras (s : State) (reason : Nat) : (s.refuseCellar reason).ras = s.ras := by
  rw [State.refuseCellar_eq, State.setF_ras, State.setF_ras, State.setF_ras]

/-- The write of RAS_CELLAR that a request makes, whatever becomes of it. -/
def State.askCellar (s : State) (v : W32) : State := (s.code .rasCellar 0 v).setF F.rasCellar_REASON 0 0

@[simp] theorem State.askCellar_ras (s : State) (v : W32) : (s.askCellar v).ras = s.ras := by
  rw [State.askCellar, State.setF_ras, State.code_ras]

section Core
variable (hg : bitsOf v 14 1 = 1) (hk : bitsOf v 0 1 = 0) (hb : s.b F.rasCellar_BUSY 0 = false)
  (hc : coreId (bitsOf v 1 9) = true)
include hg hk hb hc

theorem State.writeCellar_core (hf : s.fencedPhys (physIndexOf (bitsOf v 1 9)) = true)
    (hl : (s.logicalOf (physIndexOf (bitsOf v 1 9))).isSome = true)
    (hs : s.f F.clStatus_SPARE_STATE (physIndexOf (bitsOf v 1 9) / 9) = 0) :
    s.writeCellar v = (s.askCellar v).beginCellar 0 (physIndexOf (bitsOf v 1 9)) 0 := by
  simp [State.writeCellar, State.askCellar, hg, hk, hb, hc, hf, Option.isSome_iff_ne_none.1 hl, hs]

theorem State.writeCellar_notFenced (hf : s.fencedPhys (physIndexOf (bitsOf v 1 9)) = false) :
    s.writeCellar v = (s.askCellar v).refuseCellar 1 := by
  simp [State.writeCellar, State.askCellar, hg, hk, hb, hc, hf]

theorem completes_coreSpare (hf : s.fencedPhys (physIndexOf (bitsOf v 1 9)) = true)
    (hl : (s.logicalOf (physIndexOf (bitsOf v 1 9))).isSome = true)
    (hs : s.f F.clStatus_SPARE_STATE (physIndexOf (bitsOf v 1 9) / 9) = 0) :
    ∃ t, Completes (.coreSpareBringIn v) s t ∧ t.b F.rasCellar_BUSY 0 = true ∧
      t.ras.cellar = some (0, physIndexOf (bitsOf v 1 9), 0) := by
  refine ⟨_, completes_of_effect (by rw [hg, hk]; rfl) rfl rfl
    (congrArg (State.service s) (State.writeCellar_core hg hk hb hc hf hl hs)), ?_, ?_⟩
  · rw [State.pins_b, State.service_b, State.b_beginCellar_BUSY]
  · rw [State.pins_ras, State.service_ras, State.beginCellar_cellar]

theorem completes_coreSpareRefused (hf : s.fencedPhys (physIndexOf (bitsOf v 1 9)) = false) :
    ∃ t, Completes (.coreSpareBringIn v) s t ∧ t.f F.rasCellar_REASON 0 = 1 ∧ t.ras.cellar = s.ras.cellar := by
  refine ⟨_, completes_of_effect (by rw [hg, hk]; rfl) rfl rfl
    (congrArg (State.service s) (State.writeCellar_notFenced hg hk hb hc hf)), ?_, ?_⟩
  · rw [State.pins_f, State.service_f, State.f_refuseCellar_REASON _ (by decide)]
  · rw [State.pins_ras, State.service_ras, State.refuseCellar_ras, State.askCellar_ras]

end Core

section Way
variable (hg : bitsOf v 14 1 = 1) (hk : bitsOf v 0 1 = 1) (hb : s.b F.rasCellar_BUSY 0 = false)
include hg hk hb

theorem State.writeCellar_way (hu : s.spareUsed (bitsOf v 1 9) = false) :
    s.writeCellar v = ((s.askCellar v).beginCellar 1 (bitsOf v 1 9) (bitsOf v 10 4)).setF F.sliceWay_BUSY
      (bitsOf v 1 9 * 16 + bitsOf v 10 4) 1 := by
  simp [State.writeCellar, State.askCellar, hg, hk, hb, hu]

theorem State.writeCellar_used (hu : s.spareUsed (bitsOf v 1 9) = true) :
    s.writeCellar v = (s.askCellar v).refuseCellar 3 := by
  simp [State.writeCellar, State.askCellar, hg, hk, hb, hu]

theorem completes_waySpare (hu : s.spareUsed (bitsOf v 1 9) = false) :
    ∃ t, Completes (.waySpareBringIn v) s t ∧ t.b F.rasCellar_BUSY 0 = true ∧
      t.ras.cellar = some (1, bitsOf v 1 9, bitsOf v 10 4) := by
  have hi : bitsOf v 1 9 * 16 + bitsOf v 10 4 < 2 ^ 24 := by
    have slice := bitsOf_lt v 1 9
    have way := bitsOf_lt v 10 4
    omega
  refine ⟨_, completes_of_effect (by rw [hg, hk]; rfl) rfl rfl
    (congrArg (State.service s) (State.writeCellar_way hg hk hb hu)), ?_, ?_⟩
  · rw [State.pins_b, State.service_b, State.b_setF_ne _ _ hi (by decide) (.inl (by decide)), State.b_beginCellar_BUSY]
  · rw [State.pins_ras, State.service_ras, State.setF_ras, State.beginCellar_cellar]

theorem completes_waySpareRefused (hu : s.spareUsed (bitsOf v 1 9) = true) :
    ∃ t, Completes (.waySpareBringIn v) s t ∧ t.f F.rasCellar_REASON 0 = 3 := by
  refine ⟨_, completes_of_effect (by rw [hg, hk]; rfl) rfl rfl
    (congrArg (State.service s) (State.writeCellar_used hg hk hb hu)), ?_⟩
  rw [State.pins_f, State.service_f, State.f_refuseCellar_REASON _ (by decide)]

end Way
end Cellar

/-! ### In-field tests and the directory sample (15 R524, R534) -/

section Test
variable {s : State} {v : W32}

theorem State.refuseIft_eq (s : State) (reason : Nat) : s.refuseIft reason =
    ((s.setF F.rasIftStatus_ERR 0 1).setF F.rasIftStatus_REASON 0 reason).setF F.rasFlags_WRITE_IGNORED 0 1 := rfl

/-- While another claimant holds the test network no test starts. -/
theorem State.writeIft_held (hg : bitsOf v 14 1 = 1) (hn : s.networkHeld = true) :
    (s.writeIft v).f F.rasIftStatus_REASON 0 = 2 ∧ (s.writeIft v).ras.testing = s.ras.testing := by
  have refused : s.writeIft v = ((s.code .rasIftCmd 0 v).refuseIft 2).contend 0 2 := by
    rw [State.writeIft, hg, hn]
    rfl
  constructor
  · rw [refused, State.contend, State.f_setF_ne _ _ (by decide) (by decide) (.inl (by decide)),
      State.f_setF_ne _ _ (by decide) (by decide) (.inl (by decide)),
      State.f_setF_ne _ _ (by decide) (by decide) (.inl (by decide)), State.refuseIft_eq,
      State.f_setF_ne _ _ (by decide) (by decide) (.inl (by decide)), State.f_setF_self _ _ _ _ (by decide)]
    rfl
  · rw [refused, State.contend, State.setF_ras, State.setF_ras, State.setF_ras, State.refuseIft_eq, State.setF_ras,
      State.setF_ras, State.setF_ras, State.code_ras]

theorem State.endIft_core {target way : Nat} (passed : Bool) (h : s.ras.testing = some (0, target, way)) :
    (s.endIft passed).ras.testing = none ∧
      (s.endIft passed).f F.rasIftStatus_STATE 0 = if passed then 2 else 3 := by
  rw [State.endIft, h]
  cases passed
  · exact ⟨rfl, State.f_setF_self _ _ _ _ (by decide)⟩
  · exact ⟨rfl, State.f_setF_self _ _ _ _ (by decide)⟩

theorem completes_inFieldTestComplete (passed : Bool) (h : s.iftReady = true) :
    ∃ t, Completes (.inFieldTestComplete passed) s t ∧
      ∀ target way, s.ras.testing = some (0, target, way) → t.ras.testing = none ∧
        t.f F.rasIftStatus_STATE 0 = if passed then 2 else 3 := by
  refine ⟨_, completes_of_effect h rfl rfl rfl, fun target way ht => ?_⟩
  rw [State.pins_ras, State.service_ras, State.pins_f, State.service_f]
  exact State.endIft_core passed ht

/-- Each word of a run of words that is written holds what was written. -/
theorem State.rget_foldl_range (s : State) (r : Reg) (w : Nat → W32) {n k : Nat} (hn : n ≤ 2 ^ 24) (hk : k < n) :
    ((List.range n).foldl (fun s j => s.rset r j (w j)) s).rget r k = w k := by
  induction n with
  | zero => exact absurd hk (Nat.not_lt_zero k)
  | succ n ih =>
    rw [List.range_succ, List.foldl_append, List.foldl_cons, List.foldl_nil]
    rcases Nat.lt_succ_iff_lt_or_eq.1 hk with h | rfl
    · rw [State.rget_rset_ne _ _ (by omega) (by omega) (.inr (Nat.ne_of_lt h)), ih (by omega) h]
    · rw [State.rget_rset_self]

theorem completes_directorySample (hg : bitsOf v 31 1 = 1) : ∃ t, Completes (.directorySample v) s t ∧
    ∀ e, s.mem.dir.find? (fun e => e.2.slice == bitsOf v 0 9 && e.2.set == bitsOf v 9 8 && e.2.way == bitsOf v 17 4) =
      some e → ∀ k, k < 10 → t.rget .rasDirData k = BitVec.ofNat 32 (e.2.bits / 2 ^ (32 * k)) := by
  refine ⟨_, completes_of_effect (beq_iff_eq.2 hg) rfl rfl rfl, fun e he k hk => ?_⟩
  rw [State.pins_rget, State.writeDirSel, hg, if_neg (by decide)]
  dsimp only
  rw [he]
  exact State.rget_foldl_range _ _ (fun k => BitVec.ofNat 32 (e.2.bits / 2 ^ (32 * k))) (by decide) hk

end Test

/-! ### Core arrays (15 R519) -/

section Array
variable {s : State} {core array word : Nat}

theorem completes_coreArrayError (correctable : Bool) (hc : core < 256) (ha : array < 3)
    (hp : s.corePresent core = true) (hf : s.fenced core = false) (hw : word < arrayWords array) :
    Completes (.coreArrayError core array word correctable) s
      (State.service s (s.doArrayError core array word correctable)).pins :=
  completes_of_effect (by simp [hp, hf, hw]) (by simp [Instr.wf, hc, ha]) rfl rfl

theorem State.eventCount_correctable (s : State) (core array word : Nat) :
    (s.doArrayError core array word true).eventCount .rasEvtLo .rasEvtHi 6 =
      (s.eventCount .rasEvtLo .rasEvtHi 6 + 1) % 2 ^ 48 :=
  State.eventCount_bump s 1 (by decide) (by decide)

end Array

/-! ### Die-to-die links (15 R525 to R529, R535) -/

section Links
variable {s : State} {port : Nat}

/-- A port that both sides have trained is as wide as the narrower of them. -/
theorem State.doD2dTrained_width (hr : SMap.get 0 s.ras.d2dRes port = 0) {a b : Nat} (ha : a ≤ 2) :
    (s.doD2dTrained port a b).f F.d2dStatus_WIDTH port = min a b ∧
      (s.doD2dTrained port a b).d2dState port = if min a b = 2 then 2 else if min a b = 1 then 3 else 4 := by
  have trained : s.doD2dTrained port a b =
      ((s.setF F.d2dStatus_CAP_TUN port a).setF F.d2dStatus_CAP_DIE port b).setWidth port (min a b) := by
    rw [State.doD2dTrained, hr]
    rfl
  rw [trained, State.setWidth, State.d2dState]
  constructor
  · rw [State.f_setF_field _ _ _ (by decide) (by decide) (by decide), State.f_setF_self _ _ _ _ (by decide)]
    exact Nat.mod_eq_of_lt (Nat.lt_of_le_of_lt ((Nat.min_le_left a b).trans ha) (by decide))
  · rw [State.f_setF_self _ _ _ _ (by decide)]
    simp only [beq_iff_eq]
    split
    · rfl
    · split <;> rfl

variable (hp : port < 24)
include hp

theorem completes_d2dLane {lane : Nat} (h0 : s.d2dState port ≠ 0) (h4 : s.d2dState port ≠ 4) (hl : lane < 512)
    (hf : (s.lostLanes port).contains lane = false) :
    Completes (.d2dLaneFailure port lane) s (State.service s (s.doLane port lane).judgeDies).pins :=
  completes_of_effect (by rw [bne_iff_ne.2 h0, bne_iff_ne.2 h4, decide_eq_true hl, hf]; rfl) (decide_eq_true hp) rfl rfl

theorem completes_d2dFatalError (side : Bool) (h0 : s.d2dState port ≠ 0) (h4 : s.d2dState port ≠ 4) :
    Completes (.d2dFatalError port side) s (State.service s (s.partialReset port side).judgeDies).pins :=
  completes_of_effect (by rw [bne_iff_ne.2 h0, bne_iff_ne.2 h4]; rfl) (decide_eq_true hp) rfl rfl

theorem completes_d2dTrained {a b : Nat} (h1 : s.d2dState port = 1) (hc : s.capsOk port a b = true) :
    Completes (.d2dTrainingComplete port a b) s (State.service s (s.doD2dTrained port a b).judgeDies).pins :=
  completes_of_effect (by rw [h1, hc]; rfl) (decide_eq_true hp) rfl rfl

theorem completes_d2dTimeout (within : Bool) (h1 : s.d2dState port = 1) (hs : s.b F.clkStatus_SAFE 0 = false) :
    Completes (.d2dTrainingTimeout port within) s (State.service s (s.doTrainTimeout port within).judgeDies).pins :=
  completes_of_effect (by rw [h1, hs]; rfl) (decide_eq_true hp) rfl rfl

theorem completes_d2dRetrain {v : W32} (h : bitsOf v 0 1 = 1) :
    Completes (.d2dRetrain port v) s (State.service s (s.writeD2d port v).judgeDies).pins :=
  completes_of_effect (beq_iff_eq.2 h) (decide_eq_true hp) rfl rfl

theorem completes_d2dPartialReset {v : W32} (h : bitsOf v 1 1 = 1) :
    Completes (.d2dPartialReset port v) s (State.service s (s.writeD2d port v).judgeDies).pins :=
  completes_of_effect (beq_iff_eq.2 h) (decide_eq_true hp) rfl rfl

end Links

/-- Settles O59: the requests by RAS_FENCE, RAS_CELLAR, RAS_IFT_CMD and DIR_SEL, then the events. -/
theorem serviceCommands : Obligations.ServiceCommands := by
  refine ⟨fun s v => ⟨completes_managerFence, fun _ _ => completes_causedFence,
      fun hg ho => ⟨completes_unfence hg ho, completes_unfenceRefused hg ho⟩,
      fun hg hk hb hc => ⟨completes_coreSpare hg hk hb hc, completes_coreSpareRefused hg hk hb hc⟩,
      fun hg hk hb => ⟨completes_waySpare hg hk hb, completes_waySpareRefused hg hk hb⟩,
      fun hg => ⟨completes_of_effect (beq_iff_eq.2 hg) rfl rfl rfl, State.writeIft_held hg⟩,
      completes_directorySample⟩,
    fun s passed => ⟨fun hr => completes_of_effect hr rfl rfl rfl, completes_inFieldTestComplete passed⟩,
    fun s core array word hc ha hp hf hw => ⟨⟨_, completes_coreArrayError true hc ha hp hf hw, ?_⟩,
      completes_coreArrayError false hc ha hp hf hw⟩,
    fun s port hp => ⟨fun h0 h4 => ⟨fun _ => completes_d2dLane hp h0 h4,
        fun side => completes_d2dFatalError hp side h0 h4⟩,
      fun h1 => ⟨fun _ _ => completes_d2dTrained hp h1, fun hs within => completes_d2dTimeout hp within h1 hs⟩,
      fun v => ⟨completes_d2dRetrain hp, completes_d2dPartialReset hp⟩,
      fun hr _ _ ha _ => State.doD2dTrained_width hr ha⟩⟩
  rw [State.eventCount_of_regs (State.pins_regs _), State.eventCount_of_regs (State.service_regs _ _),
    State.eventCount_correctable]

end Sys2Proof.Machine
end

section
/-!
PROOF. Register writes by requester and place, and the always-on domain's (14 R492; 16 R536, R537, R540, R546, R547).
-/
namespace Sys2Proof.Machine

section Write
variable {s : State} {who : Requester} {a : RegAddr} {v : W32}

/-- A place of the requester's window takes the write. -/
theorem State.registerWrite_place (hg : s.gatedInfo (s.windowOf who) a.block a.inst a.off = none)
    (ho : s.reach (s.windowOf who) a.block a.inst a.off ≠ .outside)
    (ha : s.reach (s.windowOf who) a.block a.inst a.off ≠ .absent) :
    s.registerWrite who a v = s.writeAt (s.reach (s.windowOf who) a.block a.inst a.off) a.via v := by
  simp [State.registerWrite, hg, ho, ha]

theorem State.registerWrite_noPlace (hg : s.gatedInfo (s.windowOf who) a.block a.inst a.off = none)
    (hx : s.reach (s.windowOf who) a.block a.inst a.off = .outside ∨
      s.reach (s.windowOf who) a.block a.inst a.off = .absent) :
    s.registerWrite who a v = s.noPlace who a := by
  rcases hx with hx | hx <;> simp [State.registerWrite, hg, hx]

theorem State.registerWrite_gated {info : Nat}
    (hg : s.gatedInfo (s.windowOf who) a.block a.inst a.off = some info) :
    s.registerWrite who a v = s.busError who a info := by
  rw [State.registerWrite, hg]

/-- A write that can be sent completes with its effect. -/
theorem completes_registerWrite {t : State} (hw : (Instr.registerWrite who a v).wf) (hc : s.canWrite who = true)
    (ht : s.registerWrite who a v = t) : Completes (.registerWrite who a v) s (State.service s t).pins := by
  rw [← ht]
  exact reply_eq hw hc

end Write

/-- A write of an always-on register waits among the latched ones, the last of its register. -/
theorem State.mem_aon_latchAon (s : State) (r : Reg) (i : Nat) (via : Alias) (v : W32) :
    ∃ e ∈ (s.latchAon r i via v).aon, e.key = r.key i :=
  ⟨_, List.mem_append_right _ (List.mem_singleton_self _), rfl⟩

theorem State.writeAt_aon (s : State) {r : Reg} (i : Nat) (via : Alias) (v : W32) (h : r.info.blk = .tunAon) :
    s.writeAt (.reg r i) via v = s.latchAon r i via v :=
  if_pos (by rw [h]; rfl)

/-- Settles O52: a place, no place, a gated unit; then the latch and the edge of the always-on domain. -/
theorem registerWrites : Obligations.RegisterWrites := by
  refine ⟨fun s who a v hw hc => ⟨fun hg => ⟨?place, fun hx => ⟨?dropped, ?faulted⟩⟩, ?gated⟩,
    fun s r i via v h => ⟨s.writeAt_aon i via v h, rfl, s.mem_aon_latchAon r i via v⟩, fun s ha hf => ?edge⟩
  case place => exact fun ho hb => completes_registerWrite hw hc (State.registerWrite_place hg ho hb)
  case dropped =>
    rintro n rfl
    have dropped : s.registerWrite (.fn n) a v = s := State.registerWrite_noPlace hg hx
    have done := completes_registerWrite hw hc dropped
    rwa [State.service_self] at done
  case faulted =>
    rintro core slot rfl
    exact completes_registerWrite hw hc (State.registerWrite_noPlace hg hx)
  case gated =>
    rintro info n hg rfl
    exact completes_registerWrite hw hc (State.registerWrite_gated hg)
  case edge => exact reply_eq rfl (by rw [ha, hf]; rfl)

end Sys2Proof.Machine
end

section
/-!
PROOF. Rails, resets, boot and the management port (17 R568 to R582): what a rail, a reset, a boot step or a trip leaves in
the boot state, and what the port answers.
-/
namespace Sys2Proof.Machine

/-! ### Rails (17 R569, R570) -/

section Rails
variable {s : State} {mv : Nat}

theorem execVinAuxOn_inRange (hl : 3135 ≤ mv) (hh : mv ≤ 3465) :
    exec (.vinAuxOn mv) s = command (.vinAuxOn mv) (!s.boot.aux) s s.auxOn := by
  rw [exec_vinAuxOn, execVinAuxOn, if_neg (by omega), if_pos (by simp [hl, hh])]

theorem execVinMainOn_inRange (hl : 11400 ≤ mv) (hh : mv ≤ 12600) :
    exec (.vinMainOn mv) s = command (.vinMainOn mv) (!s.boot.main) s s.mainOn := by
  rw [exec_vinMainOn, execVinMainOn, if_neg (by omega), if_pos (by simp [hl, hh])]

theorem completes_vinAuxOn (hl : 3135 ≤ mv) (hh : mv ≤ 3465) (ha : s.boot.aux = false) :
    ∃ t, Completes (.vinAuxOn mv) s t ∧ t.boot.aux = true ∧ t.boot.pwrgoodLow = true := by
  refine ⟨_, completes_of_effect (by rw [ha]; rfl) rfl (execVinAuxOn_inRange hl hh) rfl, ?_, ?_⟩
  · rw [State.pins_boot_aux, State.auxOn, State.noteKeg, State.setF_boot]
  · rw [State.pins_boot_pwrgoodLow, State.auxOn, State.noteKeg, State.setF_boot]

theorem State.mainOn_main (s : State) : s.mainOn.boot.main = true := by
  unfold State.mainOn
  dsimp only
  split
  · rw [State.setF_boot]
  · rfl

/-- A return of VIN_MAIN after a loss that VIN_AUX outlived is recorded. -/
theorem State.b_mainOn_lost (hl : s.boot.lost = true) (ha : s.boot.aux = true) :
    s.mainOn.b F.aonEvent_MAIN_LOST 0 = true := by
  rw [State.mainOn, if_pos (by rw [hl, ha]; rfl), State.b_setF_one _ _ (by decide) rfl]

theorem completes_vinMainOn (hl : 11400 ≤ mv) (hh : mv ≤ 12600) (hm : s.boot.main = false) :
    ∃ t, Completes (.vinMainOn mv) s t ∧ t.boot.main = true ∧
      (s.boot.lost = true → s.boot.aux = true → t.b F.aonEvent_MAIN_LOST 0 = true) := by
  refine ⟨_, completes_of_effect (by rw [hm]; rfl) rfl (execVinMainOn_inRange hl hh) rfl, ?_, fun hlost haux => ?_⟩
  · rw [State.pins_boot_main, State.mainOn_main]
  · rw [State.pins_b, State.b_mainOn_lost hlost haux]

theorem completes_vinAuxLoss (ha : s.boot.aux = true) :
    ∃ t, Completes Instr.vinAuxLoss s t ∧ t.boot.aux = false ∧ t.boot.regulators = false := by
  refine ⟨_, completes_of_effect ha rfl rfl rfl, ?_, ?_⟩
  · rw [State.pins_boot_aux, State.auxLoss]
    rfl
  · rw [State.pins_boot_regulators, State.auxLoss]
    rfl

theorem State.mainLoss_boot (s : State) : s.mainLoss.boot.main = false ∧ s.mainLoss.boot.aux = s.boot.aux := by
  unfold State.mainLoss
  split
  · next h => exact ⟨rfl, h.symm⟩
  · exact ⟨rfl, rfl⟩

theorem completes_vinMainLoss (hm : s.boot.main = true) :
    ∃ t, Completes Instr.vinMainLoss s t ∧ t.boot.main = false ∧ t.boot.aux = s.boot.aux := by
  refine ⟨_, completes_of_effect hm rfl rfl rfl, ?_⟩
  rw [State.pins_boot_main, State.pins_boot_aux]
  exact s.mainLoss_boot

end Rails

/-! ### Cold reset (17 R578) -/

section ColdReset

/-- A part of the state that is in no register word. -/
def State.ApartFromWords {α : Sort _} (q : State → α) : Prop := ∀ (s : State) x i v, q (s.setF x i v) = q s

variable {α : Sort _} {q : State → α}

/-- Steps over a list that leave a part alone leave it alone together. -/
theorem foldl_keeps {β : Type} (l : List β) {step : State → β → State} (h : ∀ s b, q (step s b) = q s) (s : State) :
    q (l.foldl step s) = q s :=
  List.foldlRecOn (motive := fun t => q t = q s) _ _ rfl fun t ht b _ => (h t b).trans ht

section Apart
variable (hq : State.ApartFromWords q) (s : State)
include hq

theorem State.ApartFromWords.sampleStraps (d : Nat) : q (s.sampleStraps d) = q s := by
  unfold State.sampleStraps
  dsimp only
  rw [hq, hq, hq]

theorem State.ApartFromWords.resetFreqs : q s.resetFreqs = q s := by
  have showed (u : State) : q u.showFreqs = q u := by
    refine foldl_keeps _ (fun t c => ?_) u
    split
    · rfl
    · exact hq _ _ _ _
  unfold State.resetFreqs State.floorFreqs
  dsimp only
  rw [foldl_keeps _ (fun t n => hq t _ n _), foldl_keeps _ (fun t n => hq t _ n _), foldl_keeps _ (fun t n => hq t _ n _),
    showed, foldl_keeps _ (fun t c => (hq _ _ _ _).trans (hq t _ c _))]

theorem State.ApartFromWords.showSources : q s.showSources = q s :=
  foldl_keeps _ (fun t _ => hq t _ 0 _) s

end Apart

/-- The main domain at reset, with the rails up, the regulators on and boot step 1 begun. -/
def State.coldStart (s : State) : State :=
  { s.blankMain with
    boot := { BootState.reset with
      straps := s.boot.straps, aux := true, main := true, regulators := true, step := 1, perst := s.boot.perst
      thermtripN := s.boot.thermtripN, alertN := s.boot.thermtripN } }

/-- What follows the start of a cold reset is in register words: the straps, the frequencies and the sources. -/
theorem State.ApartFromWords.coldReset (hq : State.ApartFromWords q) (s : State) : q s.coldReset = q s.coldStart := by
  have strapped : q ((List.range 8).foldl (fun t d => (t.setF F.cdStatus_IORING_OK d 1).sampleStraps d) s.coldStart) =
      q s.coldStart :=
    foldl_keeps _ (fun t d => (hq.sampleStraps _ d).trans (hq t _ d _)) _
  rw [← strapped, State.coldReset, hq.showSources, hq.resetFreqs]
  rfl

theorem State.blankMain_pending (s : State) : s.blankMain.pending = s.pending := by
  rw [State.blankMain, State.noteKeg, State.setF_pending]
  rfl

theorem State.blankMain_keg (s : State) : s.blankMain.sec.keg = s.sec.keg := by
  rw [State.blankMain, State.noteKeg, State.setF_sec]
  rfl

theorem State.blankMain_co (s : State) : s.blankMain.co = State.reset.co := by
  rw [State.blankMain, State.noteKeg, State.setF_co]
  rfl

theorem completes_regulatorsInRegulation {s : State} (ha : s.boot.aux = true) (hm : s.boot.main = true)
    (hr : s.boot.regulators = false) (ht : s.boot.thermal = false) :
    ∃ t, Completes Instr.regulatorsInRegulation s t ∧ t.boot.step = 1 ∧ t.boot.regulators = true ∧
      t.pending = s.pending ∧ t.sec.keg = s.sec.keg ∧ ∀ c, t.core c = CoreSt.reset := by
  have boot : s.coldReset.boot = s.coldStart.boot :=
    State.ApartFromWords.coldReset (fun _ _ _ _ => State.setF_boot _ _ _ _) s
  have pending : s.coldReset.pending = s.coldStart.pending :=
    State.ApartFromWords.coldReset (fun _ _ _ _ => State.setF_pending _ _ _ _) s
  have sec : s.coldReset.sec = s.coldStart.sec :=
    State.ApartFromWords.coldReset (fun _ _ _ _ => State.setF_sec _ _ _ _) s
  have co : s.coldReset.co = s.coldStart.co := State.ApartFromWords.coldReset (fun _ _ _ _ => State.setF_co _ _ _ _) s
  refine ⟨_, completes_of_effect (by rw [ha, hm, hr, ht]; rfl) rfl rfl rfl, ?_, ?_, ?_, ?_, fun c => ?_⟩
  · rw [State.pins_boot_step, boot, State.coldStart]
  · rw [State.pins_boot_regulators, boot, State.coldStart]
  · rw [State.pins_pending, pending, State.coldStart, State.blankMain_pending]
  · rw [State.pins_sec, sec, State.coldStart, State.blankMain_keg]
  · rw [State.core, State.pins_co, co, State.coldStart, State.blankMain_co]
    rfl

end ColdReset

/-! ### The link's reset and the TAP's (17 R572, R578) -/

section Resets
variable {s : State}

theorem completes_linkReset (hm : s.boot.main = true) (hp : s.boot.perst = false) :
    ∃ t, Completes Instr.linkReset s t ∧ t.boot.perst = true ∧
      t.host = { HostState.reset with pfCount := max 1 (s.f F.pciCtlMsixPf_COUNT 0) } := by
  refine ⟨_, completes_of_effect (by rw [hm, hp]; rfl) rfl rfl rfl, ?_, ?_⟩
  · rw [State.pins_boot_perst, State.linkReset]
  · rw [State.pins_host, State.linkReset]

theorem completes_perstDeassert (hp : s.boot.perst = true) :
    ∃ t, Completes Instr.perstDeassert s t ∧ t.boot.perst = false :=
  ⟨_, completes_of_effect hp rfl rfl rfl, State.pins_boot_perst _⟩

theorem completes_tapReset (s : State) : ∃ t, Completes Instr.tapReset s t ∧ t.boot.tapReset = true :=
  ⟨_, completes_of_effect (c := .tapReset) rfl rfl rfl rfl, State.pins_boot_tapReset _⟩

end Resets

/-! ### The steps of boot (17 R579) -/

section Boot
variable {s : State} {r : BootReport}

theorem completes_bootStepEnd (hr : s.boot.regulators = true) (hb : s.booting = true) (h0 : s.boot.result = 0)
    (hc : s.boot.step ≠ 1 ∨ s.boot.thermtripN = false ∨ cool r.junctions = true) :
    Completes (.bootStepEnd r) s (State.service s (s.endStep r)).pins := by
  have ends : (s.boot.step != 1 || !s.boot.thermtripN || cool r.junctions) = true := by
    rcases hc with h | h | h <;> simp [h]
  exact completes_of_effect (by rw [hr, hb, h0, ends]; rfl) rfl rfl rfl

/-- A Keg that fails its self-test halts step 1. -/
theorem State.endStep_selfTest (h1 : s.boot.step = 1) (hf : r.selfTestOk = false) :
    (s.endStep r).boot.haltCode = 0x0101 := by
  have first : s.endStep r = s.boot1 r := by
    rw [State.endStep, h1]
    rfl
  rw [first, State.boot1, hf, if_pos (by decide), State.halt]

/-- Beats of the recorded length, in service. -/
def State.startBeats (s : State) : State := (s.tick.setF F.beatCfg_LEN 0 s.recordedLen).setF F.beatCtrl_ENABLE 0 1

/-- Step 7 without a source of marks ends boot with its beats alone. -/
theorem State.boot7_free (hs : s.b F.beatCtrl_SOURCE 0 = false) :
    (s.boot7 r).boot.result = 1 ∧ (s.boot7 r).regs = s.startBeats.regs := by
  have source : s.startBeats.b F.beatCtrl_SOURCE 0 = false := by
    rw [State.startBeats, State.b_setF_field _ _ _ (by decide) (by decide) (by decide),
      State.b_setF_ne _ _ (by decide) (by decide) (.inl (by decide)), State.b_of_regs (State.tick_regs s), hs]
  rw [State.boot7, ← State.startBeats, source]
  exact ⟨rfl, rfl⟩

theorem State.endStep_free (h7 : s.boot.step = 7) (hs : s.b F.beatCtrl_SOURCE 0 = false) :
    (s.endStep r).boot.result = 1 ∧ (s.endStep r).b F.beatCtrl_ENABLE 0 = true := by
  have last : s.endStep r = s.boot7 r := by
    rw [State.endStep, h7]
    rfl
  obtain ⟨result, regs⟩ := State.boot7_free (r := r) hs
  refine ⟨last ▸ result, ?_⟩
  rw [last, State.b_of_regs regs, State.startBeats, State.b_setF_one _ _ (by decide) rfl]

end Boot

/-! ### The thermal safe state (17 R581, R582) -/

section Thermal
variable {s : State}

theorem completes_thermalTrip {what : TripSource} (hr : s.boot.regulators = true) (ht : s.boot.thermal = false)
    (ho : tripOk what = true) :
    ∃ t, Completes (.thermalTrip what) s t ∧ t.boot.thermtripN = true ∧ t.boot.regulators = false ∧
      t.boot.thermal = true ∧ t.boot.result = 4 := by
  refine ⟨_, completes_of_effect (by rw [hr, ht, ho]; rfl) rfl rfl rfl, ?_⟩
  rw [State.pins_boot_thermtripN, State.pins_boot_regulators, State.pins_boot_thermal, State.pins_boot_result,
    State.service_boot]
  unfold State.trip
  exact ⟨rfl, rfl, rfl, rfl⟩

theorem completes_thermalRecheck {tj : List Nat} (h1 : s.boot.step = 1) (h0 : s.boot.result = 0)
    (ht : s.boot.thermtripN = true) :
    ∃ t, Completes (.thermalRecheck tj) s t ∧ t.boot.thermtripN = !cool tj := by
  refine ⟨_, completes_of_effect (by rw [h1, h0, ht]; rfl) rfl rfl rfl, ?_⟩
  rw [State.pins_boot_thermtripN, State.service_boot]
  cases cool tj
  · exact ht
  · rfl

end Thermal

/-! ### The management port (17 R574) -/

/-- A read of the management port sends its value. -/
theorem completes_mgmtRead {c : Instr} {v : Nat} {s : State} (ha : s.boot.aux = true) (hw : c.wf = true)
    (hc : exec c s = mgmtRead c v s) : Completes c s (s.emit (.mgmt v)).pins :=
  completes_of_effect ha hw hc rfl

/-- Settles O60: rails, resets, steps and trips by what they leave in the boot state, then the port. -/
theorem railsAndBoot : Obligations.RailsAndBoot := by
  refine fun s => ⟨fun _ => completes_vinAuxOn, fun _ => completes_vinMainOn, completes_vinAuxLoss, completes_vinMainLoss,
    completes_regulatorsInRegulation, completes_linkReset, completes_perstDeassert, completes_tapReset s,
    fun r hr hb h0 hc => ⟨completes_bootStepEnd hr hb h0 hc, State.endStep_selfTest, State.endStep_free⟩,
    fun _ => completes_thermalTrip, fun _ => completes_thermalRecheck,
    fun ha => ⟨completes_mgmtRead ha rfl rfl, completes_mgmtRead ha rfl rfl, completes_mgmtRead ha rfl rfl,
      completes_mgmtRead ha rfl rfl, completes_mgmtRead ha rfl rfl, completes_mgmtRead ha rfl rfl, fun hn => ?_⟩⟩
  exact completes_of_effect (by rw [ha, hn]; rfl) rfl rfl rfl

end Sys2Proof.Machine
end
